-- ==== Sys2Proof/Word.lean ====
section
/-! DEFINITION. The words of the KTC: register words of 32 bits, carriages and TICK of 64 bits, bytes
(R11, R20, R81), and the shape of a sparse table. Operations on tables stand in Machine/Ops.lean. -/

namespace Sys2Proof

/-- A register word (R11). -/
abbrev Word := BitVec 32

/-- A carriage, or a TICK value (R20, R81). -/
abbrev DWord := BitVec 64

/-- A byte. -/
abbrev Byte := BitVec 8

/-- A sparse table: entries by index, indices strictly rising; an index without an entry holds the
table's default. -/
abbrev Tbl (α : Type) := List (Nat × α)

end Sys2Proof
end

