-- ==== Sys2Proof/Syntax.lean ====
section
/-! DEFINITION. The commands of the block: one constructor for each row of spec/opcode_table.json.
A row that is a register write carries the path it comes by (R38, R43). A row that is an event of the
physical world carries the quantities the world decides (a measured period, a reading, a raw code). -/

namespace Sys2Proof

/-- The paths by which a register is reached (R38, R42, R43). -/
inductive Path where
  | host | smbus | seq
  deriving DecidableEq, Repr

/-- The two root references (R48). -/
inductive Ref where
  | A | B
  deriving DecidableEq, Repr

/-- The two root PLLs (R58). -/
inductive Root where
  | rpa | rpb
  deriving DecidableEq, Repr

/-- What the watch channel measured over a window (R52): offset in ppm, rms jitter in ps, the largest
period deviation in ps, the duty cycle in per cent. -/
structure WatchFigures where
  freqPpm : Int
  jitRms  : Nat
  ppDevPs : Nat
  duty    : Nat
  deriving DecidableEq, Repr

/-- The per-period test that failed (R52, R56): the deviation of a period from 10 ns in ps, the duty cycle in
per cent, or a missing edge; `missing true` is the second consecutive missing edge. -/
inductive PeriodFail where
  | period (devPs : Nat)
  | duty (pct : Nat)
  | missing (second : Bool)
  deriving DecidableEq, Repr

/-- A message on the spine's control channel to the tap of a region (R79): the arm or cancel message of a door
slot, the n-th broadcast message. -/
inductive CtlMsg where
  | arm (slot r : Nat)
  | cancel (slot r : Nat)
  | bcast (n r : Nat)
  deriving DecidableEq, Repr

/-- Why loss of lock is declared (R101): the phase error stood at `err` sixty-fourths or more for `tk`
consecutive tk; the DCO completed `n` cycles in an 8-tk span; it gave no edge within a die-tick period. -/
inductive LolCause where
  | phase (err tk : Nat)
  | cycles (n : Nat)
  | noEdge
  deriving DecidableEq, Repr

/-- How an AVSBus frame ends (R179, R433). `ok mv` carries the value a read returns. -/
inductive AvsResp where
  | noResponse
  | crcFail
  | statusError
  | ok (mv : Nat)
  deriving DecidableEq, Repr

/-- The four sums of a calibration: one-period and two-period sums of each interpolator (R232). -/
structure CalSums where
  a1 : Nat
  a2 : Nat
  b1 : Nat
  b2 : Nat
  deriving DecidableEq, Repr

/-- The causes of a cold reset (R423). -/
inductive ResetCause where
  | ktcRst | vddKtc | vddIo | management
  deriving DecidableEq, Repr

/-- The PEC byte of an SMBus write (R431): none sent, a good one, a bad one. -/
inductive Pec where
  | absent | good | bad
  deriving DecidableEq, Repr

/-- Which of the island's inputs is absent (R396). -/
inductive Absent where
  | adc | mref
  deriving DecidableEq, Repr

/-- The commands, in the order of the table. -/
inductive Instr where
  -- window
  | registerWrite (p : Path) (off width : Nat) (v : Word)
  | readLowWordLatch (p : Path) (off width : Nat)
  | clrIgnored (p : Path)
  -- references, roots and spine
  | refEdgesAppear (f : Ref)
  | refEnable (p : Path) (f : Ref) (en : Bool)
  | qualificationComplete (f : Ref) (m : WatchFigures) (phasePs : Int)
  | watchWindowEnd (m : WatchFigures)
  | watchPeriodFail (k : PeriodFail)
  | missingEdgeWindowClose
  | missOne
  | rootLock (x : Root) (residualPs phasePs : Int)
  | rootAcquireTimeout (x : Root)
  | rootFault (x : Root)
  | switchover (phasePs : Int)
  | revertiveSwitchover
  | forceSwitch (p : Path)
  | slewDone (phasePs : Int)
  | retry (p : Path) (a b : Bool)
  | segSwap (seg : Nat) (cut : List CtlMsg)
  | spareTrunkFail (half : Nat)
  -- regional generators
  | racgStart (p : Path) (r gear : Nat)
  | racgStop (p : Path) (r : Nat)
  | racgAcquire (p : Path) (r gear : Nat)
  | racgSwap (p : Path) (r : Nat)
  | racgReturn (p : Path) (r : Nat)
  | toBypass (p : Path) (r : Nat)
  | racgOpen (p : Path) (r : Nat)
  | racgClose (p : Path) (r : Nat)
  | racgReservedCmd (p : Path) (r code : Nat)
  | lock (r dcw : Nat)
  | lossOfLock (r : Nat) (c : LolCause)
  | outputSwitchComplete (r : Nat)
  | ceilLimited (r : Nat)
  | ceilTblWrite (p : Path) (r g : Nat) (v : Word)
  | armMessage (slot r : Nat)
  | doorTaken (r : Nat)
  | rampStep (r dcw : Nat)
  | dcoMeasStart (p : Path) (r code : Nat)
  | measDone (r count : Nat)
  | phaseCtlWrite (p : Path) (r : Nat) (v : Word)
  | phaseDone (r : Nat)
  | refLost (r : Nat)
  | holdExit (r : Nat)
  | shutterClosed (r : Nat)
  | shutterOpened (r : Nat)
  | clrMargin (p : Path) (r : Nat)
  -- droop, calibration, ledger, thermal
  | droopCrossing (r quiet : Nat) (readings : List Nat)
  | episodeEnd (r : Nat) (readings : List Nat)
  | episodeContinued (r : Nat)
  | episodeHistSpan
  | thermalConversion (r : Nat) (t0 t1 : Int)
  | detMaskWrite (p : Path) (r : Nat) (v : Word)
  | detCalSelWrite (p : Path) (r : Nat) (v : Word)
  | detTrimWrite (p : Path) (r w : Nat) (v : Word)
  | probeStart (p : Path) (r adv : Nat) (live : Bool)
  | probeDone (r changes : Nat) (late : Bool) (lowest : List Nat)
  | calDone (p : Path) (r : Nat)
  | calExpired (r : Nat)
  | snap (p : Path) (r : Nat)
  | periodicSnapshot (r : Nat)
  -- forecast, stagger, warnings, AVSBus
  | forecast (r : Nat) (msg : Word)
  | windowClose (r : Nat)
  | ldwarnDeassert (rail : Nat)
  | staggerSlotExpiry (cluster : Nat)
  | fcEnWrite (p : Path) (en : Bool)
  | warnEnWrite (p : Path) (en : Bool)
  | avsGo (p : Path) (n mv : Nat)
  | avsFrameEnd (n : Nat) (resp : AvsResp)
  | avsSettleDone (n : Nat)
  -- gears and doors
  | gearTableWrite (p : Path) (g : Nat) (high : Bool) (v : Word)
  | slotGo (p : Path) (slot target : Nat) (resync : Bool)
  | armAcknowledgement (slot r : Nat)
  | armingDeadline (slot : Nat)
  | cancelMessage (slot r : Nat)
  | cancelAck (slot r : Nat)
  | cancelResend (slot : Nat)
  | cancelLost (slot : Nat)
  | slotAbort (p : Path) (slot : Nat)
  | settleCheck (slot : Nat)
  | thermTripClr (p : Path) (w : Nat) (v : Word)
  -- couplers
  | couplerWrite (i : Nat) (req : Bool) (lanes : List DWord) (late ptrBad : Bool)
  | couplerRead (i : Nat) (req late : Bool) (badLanes : List Nat) (ptrBad : Bool)
  | cplEnable (p : Path) (i : Nat)
  | enableComplete (i : Nat)
  | cplDrain (p : Path) (i : Nat) (side : Bool)
  | drained (i : Nat)
  | cplHold (p : Path) (i : Nat)
  | held (i : Nat)
  | holdSlow (i : Nat)
  | cplRelease (p : Path) (i : Nat)
  | cplSwap (p : Path) (i : Nat)
  | cplUnswap (p : Path) (i : Nat)
  | swapped (i : Nat)
  | cplDisable (p : Path) (i : Nat)
  | cplReservedCmd (p : Path) (i code : Nat)
  | stallLong (i : Nat)
  | clrStats (p : Path) (i : Nat)
  -- measurement
  | measArm (p : Path) (ch : Nat) (tbOk : Bool)
  | measDisarm (p : Path) (ch : Nat)
  | measReservedCmd (p : Path) (ch code : Nat)
  | measCfgWrite (p : Path) (ch reg : Nat) (v : Word)
  | measCalDone (ch : Nat) (sums : CalSums)
  | startEdge (ch raw pos : Nat)
  | stopEdge (ch raw pos : Nat)
  | resultComplete (ch : Nat) (tbOk : Bool)
  | orphan (ch : Nat)
  | overflow (ch : Nat) (tbOk : Bool)
  | resultHeadRead (p : Path) (ch : Nat)
  | streamStamp (ch raw pos : Nat)
  | streamRecal (ch : Nat) (tbOk : Bool) (sum1 sum2 : Nat)
  | streamCoachTimeout (ch : Nat)
  -- record pool and queues
  | coachGrant
  | coachWritten (q : Nat)
  | qPop (p : Path) (q : Nat)
  | rdLo (p : Path) (q : Nat)
  | rdHi (p : Path) (q : Nat)
  | heldReadComplete (q : Nat)
  | flush (p : Path) (q : Nat)
  | flushDone (q : Nat)
  | qDisable (p : Path) (q : Nat)
  | mark (p : Path) (q : Nat)
  | rewind (p : Path) (q : Nat)
  | clrCounts (p : Path) (q : Nat)
  | clrPeak (p : Path)
  | poolDebugWrite (p : Path) (off : Nat) (v : Word)
  | coalesceStart
  | coalesceBoundary
  -- group tick
  | syncInEdge (pos : Nat)
  | todMessage (bytes : List Byte)
  | alignWordSend (link : Nat)
  | alignWordReceive (link : Nat) (w0 w1 : DWord) (pos : Nat)
  | join (p : Path)
  | leave (p : Path)
  | joinTimeout
  | tickStep
  | sourceLost
  | ejected
  | peerLost (link : Nat)
  | cmpArm (p : Path) (k : Nat)
  | slotFired (k : Nat)
  | commitArm (p : Path)
  | commit
  | copy (p : Path)
  | gtConfigWrite (p : Path) (off : Nat) (v : Word)
  | syncOutPulse
  -- hazard, fencing, snapshots
  | hazardUpdate
  | hazardUpdateEffect
  | mapPortMessage (logical gen : Nat)
  | fence (p : Path) (target : Nat) (adopt : Bool)
  | fenceDone
  | adopt (p : Path) (logical : Nat)
  | adopted
  | adoptUndo
  | unfence (p : Path) (target : Nat)
  | fenceReservedCmd (p : Path) (target : Nat)
  | feedNote (p : Path) (code : Nat)
  | partnerWrite (p : Path) (k : Nat) (v : Word)
  | snapAck (p : Path)
  | stamp (p : Path) (answer : Bool) (req : Nat)
  -- Lysio: the issue by task t of the instruction at its program counter
  | add (t : Nat) | sub (t : Nat) | and (t : Nat) | or (t : Nat) | xor (t : Nat)
  | shl (t : Nat) | shr (t : Nat) | sra (t : Nat) | mul (t : Nat) | slt (t : Nat) | sltu (t : Nat)
  | addi (t : Nat) | andi (t : Nat) | ori (t : Nat) | xori (t : Nat)
  | shli (t : Nat) | shri (t : Nat) | srai (t : Nat) | lui (t : Nat) | slti (t : Nat)
  | beq (t : Nat) | bne (t : Nat) | blt (t : Nat) | bge (t : Nat) | bltu (t : Nat) | bgeu (t : Nat)
  | jal (t : Nat) | jalr (t : Nat) | rds (t : Nat)
  | ld (t : Nat) | st (t : Nat) | xchg (t : Nat) | ldk (t : Nat) | stk (t : Nat)
  | postedWrite (n : Nat)
  | rdt (t : Nat) | waitt (t : Nat) | waitr (t : Nat)
  | timedWaitEnd (t : Nat)
  | waite (t : Nat)
  | eventWaitEnd (t : Nat)
  | setev (t : Nat) | clrev (t : Nat) | dwait (t : Nat)
  | doorWaitEnd (t : Nat)
  | bcast (t : Nat)
  | bcastMessage (n r : Nat) (cut : Bool)
  | armd (t : Nat)
  | armdLand (t : Nat)
  | push (t : Nat)
  | pushGrant (t : Nat)
  | pop (t : Nat)
  | tstart (t : Nat) | tstop (t : Nat) | halt (t : Nat)
  | illegalInstruction (t : Nat)
  -- loading and sequencer control
  | loadTimeout
  | loadBegin (p : Path)
  | imgData (p : Path) (v : Word)
  | loadEnd (p : Path)
  | loadVerifyDone
  | loadAbort (p : Path)
  | loadGapTimeout
  | seqRestart (p : Path) (mask : Nat)
  | seqStop (p : Path) (mask : Nat)
  -- host commands
  | submit (p : Path) (len : Nat)
  | cmdStatus (t : Nat) (supported : Bool)
  | cmdGearChange (t : Nat) (supported : Bool)
  | cmdGearAbort (t : Nat) (supported : Bool)
  | cmdRacg (t : Nat) (supported : Bool)
  | cmdCoupler (t : Nat) (supported : Bool)
  | cmdFence (t : Nat) (supported : Bool)
  | cmdAdopt (t : Nat) (supported : Bool)
  | cmdUnfence (t : Nat) (supported : Bool)
  | cmdMeasArm (t : Nat) (supported tbOk : Bool)
  | cmdMeasDisarm (t : Nat) (supported : Bool)
  | cmdGtJoin (t : Nat) (supported : Bool)
  | cmdGtLeave (t : Nat) (supported : Bool)
  | cmdSnapStamp (t : Nat) (supported : Bool)
  | cmdSnapAck (t : Nat) (supported : Bool)
  | cmdPartners (t : Nat) (supported : Bool)
  | cmdMalformed (t : Nat)
  -- metrology island and mailbox
  | islandStart (xtal mref adc : Bool)
  | standbyLoss (vbat : Bool)
  | xtalOkChange (ok : Bool)
  | islandSyncEdge (deltaUs : Nat)
  | islandTodMessage (bytes : List Byte)
  | adcFrame (frame : Option DWord)
  | adcFault (cycles : Nat)
  | adcRecovery
  | mrefLost (cycles : Nat)
  | mrefReturn
  | intervalClose (cycles : Nat)
  | recordHandover
  | parameterBlock (bytes : List Byte) (unsealLow : Bool) (cycles : Nat)
  | paramBlockTimeout
  | mailboxPowerGood
  | replayHandover
  | mailboxCoach
  | mailboxSlotRead (p : Path) (k : Nat)
  -- reset and pins
  | coldReset (c : ResetCause)
  | coldResetEnd (smbAddr feedStrap : Nat)
  | evtInAssert (i : Nat)
  | evtInDeassert (i : Nat)
  -- SMBus target
  | read32 (off : Nat)
  | write32 (off : Nat) (v : Word) (pec : Pec)
  | readn (off n : Nat)
  | smbBadCommand (code count : Nat)
  | smbTimeout
  -- life cycle
  | verify (p : Path)
  | verifyDone
  | enterField (p : Path)
  | lcEnd (p : Path) (arg : Nat)
  | keyInstall (p : Path) (arg : Nat)
  | revoke (p : Path) (arg : Nat)
  | raiseFloor (p : Path) (arg : Nat)
  | relock (p : Path)
  | lcReservedCmd (p : Path) (code : Nat)
  | seal (p : Path)
  | autoSeal
  | transitionCommit
  | unlockExpiry
  -- rows added at the end of the table
  | preferredRefWaitExpiry
  | coldQualificationFail (f : Ref) (twoMissing : Bool)
  | syncInEdgeMissing
  | todMessageMissing
  | islandSyncEdgeMissing
  | islandAbsenceTimeout (a : Absent)
  | mailboxMirrorUpdate (seconds fraction : Nat)
  deriving DecidableEq, Repr

end Sys2Proof
end

