-- ==== Sys2Proof/Config.lean ====
section
/-! DEFINITION. What the spec leaves to the die, the board or chance: wired, fused and manufacture
values, free values, and the outside standards it names without restating. None has a body, so no
proof can rest on a particular value (log entries 3, 5, 6, 7). -/

namespace Sys2Proof.Config

/-- Which free cart a grant reserves, by the number of the choice (R257 names none). -/
opaque cartChoice : Nat → Nat

/-- The phase of a region clock when its counted time starts, in 1/256 of a period (R100). -/
opaque edgePhase : Nat → Nat

/-- PHASE_MEAS after a lock, in sixty-fourths of a period (R100, R118). -/
opaque phaseAtLock : Nat → Nat

/-- How far the clock of a region in HOLD has moved, in 1/256 of a period, from a die tick to a later one, and
how far it had come: it cannot be related to TICK (R124). -/
opaque holdProgress : Nat → Nat → Nat → Nat

/-- DCW of a region at a die tick of an acquisition, before the ceiling limits it: the loop's motion is not
given (R97, R98). -/
opaque acqDcw : Nat → Nat → Nat

/-- DCW at a lock that is declared in the die tick of a command ordered after it (R125). -/
opaque lockDcw : Nat → Nat

/-- Whether the time-base check of an ARM passes that is written by a plain register write (R231). -/
opaque timeBase : Nat → Bool

/-- Whether a transition cut short by a cold reset is found committed (R444). -/
opaque cutCommits : Nat → Bool

/-- The level of the AVS_SDATA pin in a die tick (R436). -/
opaque avsSdata : Nat → Bool

/-- The random value LC_NONCE takes (R442). -/
opaque nonce : Nat → DWord

/-- The words of the sequencer ROM (R371). -/
opaque romWord : Nat → Word

/-- Where the ROM program starts, in LOADING and in ROM mode (R371). -/
opaque romEntry : Nat
opaque romModeEntry : Nat

/-- The two codes at which the ROM program measures DCO1 (R468). -/
opaque romCode1 : Nat
opaque romCode2 : Nat

/-- How long an access to a region or coupler page takes, up to 8 tk (R349). -/
opaque pageLag : Nat → Nat

/-- The wiring of a coupler function: far region, direction, lanes less one (R203). -/
opaque cplFar : Nat → Nat
opaque cplDir : Nat → Bool
opaque cplLanes : Nat → Nat

/-- ROOT_PHASE_CAL, set at manufacture (R62). -/
opaque rootPhaseCal : BitVec 16

/-- LINK_CAL.TXRX of a link, set at manufacture, ps (R287). -/
opaque linkTxrx : Nat → BitVec 16

/-- LC_UID, fused at manufacture (R453). -/
opaque uid : DWord

/-- ISLAND_ID (R404). -/
opaque islandId : DWord

/-- ECDSA P-384 with SHA-384 under FIPS 186-5: does this signature of r and s verify over this
message with this key of x and y, all in bytes (R374, R440). -/
opaque ecdsaVerify : List Byte → List Byte → List Byte → Bool

/-- Whether x and y form a point on P-384 (R448). -/
opaque onCurve : List Byte → Bool

/-- The public keys held in fuses: life-cycle key, firmware slots 0 and 1 (R439). -/
opaque fusedKey : Nat → List Byte
opaque lifeCycleKey : List Byte

/-- How far the calendar's rate is off where the spec bounds it only, by the island's time (R391, R393), and how many
MREF cycles have passed since the last sample where no row tells (R399, R415). -/
opaque calDrift : Nat → Nat
opaque mrefPhase : Nat → Nat

/-- The island's signature of a message with its key of a generation, r then s (R401), and the public
key, x then y (R403). -/
opaque islandSign : Nat → List Byte → List Byte
opaque islandPub : Nat → List Byte

end Sys2Proof.Config
end

