-- ==== Sys2Proof/Machine/State.lean ====
section
/-! DEFINITION. The state of the block, as plain data: every register, counter, queue, memory and pin
the spec gives it, the fused and non-volatile facts, and the model's own queue of waiting commands,
clock and output ports. Each field's default is its value after a cold reset (register tables of the
spec; where the spec gives none, the log entry named). Registers that software writes as words
(RW, W1C, LK) are words; RO fields that follow from other state are computed where they are read. -/

namespace Sys2Proof.Machine

/-! ## References, roots, spine (02) -/

/-- R50. -/
inductive RefState where
  | absent | qualifying | qualified
  deriving DecidableEq, Repr

/-- One reference input: its state; whether edges arrive and since when; the start of the 1 ms and of
the open window (R463); since when it has passed R52 under the watch channel (R65); whether the last
watched edge was missing (R52). -/
structure RefInput where
  state     : RefState := .absent
  edges     : Bool := false
  edgesAt   : Nat := 0
  qualAt    : Nat := 0
  winAt     : Nat := 0
  passSince : Option Nat := none
  deriving DecidableEq, Repr

/-- R58. -/
inductive RootState where
  | idle | acquire | active | standby | holdover | slew | fault
  deriving DecidableEq, Repr

/-- One root PLL: state, reference, when ACQUIRE was entered, whether its control word is frozen (R56). -/
structure RootPll where
  state  : RootState := .idle
  ref    : Ref := .A
  acqAt  : Nat := 0
  frozen : Bool := false
  deriving DecidableEq, Repr

/-- The reference and root block and the spine. `measured` says that STANDBY_ALIGN has been measured since
reset; `slewRoom` is how far the SLEW in progress may have moved the die tick so far, in 1/525 ps (R72);
`forcedAt` the die tick in which FORCE_SWITCH ordered the switchover that is due (R76); `deadAt` when each
dead segment failed (R122). -/
structure RefRoot where
  refA        : RefInput := {}
  refB        : RefInput := {}
  rpa         : RootPll := {}
  rpb         : RootPll := {}
  tickSrc     : Root := .rpa
  tickValid   : Bool := false
  refCtl      : Word := 0x00000A03
  refEvent    : Word := 0
  refEventEn  : Word := 0
  refbFitted  : Bool := false
  watchRef    : Ref := .A
  missOne     : Nat := 0
  missRun     : Nat := 0
  watchLimits : Word := 0x05190A32
  watchResult : Word := 0
  detPhase    : Bool := false
  resync      : Bool := false
  phaseOfs    : Int := 0
  residual    : Int := 0
  measured    : Bool := false
  slewCtl     : Word := 10
  slewRoom    : Nat := 0
  switchovers : Nat := 0
  holdovers   : Nat := 0
  holdAt      : Option Nat := none
  holdUnits   : Nat := 0
  switchDue   : Option Nat := none
  forcedAt    : Option Nat := none
  revertSince : Option Nat := none
  prefWait    : Option (Ref × Nat) := none
  spareSeg0   : Option Nat := none
  spareSeg1   : Option Nat := none
  spareFail0  : Bool := false
  spareFail1  : Bool := false
  segFailed   : Word := 0
  deadAt      : Tbl Nat := []
  ctlLost     : Nat := 0
  refEvts     : Nat := 0
  deriving DecidableEq, Repr

/-! ## Regions (03, 04) -/

/-- R94. -/
inductive RacgState where
  | off | acquire | ready | locked | ramp | bypass | hold
  deriving DecidableEq, Repr

/-- An output switch in progress (R103): towards the DCO or the die tick, when it completes, and whether it
belongs to an entry to BYPASS, which BYPASS_ENTER then reports. -/
structure OutSwitch where
  toDco : Bool
  due   : Nat
  enter : Bool := false
  deriving DecidableEq, Repr

/-- The generator of one region: state, armed door, loop, output path, commands in progress. `lockAt` is when
lock was last declared, `lostAt` when REF_LOST was set, `lostTick` the TICK at which the tap then stands
(R122); `ceilWas` the ceiling that a change of gear in this die tick has left (R92); `acqCeil` the ceilings of
the present acquisition, newest first, each with the die tick from which it was in force (R98). -/
structure Racg where
  state      : RacgState := .off
  shutter    : Bool := false
  shutterTo  : Option Bool := none
  dcoSel     : Bool := false
  refLost    : Bool := false
  lostAt     : Nat := 0
  lostTick   : DWord := 0
  armed      : Bool := false
  armGear    : Nat := 0
  armDoor    : DWord := 0
  armSlot    : Nat := 0
  armFlag    : Bool := false
  gear       : Nat := 0
  ceilGear   : Nat := 0
  ceilWas    : Nat := 0
  acqCeil    : List (Nat × Nat) := []
  dcw        : Nat := 0
  ratio      : Nat := 0
  ratioTo    : Nat := 0
  moving     : Bool := false
  rampDoor   : DWord := 0
  rampSteps  : Nat := 0
  acqAt      : Nat := 0
  lockAt     : Nat := 0
  outSwitch  : Option OutSwitch := none
  swapping   : Bool := false
  doorAt     : Option Nat := none
  deriving DecidableEq, Repr

/-- What DCW_MARGIN and CEIL_LIMITED are formed from (R93, R126): `min` is MIN; `since` is when DCW came to
equal the ceiling in LOCKED or RAMP, `told` that CEIL_LIMITED has been set for it; `hist` the past spans in
LOCKED or RAMP, newest first, as (CEIL − DCW, length in tk), over the last 65,536 tk of such time; `cur` the
present span: its margin and when it began. -/
structure Margin where
  min   : Nat := 0x3FFF
  since : Option Nat := none
  told  : Bool := false
  hist  : List (Nat × Nat) := []
  cur   : Option (Nat × Nat) := none
  deriving DecidableEq, Repr

/-- A phase walk (R120): steps are made from `since` on, with `acc` of a local period, in 1/256, already gone
by towards the next one. -/
structure Walk where
  since : Nat
  acc   : Nat := 0
  deriving DecidableEq, Repr

/-- The phase selector (R118 to R121): its position in sixty-fourths; its position at the die tick `seen`, the
last TICK multiple of 8 before it last moved; the walk in progress or paused, and one that a resync door
has made due at the end of its ramp. -/
structure Phase where
  pos  : Nat := 0
  was  : Nat := 0
  seen : Nat := 0
  walk : Option Walk := none
  due  : Bool := false
  deriving DecidableEq, Repr

/-- The registers of the generator's page that software writes, its counts, and the page values that
reads return while the die tick is lost (R123). `was` holds words written in this die tick as they were
before it, by page offset (R92, R126, R138). -/
structure RacgRegs where
  event      : Word := 0
  eventEn    : Word := 0
  loopCfg    : Word := 0x01081008
  acqCfg     : Word := 256
  lolCount   : Nat := 0
  acqCount   : Nat := 0
  ceilTbl    : Tbl Word := []
  measCode   : Nat := 0
  measRun    : Option (Nat × Nat) := none
  measCount  : Nat := 0
  measValid  : Bool := false
  phaseCtl   : Word := 0
  was        : Tbl Word := []
  heldPage   : Option (List Word) := none
  deriving DecidableEq, Repr

/-- A droop episode in progress (R153, R154): the figures of its present piece of 65,536 lc, the largest s and
the total of the whole episode (`peak`, `sum`), and its complete pieces that no coach has told yet, oldest
first, as (largest s, total of s, detectors, lowest reading). -/
structure Episode where
  start  : DWord
  length : Nat
  maxS   : Nat
  totS   : Nat
  dets   : Nat
  lowest : Nat
  peak   : Nat := 0
  sum    : Nat := 0
  pieces : List (Nat × Nat × Nat × Nat) := []
  deriving DecidableEq, Repr

/-- The episodes counted for a histogram coach of the current span (R273, R275). -/
structure CoalHist where
  bins  : List Nat
  count : Nat
  maxS  : Nat
  totS  : Nat
  part  : Bool
  deriving DecidableEq, Repr

/-- Detectors, thresholds and the stretch engine of one region. -/
structure Droop where
  detMask   : Word := 0
  calSel    : Word := 0
  thresh    : Word := 0x02000008
  trims     : Tbl Nat := []
  readings  : Tbl Nat := []
  heldRead  : Tbl Nat := []
  event     : Word := 0
  eventEn   : Word := 0
  k1        : Nat := 0
  k2        : Nat := 0
  kNow      : Nat := 0
  sNow      : Nat := 0
  episode   : Option Episode := none
  bins      : List Nat := [0, 0, 0, 0, 0, 0, 0, 0]
  histLast  : List Nat := [0, 0, 0, 0, 0, 0, 0, 0]
  coalHist  : Option CoalHist := none
  deriving DecidableEq, Repr

/-- The clock of the detectors and the probe (R88, R142): its progress in 1/256 of a period, advanced by
`rate` in each die tick since `since`; the periods in which s was not 0 or a walk step was applied. -/
structure DetClock where
  acc     : Nat := 0
  since   : Nat := 0
  rate    : Nat := 0
  free    : Bool := false
  taken   : Nat := 0
  skipped : Nat := 0
  deriving DecidableEq, Repr

/-- A probe window in progress: ADV, whether LIVE, the detector clock's cycles and excluded cycles at START. -/
structure ProbeRun where
  adv     : Nat
  live    : Bool
  cycles  : Nat
  skipped : Nat
  deriving DecidableEq, Repr

/-- Calibration record and margin probe of one region (R142 to R148). -/
structure Calib where
  clk       : DetClock := {}
  valid     : Bool := false
  gear      : Nat := 0
  drift     : Nat := 0
  doneAt    : Option Nat := none
  maxAge    : Nat := 1000
  trims     : Option (Tbl Nat) := none
  probeAdv  : Nat := 0
  probeSrc  : Bool := false
  probeRun  : Option ProbeRun := none
  prValid   : Bool := false
  prFail    : Bool := false
  prShort   : Bool := false
  prIdle    : Bool := false
  prAdv     : Nat := 0
  prSkipped : Nat := 0
  deriving DecidableEq, Repr

/-- The cycle ledger (R149 to R152). `acc` counts progress of the region clock behind an open shutter
in 1/256 of a local period, advanced by `rate` in each die tick since `since`, or where `free` by an amount
the spec leaves open (R124); `taken` is what stretches and walk steps took of it; `due` holds the causes of
a snapshot at the next die-tick edge (R150), `snapAt` the die tick whose edge took the last one. -/
structure Ledger where
  acc      : Nat := 0
  since    : Nat := 0
  rate     : Nat := 0
  free     : Bool := false
  taken    : Nat := 0
  due      : Nat := 0
  snapAt   : Option Nat := none
  sTot     : DWord := 0
  wTot     : Word := 0
  curMax   : Nat := 0
  ctl      : Word := 0x00001800
  maxDepth : Nat := 0
  seq      : Nat := 0
  tick     : DWord := 0
  lc       : DWord := 0
  s        : DWord := 0
  w        : Word := 0
  deriving DecidableEq, Repr

/-- The thermal sensors of one region (R130, R131): latest readings, when they were converted, and the history
of the higher unmasked reading, newest first; whether the guard's TO_BYPASS is due in the next die tick
(R200). -/
structure Thermal where
  convAt : Option Nat := none
  guard  : Bool := false
  t0   : Int := 0
  t1   : Int := 0
  hist : List Int := []
  hot  : Bool := false
  trip : Bool := false
  deriving DecidableEq, Repr

/-- One region's page. -/
structure Region where
  racg    : Racg := {}
  regs    : RacgRegs := {}
  phase   : Phase := {}
  droop   : Droop := {}
  cal     : Calib := {}
  ledger  : Ledger := {}
  margin  : Margin := {}
  thermal : Thermal := {}
  deriving DecidableEq, Repr

/-! ## Forecast, stagger, AVSBus (05) -/

/-- An open forecast window (R164). -/
structure FcWindow where
  close : Nat
  cls   : Nat
  deriving DecidableEq, Repr

/-- One rail: the changes of its sum S, newest first, as (die tick, value); the die tick in which a rise is to
assert its LDWARN line, the line, and when it was asserted (R174). -/
structure Rail where
  sums   : List (Nat × Nat) := []
  due    : Option Nat := none
  warn   : Bool := false
  warnAt : Nat := 0
  deriving DecidableEq, Repr

/-- Where an AVSBus request stands (R179). -/
inductive AvsPhase where
  | writing | settling (due : Nat) | reading
  deriving DecidableEq, Repr

/-- One request channel. `startAt` is when the present frame was ready, `endAt` when the last request ended,
`confWas` CONFIRMED before that (R201). -/
structure AvsChan where
  mv      : Nat := 0
  limit   : Word := 0
  cfg     : Word := 0x010A1000
  run     : Option (Nat × AvsPhase) := none
  startAt : Nat := 0
  queued  : Option Nat := none
  endAt   : Option Nat := none
  confWas : Nat := 0
  lastMv  : Nat := 0
  result  : Nat := 0
  retries : Nat := 0
  deriving DecidableEq, Repr

/-- The forecast and stagger block. `was` holds words written in this die tick as they were before it, by
offset (R167, R175, R180), `bands` the values of BAND_LIM and TIGHT_VAL with the die tick from which each was in
force, newest first (R169, R180). -/
structure Forecast where
  was      : Tbl Word := []
  bands    : List (Nat × Word × Word) := []
  ctl      : Word := 0xF
  event    : Word := 0
  eventEn  : Word := 0
  railMap  : Word := 0xFFAA5500
  warnCfg  : Word := 0x80400010
  winCfg   : Word := 0x00000210
  bandLim  : Word := 0x0600C010
  tightVal : Word := 0x00008642
  fmtTbl   : Tbl Word := []
  stepMax  : Tbl Word := []
  windows  : Tbl (List FcWindow) := []
  stagger  : Tbl (Tbl Nat) := []
  rails    : Tbl Rail := []
  discards : Nat := 0
  stagSats : Nat := 0
  badFmt   : Nat := 0
  oversize : Nat := 0
  evicts   : Nat := 0
  accepted : Nat := 0
  avs      : Tbl AvsChan := []
  avsEvent : Word := 0
  avsEventEn : Word := 0
  deriving DecidableEq, Repr

/-! ## Gears and doors (06) -/

/-- R189. -/
inductive SlotState where
  | idle | arming | armed | cancelling | opened | complete | cancelled
  deriving DecidableEq, Repr

/-- A region set of a door slot: bit i stands for region i (R202). -/
abbrev RegionSet := BitVec 224

/-- One door slot with the messages of its change that are on the spine (R191, R193). `bypassed` holds
the regions that were in BYPASS when they acknowledged, `maxN` the largest |ΔN| so far (R195); `ackAt` and
`canAckAt` are when each region gave its acknowledgements (R191). -/
structure DoorSlot where
  target    : Nat := 0
  resync    : Bool := false
  door      : DWord := 0
  set       : RegionSet := 0
  ack       : RegionSet := 0
  exc       : RegionSet := 0
  state     : SlotState := .idle
  aborted   : Bool := false
  reason    : Nat := 0
  flagged   : Bool := false
  goAt      : Nat := 0
  ackLast   : Nat := 0
  armOut    : RegionSet := 0
  ackOut    : RegionSet := 0
  canOut    : RegionSet := 0
  canAckOut : RegionSet := 0
  ackAt     : Tbl Nat := []
  canAckAt  : Tbl Nat := []
  canAck    : RegionSet := 0
  canAt     : Nat := 0
  bypassed  : RegionSet := 0
  taken     : RegionSet := 0
  maxN      : Nat := 0
  deriving DecidableEq, Repr

/-- The gear table and door block. -/
structure Doors where
  gearA      : Tbl Word := []
  gearB      : Tbl Word := []
  event      : Word := 0
  eventEn    : Word := 0
  thermLimit : Word := 0x01CC01A4
  cfg        : Word := 3
  slots      : Tbl DoorSlot := []
  deriving DecidableEq, Repr

/-! ## Couplers (07) -/

/-- R216. -/
inductive CplState where
  | disabled | flowing | holding | held | draining | drained
  deriving DecidableEq, Repr

/-- One side's end of a coupler: its own 5-bit Gray pointer, its sampled copy of the other side's, how
many edges it has had, and at which of them the steps of the other side's pointer that it does not see yet
were made (R208, R211). -/
structure CplSide where
  ptr   : BitVec 5 := 0
  sees  : BitVec 5 := 0
  edges : Nat := 0
  due   : List Nat := []
  deriving DecidableEq, Repr

/-- One coupler function or spare lane. `entries` are the unread entries, oldest first; `flight` is the die
tick of the command whose flag is on its way to the live or the write side, `crossed` the edges it has
crossed there; `hold` and `moded` are what that side has applied (R218, R219). -/
structure Coupler where
  state     : CplState := .disabled
  sync3     : Bool := true
  syncNow   : Bool := true
  stopSide  : Bool := false
  onSpare   : Bool := false
  standsFor : Option Nat := none
  reserved  : Option Nat := none
  entries   : List (List DWord) := []
  wr        : CplSide := {}
  rd        : CplSide := {}
  hold      : Bool := false
  moded     : Bool := false
  modedAt   : Nat := 0
  flight    : Option Nat := none
  crossed   : Nat := 0
  wrPend    : Option (List DWord) := none
  wrPendAt  : Nat := 0
  stallDone : Bool := false
  enableAt  : Option Nat := none
  swapAt    : Option (Nat × Bool) := none
  drainAt   : Nat := 0
  holdAt    : Nat := 0
  slowDone  : Bool := false
  ptrBad    : Bool := false
  peak      : Nat := 0
  stallTk   : Nat := 0
  stallFrom : Nat := 0
  discards  : Nat := 0
  parErrs   : Nat := 0
  ptrErrs   : Nat := 0
  event     : Word := 0
  eventEn   : Word := 0
  limit     : Nat := 4096
  deriving DecidableEq, Repr

/-! ## Measurement unit (08) -/

/-- R229. -/
inductive MeasState where
  | idle | calibrating | waitStart | timing | streaming
  deriving DecidableEq, Repr

/-- A completed or current result (R238, R239). -/
structure MeasResult where
  valid      : Bool := false
  alreadyRead : Bool := false
  seq        : Nat := 0
  status     : Nat := 0
  subres     : Bool := false
  refEvt     : Bool := false
  extraStart : Bool := false
  rateHigh   : Bool := false
  interval   : Nat := 0
  tick       : DWord := 0
  deriving DecidableEq, Repr

/-- One measurement channel. Times of edges are in LSB, 64 to a die tick of `now` (R227): `startT` of the start,
`capA` and `capB` of each interpolator's last capture (R228), `lastStart` and `lastStop` of each input's last
edge (R226), `seenAt` of the latest edge. `heldStop` holds the raw code, the time and the TICK of a held stop
edge (R236). `again` is a REPEAT measurement that begins with the next die tick, with its time-base verdict;
`doneAt` the die tick of the last completion, and `prior` the result it replaced (R238, R246). -/
structure MeasChan where
  cfg        : Word := 0
  cfg2       : Word := 1
  tsOffset   : Word := 0
  state      : MeasState := .idle
  tbOk       : Bool := false
  activeInt  : Bool := false
  event      : Word := 0
  eventEn    : Word := 0
  result     : MeasResult := {}
  latLo      : Word := 0
  latHi      : Word := 0
  latTick    : Word := 0
  sums       : CalSums := { a1 := 0, a2 := 0, b1 := 0, b2 := 0 }
  calSum1    : Nat := 0
  calSum2    : Nat := 0
  calOk      : Bool := false
  calAt      : Nat := 0
  startRaw   : Nat := 0
  startTick  : DWord := 0
  refMark    : Nat := 0
  extraStart : Bool := false
  rateHigh   : Bool := false
  slewSeen   : Bool := false
  startT     : Nat := 0
  stopCount  : Nat := 0
  capA       : Option Nat := none
  capB       : Option Nat := none
  lastStart  : Option Nat := none
  lastStop   : Option Nat := none
  seenAt     : Nat := 0
  again      : Option Bool := none
  doneAt     : Option Nat := none
  prior      : MeasResult := {}
  heldStop   : Option (Nat × Nat × Nat) := none
  stopped    : Option (Nat × Bool × Nat) := none
  orphans    : Nat := 0
  missed     : Nat := 0
  extraStarts : Nat := 0
  streamDrops : Nat := 0
  stamps     : Nat := 0
  edges      : Nat := 0
  recalAt    : Nat := 0
  stream     : List DWord := []
  streamAt   : Nat := 0
  streamTick : DWord := 0
  deriving DecidableEq, Repr

/-! ## Record pool and queues (09) -/

/-- A coach formed by a producer, waiting for grant, with the queue it was routed to. -/
structure Formed where
  queue : Nat
  words : List DWord
  at_   : Nat := 0
  deriving DecidableEq, Repr

/-- A drop report being filled (R261). -/
structure DropReport where
  queue : Nat
  count : Nat
  typ   : Nat
  tick  : Nat
  formed : DWord
  deriving DecidableEq, Repr

/-- A coach in a queue: its source, carriages and carts, and the die tick of its grant; carriage i has
arrived from i tk after that (R257). -/
structure PoolCoach where
  src     : Nat
  words   : List DWord
  carts   : List Nat
  grantAt : Nat
  deriving DecidableEq, Repr

/-- A coach in writing (R257): the next carriage to be written; whether it was popped and its carts go
free with its last carriage (R262). It keeps its place through the tick of its last carriage. -/
structure Writing where
  queue  : Nat
  coach  : PoolCoach
  next   : Nat := 1
  popped : Bool := false
  deriving DecidableEq, Repr

/-- A queue's read buffer (R264): the coach popped, the read index, the latched high word, whether a
read of RD_LO is held. -/
structure ReadBuf where
  words   : List DWord := []
  grantAt : Nat := 0
  idx     : Nat := 0
  latch   : Word := 0
  held    : Bool := false
  deriving DecidableEq, Repr

/-- One queue. `coaches` are in order of grant, retained ones included; `pos` is the read position;
`notices` are the ticks in which notices of coaches fall due; `cfgOld` and `cfgAt` keep Q_CFG as it was
before the writes of a tick, `rewound` the read position before a REWIND, `marked` the mark before a MARK
(R277). -/
structure Queue where
  cfg       : Word := 0x00000080
  cfgOld    : Word := 0
  cfgAt     : Option Nat := none
  maxCarts  : Nat := 256
  event     : Word := 0
  eventEn   : Word := 0
  coaches   : List PoolCoach := []
  pos       : Nat := 0
  markAt    : Option Nat := none
  flush     : Bool := false
  flushAt   : Nat := 0
  rewound   : Option (Nat × Nat) := none
  marked    : Option (Nat × Option Nat) := none
  notices   : List Nat := []
  buf       : ReadBuf := {}
  drops     : Nat := 0
  overruns  : Nat := 0
  count     : Word := 0
  deriving DecidableEq, Repr

/-- The record pool. `carts` holds the bytes of all carts (address 32 n + i), `waiting` the formed
coaches of each source, `reports` its drop report, `startUse` IN_USE as the die tick began, `coalDue` that it
exceeded COAL_ON then, `coalAt` the TICK from which COAL is 1; `leaving` are carts of a coach that the
sequencer has popped and takes in to the die tick given (R262). -/
structure Pool where
  carts    : List Host.Cell := []
  queues   : Tbl Queue := []
  waiting  : Tbl (List Formed) := []
  reports  : Tbl DropReport := []
  writing  : List Writing := []
  leaving  : List (Nat × List Nat × Nat) := []
  startUse : Nat := 0
  lastSrc  : Nat := 0
  cfg      : Word := 0x08000C00
  peak     : Nat := 0
  coal     : Bool := false
  coalDue  : Bool := false
  coalAt   : DWord := 0
  spanAt   : DWord := 0
  drops    : Nat := 0
  unrouted : Nat := 0
  entries  : Nat := 0
  hists    : Nat := 0
  deriving DecidableEq, Repr

/-! ## Group tick (10) -/

/-- R289. -/
inductive GtState where
  | standalone | joining | pullIn | aligned | holdover
  deriving DecidableEq, Repr

/-- One link of the group tick unit: its registers; the launch of its previous word; when the last word
was accepted, whether its peer was lost since (R301), USABLE of that word; the exact last theta in 1/42
of a picosecond. -/
structure GtLink where
  cfg       : Word := 0
  peerId    : Nat := 0xFFF
  peerState : Nat := 0
  heard     : Bool := false
  peerDepth : Nat := 15
  peerRoot  : Nat := 0xFFF
  theta     : Int := 0
  delay     : Nat := 0
  rxLast    : Word := 0
  launch    : Option Nat := none
  launchOld : Option Nat := none
  lastOk    : Nat := 0
  lost      : Bool := false
  usable    : Bool := false
  thetaN    : Int := 0
  deriving DecidableEq, Repr

/-- One compare slot (R298): `armAt` is the die tick in which it was armed, `late` that it was armed at
or below TICK, or that a step passed its value (R293). -/
structure CmpSlot where
  cmp   : DWord := 0
  ctl   : Word := 0
  armed : Bool := false
  armAt : Nat := 0
  late  : Bool := false
  deriving DecidableEq, Repr

/-- The time-of-day sequence (R282): the previous message's number and seconds, how many consecutive
valid ones, and when the last valid SYNC_IN edge came. -/
structure TodSeq where
  seq     : Option Nat := none
  seconds : Nat := 0
  run     : Nat := 0
  deriving DecidableEq, Repr

/-- The group tick block. -/
structure GroupTick where
  ctl       : Word := 0
  state     : GtState := .standalone
  stepPend  : Option Int := none
  depth     : Nat := 15
  onAlt     : Bool := false
  ppsOk     : Bool := false
  ppsRun    : Nat := 0
  ppsStamp  : Option Int := none
  ppsAt     : Nat := 0
  edgeOk    : Bool := false
  edgeSec   : Option Nat := none
  todAt     : Nat := 0
  todOk     : Bool := false
  tod       : TodSeq := {}
  todGot    : Bool := false
  failReason : Nat := 0
  rootId    : Nat := 0xFFF
  event     : Word := 0
  eventEn   : Word := 0
  id        : Word := 0
  role      : Word := 0x06000000
  epoch     : Word := 0
  servo     : Word := 0x27104D62
  win       : Word := 0x0004B0C8
  limits    : Word := 0x020D1482
  limits2   : Word := 0x00201F40
  integ     : Int := 0
  steer     : Int := 0
  thetaPs   : Int := 0
  ppsErr    : Int := 0
  todSec    : Nat := 0
  todFlags  : Nat := 0
  todSeqNo  : Nat := 0
  lastStep  : DWord := 0
  skips     : Nat := 0
  genMism   : Nat := 0
  nonMember : Nat := 0
  srcSwitch : Nat := 0
  gen       : Nat := 0
  prevGen   : Nat := 0
  commitAt  : Option Nat := none
  nextGen   : Nat := 0
  commitTick : DWord := 0
  comArmed  : Bool := false
  comAt     : Nat := 0
  comLate   : Bool := false
  stepAt    : Nat := 0
  links     : Tbl GtLink := []
  cmps      : Tbl CmpSlot := []
  active    : Tbl Word := []
  staged    : Tbl Word := []
  winRun    : Nat := 0
  unRun     : Nat := 0
  joinAt    : Nat := 0
  joinEdge  : Option (Int × Int) := none
  joinExch  : Nat := 0
  holdAt    : Nat := 0
  exchAt    : Nat := 0
  srcLost   : Bool := false
  syncOutAt : Option Nat := none
  gapUntil  : Nat := 0
  toOn      : Bool := false
  deriving DecidableEq, Repr

/-! ## Hazard, fencing, snapshots (11) -/

/-- One region in the hazard monitor: index, thresholds, the scores of the last update, the last value
of each input that was not stale, and what the present update has gathered. -/
structure HzRegion where
  h        : Nat := 0
  fenceTh  : Nat := 0
  fenceReq : Bool := false
  byRef    : Bool := false
  fenced   : Bool := false
  scored   : Bool := false
  staleN   : Nat := 0
  dwell    : Nat := 0
  scores   : List Nat := [0, 0, 0, 0, 0, 0]
  raw      : Nat := 0
  lastDroop : Option (Nat × Nat) := none
  lastCal  : Option (Nat × Nat) := none
  lastMargin : Option Nat := none
  lastTherm : Option Nat := none
  bins     : List Nat := [0, 0, 0, 0, 0, 0, 0, 0]
  refLost  : Bool := false
  ran      : Bool := false
  conv     : Bool := false
  next     : Option (Nat × Nat × Nat × List Nat) := none
  deriving DecidableEq, Repr

/-- One entry of the logical map (R319). -/
structure LmapEntry where
  slot : Option Nat
  gen  : Nat := 0
  told : Bool := false
  deriving DecidableEq, Repr

/-- What the fence unit is doing (R322 to R326, R467): the region fenced (0xFF in a plain ADOPT), the
spare, the logical ID, the die tick of its origin, how many of its timed steps are done, and the couplers
that an adoption enabled. -/
inductive FencePhase where
  | idle
  | fencing  (r : Nat) (logical : Option Nat) (adopt : Bool) (at_ stage : Nat)
  | adopting (r sp logical at_ stage : Nat) (enabled : List Nat)
  | undoing  (r sp logical at_ stage : Nat) (enabled : List Nat)
  deriving DecidableEq, Repr

/-- The hazard and fencing block. -/
structure Hazard where
  ctl      : Word := 0x00064A15
  event    : Word := 0
  eventEn  : Word := 0
  wtCore   : Word := 0x00224332
  wtOther  : Word := 0x00224332
  wtDie    : Word := 0x00000433
  knees    : Tbl Word := []
  snapCfg  : Word := 0x40310000
  fenceCfg : Word := 0x00000C40
  d        : Nat := 0
  dRaw     : Nat := 0
  top      : Nat := 0
  dNext    : Option (Nat × Nat × Nat) := none
  scoreRef : Nat := 0
  scoreRoot : Nat := 0
  scoreFeed : Nat := 0
  top4     : List (Nat × Nat) := []
  latchAt  : Option Nat := none
  updates  : Nat := 0
  rootBad  : Bool := false
  aRef     : Nat := 0
  aRoot    : Nat := 0
  aFeed    : Nat := 0
  snapPend : Bool := false
  reqNum   : Nat := 0
  causes   : Nat := 0
  dLast    : Nat := 0
  threshArmed : Bool := true
  snapDwell : Nat := 0
  stampId  : Word := 0
  stampTick : DWord := 0
  stampMemb : Nat := 0
  stampMap : Nat := 0
  stampD   : Nat := 0
  stampGt  : Nat := 0
  stampAl  : Bool := false
  stampValid : Bool := false
  stampReq : Nat := 0
  stampAns : Bool := false
  mapGen   : Nat := 0
  lmap     : Tbl LmapEntry := []
  fence    : FencePhase := .idle
  reason   : Nat := 0
  lastRegion : Nat := 0xFF
  lastSpare : Nat := 0xFF
  lastLogical : Nat := 0xFF
  feedStrap : Nat := 0
  feedCfg  : Nat := 0
  feedSrc  : Nat := 0
  feedCount : Nat := 0
  partners : Tbl Word := []
  stale    : Nat := 0
  unmapped : Nat := 0
  probeSel : Nat := 0
  regions  : Tbl HzRegion := []
  deriving DecidableEq, Repr

/-! ## Sequencer (12, 13) -/

/-- What a WAITING task waits for (R336, R354, R364). -/
inductive Wait where
  | timed (target : Nat) (d : Nat)
  | event (mask : DWord) (deadline : Option Nat) (clr : Bool) (d : Nat)
  | door  (slot d : Nat)
  | push  (queue d : Nat) (words : List DWord) (keep : Bool) (ready : Nat)
  deriving DecidableEq, Repr

/-- R336. -/
inductive TaskState where
  | stopped | ready | waiting (w : Wait) | faulted
  deriving DecidableEq, Repr

/-- An ARMD on its way to the door slot (R361). -/
structure ArmdOp where
  slot   : Nat
  target : Nat
  resync : Bool
  door   : DWord
  set    : RegionSet
  d      : Nat
  due    : Nat
  deriving DecidableEq, Repr

/-- An LDK on its way (R349): the register, the offset, its issue and the die tick of the access. -/
structure LdkOp where
  d   : Nat
  off : Nat
  at_ : Nat
  due : Nat
  deriving DecidableEq, Repr

/-- One task. `readyAt` is the earliest issue of its next instruction, or for a WAITING task the issue of
its wait; `wokeAt` the die tick in which its last wait ended; `stopDue` a TSTOP that waits (R367): 1 for
the end of the instruction in progress, 2 for the end of the next one; `faultPc`, `cause`, `faults` and
`entry` are its FAULT and TASK_ENTRY registers. -/
structure Task where
  state   : TaskState := .stopped
  pc      : Nat := 0
  g       : Tbl Word := []
  readyAt : Nat := 0
  wokeAt  : Option Nat := none
  armd    : Option ArmdOp := none
  ldk     : Option LdkOp := none
  stepped : Bool := false
  stopDue : Nat := 0
  faultPc : Nat := 0
  cause   : Nat := 0
  faults  : Nat := 0
  entry   : Nat := 0
  deriving DecidableEq, Repr

/-- A posted register write (R349). -/
structure Posted where
  off : Nat
  v   : Word
  at_ : Nat
  due : Nat
  deriving DecidableEq, Repr

/-- A coach that a program pushes as part of a host command (R385): the task and the queue. -/
structure Pushed where
  task  : Nat
  queue : Nat
  words : List DWord
  at_   : Nat := 0
  deriving DecidableEq, Repr

/-- A broadcast message on the control channel (R360): regions it has still to reach. -/
structure Bcast where
  set  : RegionSet
  off  : Nat
  v    : Word
  sent : Nat
  deriving DecidableEq, Repr

/-- R371, R380. -/
inductive SeqMode where
  | notStarted | rom | image | loading
  deriving DecidableEq, Repr

/-- What a host command still waits for (R386): a gear change in a slot; a fence, with the logical ID
its ADOPT part adopts; an adoption of a logical ID. -/
inductive JobKind where
  | gear (slot : Nat)
  | fence
  | adopt
  deriving DecidableEq, Repr

/-- A host command that a task has carried out and not yet completed; `result` is the REASON with which the fence
unit has ended its command, 0 for none. -/
structure CmdJob where
  task : Nat
  code : Nat
  tag  : Nat
  kind : JobKind
  result : Option Nat := none
  deriving DecidableEq, Repr

/-- Where the ROM program's bring-up of a region stands (R373, R468): measuring at one of two codes, with
the first count; its ceiling written or the search failed; locking; a window of the search for ADV; a
window that trims a pair, with the target and the windows left; ended. -/
inductive BringStage where
  | measuring (second : Bool) (n1 since : Nat)
  | coded
  | locking
  | search (adv bitv : Nat)
  | trimming (target pair left : Nat)
  | ended
  deriving DecidableEq, Repr

/-- The bring-up of the die: region by region (steps 1 to 3), then the couplers enabled (step 4). -/
inductive BringUp where
  | regions (stages : Tbl BringStage)
  | opening (enabled : List Nat)
  deriving DecidableEq, Repr

/-- The sequencer, its memories and its loader. Memories are lists of bytes (data, scratch) or words
(instructions), in canonical form; an address without an entry holds 0 (R376). `issuedAt` is the last
issue; `moveFrom` and `moveEnd` bound the present move of data memory, `popMove` the carriages a POP has
still to write (R342); `raised` and `eaten` are the lines raised, and consumed by a WAITE, in the die ticks
beside them (R358, R370); `port` counts the words that await the loader (R378); `words` holds the words
received, last first; `ready` says that the sequencer has left its first LOADING, step 4 of the readiness
order (R31). -/
structure Seq where
  mode     : SeqMode := .notStarted
  tasks    : Tbl Task := []
  lastTask : Nat := 3
  startAt  : Nat := 0
  issuedAt : Option Nat := none
  moveFrom : Nat := 0
  moveEnd  : Nat := 0
  popMove  : Option (Nat × Nat × List DWord) := none
  flags    : DWord := 0
  raised   : DWord := 0
  raisedAt : Nat := 0
  eaten    : DWord := 0
  eatenAt  : Nat := 0
  imem     : List (Nat × Word) := []
  dmem     : List Host.Cell := []
  scratch  : List Host.Cell := []
  eccBad   : List Nat := []
  eccSoft  : List Nat := []
  posted   : List Posted := []
  bcasts   : List Bcast := []
  eccFixed : Nat := 0
  event    : Word := 0
  eventEn  : Word := 0
  imgVer   : Word := 0
  secVer   : Word := 0
  loadRes  : Nat := 0
  loads    : Nat := 0
  received : Nat := 0
  words    : List Word := []
  wordsAt  : Nat := 0
  port     : Nat := 0
  cold     : Bool := true
  verifyAt : Option Nat := none
  bring    : Option BringUp := none
  ready    : Bool := false
  begin_   : Option Nat := none
  jobs     : List CmdJob := []
  pushes   : List Pushed := []
  deriving DecidableEq, Repr

/-- The host command port (R381, R382). -/
structure CmdPort where
  buf       : Tbl Word := []
  last      : DWord := 0
  len       : Nat := 2
  busy      : Option (List DWord) := none
  submitted : Nat := 0
  refused   : Nat := 0
  deriving DecidableEq, Repr

/-! ## Metrology island and mailbox (14) -/

/-- The sealed parameter set (R405). -/
structure Params where
  vGain    : Nat := 0
  vOfs     : Int := 0
  iGain    : Nat := 0
  iOfs     : Int := 0
  mrefCorr : Int := 0
  xtalTrim : Int := 0
  ver      : Nat := 0
  crc      : Nat := 0
  deriving DecidableEq, Repr

/-- An open billing interval (R397). -/
structure Interval where
  sum     : Nat := 0
  samples : Nat := 0
  active  : Nat := 0
  missed  : Nat := 0
  flags   : Nat := 0
  cycles  : Nat := 0
  deriving DecidableEq, Repr

/-- A coach of the island: its sequence number and carriages. -/
structure IslandCoach where
  seq   : Nat
  words : List DWord
  deriving DecidableEq, Repr

/-- The last record, as a second event of its die tick may still change it (R415): its interval, the MREF cycles, the
cause flag and the other flags, ENERGY, the sequence number of part 0, when it was closed. -/
structure ClosedRec where
  interval : Interval
  cycles : Nat
  cause  : Nat
  flags  : Nat
  energy : Nat
  seq    : Nat
  at_    : Nat
  deriving DecidableEq, Repr

/-- The sealed metrology island. A cold reset of the KTC does not touch it (R424). `calAt` is when the
calendar stood at `calSec` and `calFrac`, `mirrorAt` when the mirrors were last updated (R414), `xtalAt` when the
crystal's state last changed (R393), `closed` the last record (R415). `time` is its own
time in units of a nominal die tick; `edgeAt`, `adcAt` and `mrefAt` are when the last valid edge came and
when the ADC and MREF were last judged absent; `remainder` is the carried part of a mJ, in 10^−9 pW
samples; `wire` holds coaches handed over that the mailbox has not yet shown, true for replayed ones. -/
structure Island where
  time      : Nat := 0
  up        : Bool := false
  vbat      : Bool := false
  xtalOk    : Bool := false
  mrefOk    : Bool := false
  adcOk     : Bool := false
  mrefAt    : Nat := 0
  adcAt     : Nat := 0
  mrefTold  : Bool := false
  adcTold   : Bool := false
  unsealed  : Bool := false
  calValid  : Bool := false
  calSec    : Nat := 0
  calFrac   : Nat := 0
  calAt     : Nat := 0
  mirrorAt  : Nat := 0
  xtalAt    : Nat := 0
  closed    : Option ClosedRec := none
  discip    : Bool := false
  tod       : TodSeq := {}
  todNext   : Option Nat := none
  edgeAt    : Option Nat := none
  edgeRun   : Nat := 0
  interval  : Option Interval := none
  kept      : Option Interval := none
  lost      : Bool := false
  missRun   : Nat := 0
  goodRun   : Nat := 0
  lastP     : Nat := 0
  first     : Bool := true
  remainder : Nat := 0
  energyCum : Nat := 0
  recordSeq : Nat := 0
  coachSeq  : Nat := 0
  audit     : Nat := 0
  params    : Params := {}
  hasKey    : Bool := false
  keyGen    : Nat := 0
  sinceKeys : Nat := 0
  lcSeen    : Nat := 0
  log       : List IslandCoach := []
  outbox    : List IslandCoach := []
  wire      : List (IslandCoach × Bool) := []
  handedHi  : Nat := 0
  replay    : Option Nat := none
  replayAt  : Nat := 0
  replayEnd : Nat := 0
  powerGood : Bool := false
  deriving DecidableEq, Repr

/-- One mailbox slot (R412). -/
structure MbSlot where
  full   : Bool := false
  read   : Bool := false
  replay : Bool := false
  words  : List DWord := []
  deriving DecidableEq, Repr

/-- The mailbox and its mirrors (R414). -/
structure Mailbox where
  slots   : Tbl MbSlot := []
  newest  : Word := 0
  audit   : Word := 0
  record  : Word := 0
  calSec  : DWord := 0
  calFrac : Word := 0
  fracLatch : Option Word := none
  energy  : DWord := 0
  id      : DWord := 0
  deriving DecidableEq, Repr

/-! ## Pins, reset and sideband (15) -/

/-- The sideband block and the pins. -/
structure Sideband where
  inReset  : Bool := false
  resetAt  : Nat := 0
  causes   : List ResetCause := []
  smbAddr  : Nat := 0
  evtLevel : Nat := 0
  evtAt    : Tbl Nat := []
  evtCfg   : Word := 0x00001000
  alarmCfg : Word := 0x00000015
  alarm    : Bool := false
  smbCfg   : Word := 0
  refused  : Nat := 0
  pecErrs  : Nat := 0
  timeouts : Nat := 0
  lastOff  : Nat := 0
  avsDiv   : Nat := 19
  busErrs  : Nat := 0
  event    : Word := 0
  eventEn  : Word := 0
  deriving DecidableEq, Repr

/-! ## Life cycle (16) -/

/-- R437. -/
inductive LcState where
  | blank | provisioned | field | return_ | ended
  deriving DecidableEq, Repr

/-- What the life-cycle block is doing while BUSY (R441, R444). -/
inductive LcBusy where
  | none
  | verifying (token : List Byte) (nonce : DWord) (at_ : Nat)
  | moving (to_ : LcState) (reissue : Bool) (at_ : Nat)
  deriving DecidableEq, Repr

/-- The life-cycle and security block: fuses and key store (kept over a cold reset), unlock, buffers. -/
structure Lifecycle where
  state      : LcState := .blank
  reissues   : Nat := 0
  erasePend  : Bool := false
  uid        : DWord := Config.uid
  lcKey      : Bool := true
  populated  : Nat := 3
  keys       : Tbl (List Word) := []
  revoked    : Nat := 0
  minSecVer  : Nat := 0
  nonce      : DWord := Config.nonce 0
  sealed     : Bool := false
  result     : Nat := 0
  busy       : LcBusy := .none
  lastKind   : Nat := 0
  lastScope  : Nat := 0
  unlock     : Option Nat := none
  unlockAt   : Nat := 0
  unlockDur  : Nat := 0
  event      : Word := 0
  eventEn    : Word := 0
  token      : Tbl Word := []
  keyBuf     : Tbl Word := []
  deriving DecidableEq, Repr

/-! ## Global block and the whole state -/

/-- What the block last drove onto its buses and ports: the model's own outputs. -/
structure Out where
  readData  : Option Word := none
  readWords : List Word := []
  nack      : Bool := false
  stagger   : Option (Nat × Nat) := none
  delivered : Option Nat := none
  cplRead   : Option (List DWord × List Nat × Bool) := none
  alignWord : Option (Nat × DWord × DWord) := none
  groupMark : Option Nat := none
  avsFrame  : Option (Nat × Option Nat) := none
  deriving DecidableEq, Repr

/-- The global block (R44) and the latched high words of 64-bit pairs (R18), by offset. -/
structure Global where
  intEnable : Word := 0
  ignored   : Nat := 0
  lastOff   : Nat := 0
  latches   : Tbl Word := []
  deriving DecidableEq, Repr

/-- What has happened in the present die tick, for the rules on events that coincide; it is empty when a die
tick begins, and is the model's own record, no register. `risen` holds the W1C bits that hardware has set, by
the register's offset (R16); `wrote` the register writes that took effect, latest first, each with its path and
the word that the register read as before it (R17, R43); `ignored` the host
writes ignored (R47); `soon` the regions that have work at the next die-tick edge (R92, R121, R123, R150,
R200); `lost` the regions that set REF_LOST (R123); `snaps` the carriages of the ledger coaches of this edge's
snapshots, which are formed as the tick ends, with all causes that joined (R157); `slots` the door slots that
accepted a GO, as they were before it (R201); `arms` the channels that an ARM has started, as they were before
it, with its time-base verdict (R246); `qLost` the drops and overruns of each queue (R277); `submit` the length of the
first SUBMIT refused for BUSY (R387); `step` that the unit makes its step of TICK at the edge that ends the tick,
`stepFrom` the TICK before the step that began it (R292, R293); `msgs` the messages that the map port delivered, as
(logical ID, generation), `byLogical` that the port formed a command by logical ID (R333, R387); `dWas` the value
of D before a hazard update (R333); `causes` the snapshot causes raised, with their regions, and `asked`
SNAP_PENDING before the first (R333); `ending` that LOAD_END waits for a word of this tick, `restart` the RESTARTs
of running tasks, a bit each (R387); `evts` the EVT_IN lines asserted (R329); `priv` that the host has reached into
a block of class P (R452). -/
structure TickLog where
  risen   : Tbl Word := []
  wrote   : List (Path × Nat × Word) := []
  ignored : Nat := 0
  soon    : List Nat := []
  lost    : List Nat := []
  snaps   : Tbl (List DWord) := []
  slots   : Tbl DoorSlot := []
  arms    : Tbl (MeasChan × Bool) := []
  qLost   : Tbl (Nat × Nat) := []
  submit  : Option Nat := none
  step    : Bool := false
  stepFrom : Option Nat := none
  msgs    : List (Nat × Nat) := []
  dWas    : Option Nat := none
  causes  : List (Nat × Nat) := []
  asked   : Bool := false
  byLogical : Bool := false
  ending  : Bool := false
  restart : Nat := 0
  evts    : List Nat := []
  priv    : Bool := false
  deriving DecidableEq, Repr

/-- The state of the block. `pending` is the queue of waiting commands; `now` counts die ticks since
the end of cold reset; `freeIdx` numbers the free values taken (log entries 1, 2, 3). -/
structure State where
  pending : List Instr := []
  now     : Nat := 0
  freeIdx : Nat := 1
  log     : TickLog := {}
  tick    : DWord := 0
  glob    : Global := {}
  ref     : RefRoot := {}
  regions : Tbl Region := []
  fc      : Forecast := {}
  doors   : Doors := {}
  cpls    : Tbl Coupler := []
  meas    : Tbl MeasChan := []
  pool    : Pool := {}
  gt      : GroupTick := {}
  hz      : Hazard := {}
  seq     : Seq := {}
  cmd     : CmdPort := {}
  island  : Island := {}
  mb      : Mailbox := {}
  sb      : Sideband := {}
  lc      : Lifecycle := {}
  out     : Out := {}
  deriving DecidableEq, Repr

/-- The machine right after reset: every register at the reset value of its table, the readiness order
at its first step, nothing waiting. The fused and island facts are those of a BLANK die whose island
has not started (log entry 4). DESIGN CHOICE, log entry 12. -/
def State.reset : State := {}

/-- Why the machine stops. -/
inductive Fault where
  /-- Raised by the meaning of an event that names a region, coupler, channel, queue, slot, segment or
  link that R8 and R10 say does not exist. Safe: no such part can cause an event. -/
  | noSuchPart (what : String) (index : Nat)
  deriving DecidableEq, Repr

/-- Why an instruction has no meaning here. -/
inductive Refusal where
  /-- Raised by a dispatch arm whose instruction has no meaning yet. Safe. -/
  | notModelled (mnemonic : String)
  deriving DecidableEq, Repr

end Sys2Proof.Machine
end

