-- ==== Sys2Proof/Machine/Operands.lean ====
section
/-! DEFINITION. Operand forms: bit fields of words, packing, signed fields, byte order, CRCs, sparse
tables and byte memories, and the reset values that depend on an index. -/

namespace Sys2Proof.Machine

/-! ## Fields of words -/

/-- Field of `len` bits at bit `lo`, as a number (R11). -/
def fld {n : Nat} (w : BitVec n) (lo len : Nat) : Nat := w.toNat / 2 ^ lo % 2 ^ len

/-- Bit `i` of a word. -/
def bit {n : Nat} (w : BitVec n) (i : Nat) : Bool := w.getLsbD i

/-- 1 for true. -/
def b2n (b : Bool) : Nat := if b then 1 else 0

/-- A word whose field at `lo` of each triple (lo, len, value) holds the value modulo 2^len. -/
def pack (n : Nat) (fs : List (Nat × Nat × Nat)) : BitVec n :=
  BitVec.ofNat n (fs.foldl (fun a f => a + f.2.2 % 2 ^ f.2.1 * 2 ^ f.1) 0)

/-- A register word made of fields. -/
def packW (fs : List (Nat × Nat × Nat)) : Word := pack 32 fs

/-- A carriage made of fields. -/
def packD (fs : List (Nat × Nat × Nat)) : DWord := pack 64 fs

/-- The word `old` with the bits of `mask` taken from `v`: a write to RW fields (R14). DEDUCED, log entry 49. -/
def rwBits (mask old v : Word) : Word := (old &&& ~~~mask) ||| (v &&& mask)

/-- A write of `v` to W1C bits: 1 clears, 0 has no effect (R14). -/
def w1c (old v : Word) : Word := old &&& ~~~v

/-- A word with one bit set. -/
def oneBit (i : Nat) : Word := BitVec.ofNat 32 (2 ^ i)

/-- Low and high words of a 64-bit quantity. -/
def loWord (d : DWord) : Word := d.truncate 32
def hiWord (d : DWord) : Word := (d >>> 32).truncate 32

/-- The 64-bit quantity of two words. -/
def joinWords (lo hi : Word) : DWord := (hi ++ lo : BitVec 64)

/-- An integer in two's complement of `n` bits. -/
def twos (n : Nat) (i : Int) : Nat := (BitVec.ofInt n i).toNat

/-- The integer a field of `len` bits at `lo` holds in two's complement. -/
def sfld {n : Nat} (w : BitVec n) (lo len : Nat) : Int := (BitVec.ofNat len (fld w lo len)).toInt

/-- A value stopping at `hi`. -/
def sat (hi v : Nat) : Nat := min hi v

/-- A count increased by `k`, stopping at `hi`. -/
def satAdd (hi v k : Nat) : Nat := min hi (v + k)

/-- An integer kept within ±`lim`. -/
def clampI (lim : Int) (v : Int) : Int := max (-lim) (min lim v)

/-- Absolute value as a natural number. -/
def absI (v : Int) : Nat := v.natAbs

/-- ⌈a / b⌉. -/
def ceilDiv (a b : Nat) : Nat := (a + b - 1) / b

/-- Quotient rounded to the nearest integer, halves upward (R235, R241, R291). DEDUCED, log entry 38. -/
def roundDiv (a : Int) (b : Int) : Int := (2 * a + b) / (2 * b)

/-! ## Bytes -/

/-- The bytes of a word, least significant first. -/
def wordBytes (w : Word) : List Byte :=
  [w.extractLsb' 0 8, w.extractLsb' 8 8, w.extractLsb' 16 8, w.extractLsb' 24 8]

/-- The bytes of a carriage, least significant first. -/
def dwordBytes (d : DWord) : List Byte := wordBytes (loWord d) ++ wordBytes (hiWord d)

/-- The number little-endian bytes hold. -/
def leNat : List Byte → Nat
  | [] => 0
  | b :: bs => b.toNat + 256 * leNat bs

/-- The number big-endian bytes hold. -/
def beNat (bs : List Byte) : Nat := leNat bs.reverse

/-- CRC-8, polynomial 0x07, most significant bit first, initial value 0 (R281, R394). -/
def crc8Byte (crc : Nat) (b : Byte) : Nat :=
  (List.range 8).foldl
    (fun c _ => if c ≥ 128 then (2 * c % 256) ^^^ 7 else 2 * c) (crc ^^^ b.toNat)

def crc8 (bs : List Byte) : Nat := bs.foldl crc8Byte 0

/-- CRC-32 of IEEE 802.3: reflected polynomial, initial value and final inversion of all ones (R405). -/
def crc32Byte (crc : Nat) (b : Byte) : Nat :=
  (List.range 8).foldl
    (fun c _ => if c % 2 = 1 then (c / 2) ^^^ 0xEDB88320 else c / 2) (crc ^^^ b.toNat)

def crc32 (bs : List Byte) : Nat := bs.foldl crc32Byte 0xFFFFFFFF ^^^ 0xFFFFFFFF

/-! ## Sparse tables -/

/-- Entry `i` of a table, `d` where it has none. -/
def tget {α : Type} (d : α) : Tbl α → Nat → α
  | [], _ => d
  | (j, a) :: t, i => if i = j then a else tget d t i

/-- The table with entry `i` set. -/
def tput {α : Type} : Tbl α → Nat → α → Tbl α
  | [], i, a => [(i, a)]
  | (j, b) :: t, i, a =>
    if i < j then (i, a) :: (j, b) :: t else if i = j then (i, a) :: t else (j, b) :: tput t i a

/-- The table without entry `i`. -/
def tdel {α : Type} : Tbl α → Nat → Tbl α
  | [], _ => []
  | (j, b) :: t, i => if i = j then t else (j, b) :: tdel t i

/-- Entry `i` set, or removed where the value is the one an absent entry reads as: the canonical form
of a memory. DESIGN CHOICE, log entry 13. -/
def mput {α : Type} [DecidableEq α] (d : α) (t : Tbl α) (i : Nat) (a : α) : Tbl α :=
  if a = d then tdel t i else tput t i a

/-- Indices strictly rise. -/
def tsorted {α : Type} : Tbl α → Bool
  | [] => true
  | [_] => true
  | (i, _) :: (j, b) :: t => decide (i < j) && tsorted ((j, b) :: t)

/-- A memory is in its canonical form: addresses strictly rising, no entry holding the value an
unlisted address reads as. DESIGN CHOICE, log entry 13. -/
def Memory.wf {α : Type} [DecidableEq α] (d : α) (t : Tbl α) : Bool :=
  tsorted t && t.all (fun e => decide (e.2 ≠ d))

/-! ## Byte memories -/

/-- The 32-bit word at a byte address, least significant byte first (R340). DESIGN CHOICE, log entry 13. -/
def readWord (m : List Host.Cell) (a : Nat) : Word :=
  (tget 0 m (a + 3) ++ tget 0 m (a + 2) ++ tget 0 m (a + 1) ++ tget 0 m a : BitVec 32)

/-- A 32-bit word written at a byte address. DESIGN CHOICE, log entry 13. -/
def writeWord (m : List Host.Cell) (a : Nat) (w : Word) : List Host.Cell :=
  mput 0 (mput 0 (mput 0 (mput 0 m a (w.extractLsb' 0 8)) (a + 1) (w.extractLsb' 8 8))
    (a + 2) (w.extractLsb' 16 8)) (a + 3) (w.extractLsb' 24 8)

/-- The carriage at a byte address, low word first. -/
def readDword (m : List Host.Cell) (a : Nat) : DWord := joinWords (readWord m a) (readWord m (a + 4))

/-- A carriage written at a byte address. -/
def writeDword (m : List Host.Cell) (a : Nat) (d : DWord) : List Host.Cell :=
  writeWord (writeWord m a (loWord d)) (a + 4) (hiWord d)

/-! ## Region sets and lists -/

/-- The regions of a set, in rising order (R202). -/
def setList (x : RegionSet) : List Nat := (List.range 208).filter (fun r => x.getLsbD r)

/-- Region `r` as a set. -/
def setOne (r : Nat) : RegionSet := BitVec.ofNat 224 (2 ^ r)

/-- Word `w` of a set. -/
def setWord (x : RegionSet) (w : Nat) : Word := x.extractLsb' (32 * w) 32

/-- A set with word `w` replaced; in word 6 bits [31:16] are RSVD (R202). -/
def setPutWord (x : RegionSet) (w : Nat) (v : Word) : RegionSet :=
  let v' := if w = 6 then v &&& 0xFFFF else v
  (x &&& ~~~(BitVec.ofNat 224 (0xFFFFFFFF * 2 ^ (32 * w))))
    ||| BitVec.ofNat 224 (v'.toNat * 2 ^ (32 * w))

/-- Entry `i` of a list of numbers, 0 past its end. -/
def nth (l : List Nat) (i : Nat) : Nat := l.getD i 0

/-- A list of numbers with entry `i` changed. -/
def modNth (l : List Nat) (i : Nat) (f : Nat → Nat) : List Nat := l.modify i f

/-- The sum of a list of numbers. -/
def sumL (l : List Nat) : Nat := l.foldl (· + ·) 0

/-- The largest number of a list, 0 of an empty one. -/
def maxL (l : List Nat) : Nat := l.foldl max 0

/-! ## Numbering of parts (R8, R10, R36) -/

/-- A region ID names a region with an RACG (R8). -/
def isRegion (r : Nat) : Bool := decide (r < 208)

/-- A core region (R8). -/
def isCore (r : Nat) : Bool := decide (r < 160)

/-- How many detectors a region has (R10). -/
def detCount (r : Nat) : Nat := if r < 160 then 16 else 8

/-- The fewest active detectors it keeps (R139). -/
def detMin (r : Nat) : Nat := if r < 160 then 12 else 6

/-- The reset value of a region's page: RESYNC_EN is 1 for regions 188 to 203 (R126).
DESIGN CHOICE, log entry 12. -/
def Region.reset (r : Nat) : Region :=
  if 188 ≤ r ∧ r ≤ 203 then { regs := { phaseCtl := 0x200 } } else {}

/-- The reset value of a queue: queues 0 and 1 are enabled, queue 0 is the sequencer's (R253, R279).
DESIGN CHOICE, log entry 12. -/
def Queue.reset (q : Nat) : Queue :=
  if q = 0 then { cfg := 0x00000085 } else if q = 1 then { cfg := 0x00000081 } else {}

/-- The reset value of an AVS channel: AVS_RAIL is n (R181). DESIGN CHOICE, log entry 12. -/
def AvsChan.reset (n : Nat) : AvsChan := { cfg := 0x010A1000 ||| BitVec.ofNat 32 (n % 16) }

/-- The reset value of a coupler page; LIMIT of a spare lane as of any page (R224).
DESIGN CHOICE, log entry 12. -/
def Coupler.reset : Coupler := {}

/-- BASE of a format at reset (R161). -/
def fmtReset (f : Nat) : Word :=
  BitVec.ofNat 32 (nth [5, 9, 9, 12, 12, 11, 11, 14, 12, 14, 13] f)

/-- N of a gear entry at reset (R182). -/
def gearReset (g : Nat) : Word :=
  BitVec.ofNat 32 (nth [8, 16, 32, 24, 28, 30, 31, 33, 34, 36, 20, 12, 26, 18, 40, 38] g)

/-- A knee pair at reset, LO in [15:0] and HI in [31:16] (R334). -/
def kneeReset (k : Nat) : Word :=
  BitVec.ofNat 32
    (nth [4096 + 16384 * 65536, 64 + 1024 * 65536, 2 + 12 * 65536, 320 + 625 * 65536,
      64 + 320 * 65536, 8 + 40 * 65536, 256 + 1024 * 65536, 256 + 1024 * 65536, 512 * 65536] k)

/-- The logical map at reset: L maps to slot L mod 9 (R319). -/
def LmapEntry.reset (l : Nat) : LmapEntry := { slot := some (l % 9) }

end Sys2Proof.Machine
end

