-- ==== Sys2Proof/Machine/Ops.lean ====
section
/-! DEFINITION. The named operations over the state that every family shares: access to the parts,
outcomes, write classes (R37 to R42), coaches and their routing into the pool (R249 to R261), event
lines (R343), the cycle ledger (R149 to R151) and free values. -/

namespace Sys2Proof.Machine

open Sys2Proof

/-- What a command answers. -/
abbrev Res := Host.Outcome State Fault Refusal

/-! ## Parts of the state -/

def State.region (s : State) (r : Nat) : Region := tget (Region.reset r) s.regions r
def State.setRegion (s : State) (r : Nat) (g : Region) : State :=
  { s with regions := tput s.regions r g }
def State.updRegion (s : State) (r : Nat) (f : Region → Region) : State := s.setRegion r (f (s.region r))

def State.slot (s : State) (i : Nat) : DoorSlot := tget {} s.doors.slots i
def State.setSlot (s : State) (i : Nat) (d : DoorSlot) : State :=
  { s with doors := { s.doors with slots := tput s.doors.slots i d } }
def State.updSlot (s : State) (i : Nat) (f : DoorSlot → DoorSlot) : State := s.setSlot i (f (s.slot i))

def State.cpl (s : State) (i : Nat) : Coupler := tget Coupler.reset s.cpls i
def State.setCpl (s : State) (i : Nat) (c : Coupler) : State := { s with cpls := tput s.cpls i c }
def State.updCpl (s : State) (i : Nat) (f : Coupler → Coupler) : State := s.setCpl i (f (s.cpl i))

def State.chan (s : State) (c : Nat) : MeasChan := tget {} s.meas c
def State.setChan (s : State) (c : Nat) (m : MeasChan) : State := { s with meas := tput s.meas c m }
def State.updChan (s : State) (c : Nat) (f : MeasChan → MeasChan) : State := s.setChan c (f (s.chan c))

def State.queue (s : State) (q : Nat) : Queue := tget (Queue.reset q) s.pool.queues q
def State.setQueue (s : State) (q : Nat) (x : Queue) : State :=
  { s with pool := { s.pool with queues := tput s.pool.queues q x } }
def State.updQueue (s : State) (q : Nat) (f : Queue → Queue) : State := s.setQueue q (f (s.queue q))

def State.avs (s : State) (n : Nat) : AvsChan := tget (AvsChan.reset n) s.fc.avs n
def State.setAvs (s : State) (n : Nat) (a : AvsChan) : State :=
  { s with fc := { s.fc with avs := tput s.fc.avs n a } }
def State.updAvs (s : State) (n : Nat) (f : AvsChan → AvsChan) : State := s.setAvs n (f (s.avs n))

def State.link (s : State) (l : Nat) : GtLink := tget {} s.gt.links l
def State.setLink (s : State) (l : Nat) (x : GtLink) : State :=
  { s with gt := { s.gt with links := tput s.gt.links l x } }
def State.updLink (s : State) (l : Nat) (f : GtLink → GtLink) : State := s.setLink l (f (s.link l))

def State.hzr (s : State) (r : Nat) : HzRegion := tget {} s.hz.regions r
def State.setHzr (s : State) (r : Nat) (x : HzRegion) : State :=
  { s with hz := { s.hz with regions := tput s.hz.regions r x } }
def State.updHzr (s : State) (r : Nat) (f : HzRegion → HzRegion) : State := s.setHzr r (f (s.hzr r))

def State.lmapAt (s : State) (l : Nat) : LmapEntry := tget (LmapEntry.reset l) s.hz.lmap l
def State.setLmap (s : State) (l : Nat) (x : LmapEntry) : State :=
  { s with hz := { s.hz with lmap := tput s.hz.lmap l x } }

def State.task (s : State) (t : Nat) : Task := tget {} s.seq.tasks t
def State.setTask (s : State) (t : Nat) (x : Task) : State :=
  { s with seq := { s.seq with tasks := tput s.seq.tasks t x } }
def State.updTask (s : State) (t : Nat) (f : Task → Task) : State := s.setTask t (f (s.task t))

def State.mbSlot (s : State) (k : Nat) : MbSlot := tget {} s.mb.slots k
def State.setMbSlot (s : State) (k : Nat) (x : MbSlot) : State :=
  { s with mb := { s.mb with slots := tput s.mb.slots k x } }

/-- Reference, and its update. -/
def RefRoot.input (x : RefRoot) : Ref → RefInput
  | .A => x.refA
  | .B => x.refB
def RefRoot.setInput (x : RefRoot) (f : Ref) (i : RefInput) : RefRoot :=
  match f with
  | .A => { x with refA := i }
  | .B => { x with refB := i }
def RefRoot.pll (x : RefRoot) : Root → RootPll
  | .rpa => x.rpa
  | .rpb => x.rpb
def RefRoot.setPll (x : RefRoot) (y : Root) (p : RootPll) : RefRoot :=
  match y with
  | .rpa => { x with rpa := p }
  | .rpb => { x with rpb := p }
def otherRef : Ref → Ref
  | .A => .B
  | .B => .A
def otherRoot : Root → Root
  | .rpa => .rpb
  | .rpb => .rpa
/-- The active root, whose output is the die tick, and the standby (R58). -/
def RefRoot.activeRoot (x : RefRoot) : RootPll := x.pll x.tickSrc
def RefRoot.standbyRoot (x : RefRoot) : RootPll := x.pll (otherRoot x.tickSrc)
/-- The reference of the active root (REF_STATUS.ACTIVE_REF). -/
def RefRoot.activeRef (x : RefRoot) : Ref := x.activeRoot.ref

/-! ## Outcomes -/

/-- An event or write takes place when `b` holds and no cold reset is in force; otherwise the state is
as it was (log entry 2). -/
def act (s : State) (b : Bool) (f : State → State) : Res :=
  .next (if !s.sb.inReset && b then f s else s)

/-- As `act`, for an event of a part with an index below `n`; no such part is a fault (R8, R10). -/
def actAt (what : String) (n i : Nat) (s : State) (b : Bool) (f : State → State) : Res :=
  if i < n then act s b f else .fault (.noSuchPart what i)

/-- The free value of a family that comes next, and the state with the counter moved on (log entry 3). -/
def State.fresh (s : State) : State := { s with freeIdx := s.freeIdx + 1 }

/-! ## What has happened in this die tick -/

/-- Hardware sets W1C bits of the register at an offset. -/
def State.mark (s : State) (off : Nat) (bits : Word) : State :=
  if bits = 0 then s
  else { s with log := { s.log with risen := tput s.log.risen off (tget 0 s.log.risen off ||| bits) } }

/-- What a write of `v` leaves of W1C bits: a bit that hardware set in this die tick stays set (R14, R16). -/
def State.w1c (s : State) (off : Nat) (old v : Word) : Word := old &&& ~~~(v &&& ~~~tget 0 s.log.risen off)

/-- A path's write of a register took effect (R17, R43). -/
def State.noteWrite (s : State) (p : Path) (off : Nat) (old : Word) : State :=
  { s with log := { s.log with wrote := (p, off, old) :: s.log.wrote } }

/-- Software has written the register in this die tick. -/
def State.wroteNow (s : State) (off : Nat) : Bool := s.log.wrote.any (fun e => e.2.1 == off)

/-- The order of the paths' accesses to a register in one die tick (R43). -/
def pathRank : Path → Nat
  | .host => 0
  | .smbus => 1
  | .seq => 2

/-- What a register read as before the first write in this die tick by a path ordered after `p` (R43). -/
def State.before (s : State) (p : Path) (off : Nat) : Option Word :=
  (s.log.wrote.filter (fun e => e.2.1 == off && decide (pathRank p < pathRank e.1))).getLast?.map (·.2.2)

/-- A register as this die tick found it: before the first write in it (R333). -/
def State.began (s : State) (off : Nat) (cur : Word) : Word :=
  match (s.log.wrote.filter (fun e => e.2.1 == off)).getLast? with
  | some e => e.2.2
  | none => cur

/-- A region has work at the next die-tick edge. -/
def State.soon (s : State) (r : Nat) : State :=
  if r ∈ s.log.soon then s else { s with log := { s.log with soon := r :: s.log.soon } }

/-! ## TICK -/

/-- TICK as a number. -/
def State.tk (s : State) : Nat := s.tick.toNat

/-! ## Write classes (R37 to R42) -/

/-- R38. -/
inductive WriteClass where
  | h | s | p | n
  deriving DecidableEq, Repr

/-- The class of the block an offset lies in (R37). An offset outside every block follows R13, as one of
a block of class H that no chapter defines. DEDUCED, log entry 15. -/
def writeClass (off : Nat) : WriteClass :=
  if off < 0x1000 then .h
  else if off < 0x8000 then .s
  else if off < 0x10000 then .h
  else if off < 0x1D000 then .s
  else if off < 0x20000 then .h
  else if off < 0x27500 then .s
  else if off < 0x30000 then .h
  else if off < 0x31000 then .s
  else if off < 0x40000 then .h
  else if off < 0x78000 then .p
  else if off < 0x80000 then .h
  else if off < 0x81000 then .n
  else .h

/-- The scope of the unlock in force: none once UNLOCK_LEFT is 0, before whatever else its die tick brings (R447,
R452). -/
def State.unlockScope (s : State) : Option Nat :=
  s.lc.unlock.filter (fun _ => s.lc.unlockDur == 0 || decide (s.now < s.lc.unlockAt + s.lc.unlockDur * 2 ^ 30))

/-- An unlock is in force (R447). -/
def State.unlocked (s : State) : Bool := s.unlockScope.isSome

/-- Privileged windows are open (R438, R447). -/
def State.privOpen (s : State) : Bool :=
  match s.lc.state with
  | .blank => true
  | .provisioned => true
  | .field => match s.unlockScope with
    | some sc => sc / 2 % 2 == 1
    | none => false
  | .return_ => true
  | .ended => false

/-- The debug port is open (R438, R447). -/
def State.debugOpen (s : State) : Bool :=
  match s.lc.state with
  | .blank => true
  | .return_ => true
  | .ended => false
  | _ => match s.unlockScope with
    | some sc => sc % 2 == 1
    | none => false

/-- The offsets the SMBus target may write (R429). DEDUCED, log entry 47. -/
def smbWritable (off : Nat) : Bool :=
  off == 0x04080 || (decide (0xA0000 ≤ off) && decide (off ≤ 0xA0FFF))

/-- The bits of a register that keep what software writes (RW, LK); the others are RO, W1C or WO, or act when
they are written. -/
def rwMask (off : Nat) : Word :=
  let all : Word := 0xFFFFFFFF
  if off < 0x01000 then
    (if off = 0x0C ∨ (0x00108 ≤ off ∧ off < 0x00140) then all else if off = 0x00140 then 0xF else 0)
  else if off < 0x02000 then
    (if off = 0x01000 then 0xFFFFFFEF else if off = 0x0100C ∨ off = 0x01010 ∨ off = 0x01028 then all else 0)
  else if off < 0x03000 then
    (if off = 0x02080 ∨ (0x020D0 ≤ off ∧ off < 0x020EC) then 0
    else if 0x02100 ≤ off ∧ off % 0x80 = 0 then 0xFFFFFCFF else all)
  else if off < 0x04000 then
    (if off = 0x03008 ∨ off = 0x03140 then 0
    else if 0x03100 ≤ off ∧ off < 0x03140 ∧ off % 16 = 0 then 0xFFFEFFFF else all)
  else if off < 0x05000 then
    (if off = 0x04008 ∨ off = 0x04058 ∨ off = 0x04074 ∨ off = 0x04080 then 0 else all)
  else if off < 0x08000 then
    (if off = 0x05000 then 0xFFFFFFFC else if off = 0x05008 ∨ off = 0x0505C then 0
    else if 0x05200 ≤ off ∧ off < 0x05280 ∧ off % 16 = 8 then 0xFFFFFFFE else all)
  else if off < 0x10000 then (if (0x08020 ≤ off ∧ off < 0x08030) ∨ off = 0x08044 then all else 0)
  else if off < 0x20000 then
    (match off % 0x100 with
    | 0x04 => 0
    | 0x08 => 0
    | 0x18 => 0x7FFFFFFF
    | 0x28 => 0xFFFEFFFF
    | 0xB0 => 0
    | 0xBC => 0xFFFFFFFE
    | 0xC0 => 0xFFFFFDFF
    | 0xD0 => 0xFFFFFFFE
    | _ => all)
  else if off < 0x30000 then
    (match off % 0x20 with
    | 0x04 => 0
    | 0x0C => 0
    | 0x1C => 0x7FFFFFFF
    | _ => all)
  else if off < 0x38000 then
    (match off % 0x40 with
    | 0x08 => 0
    | 0x10 => 0
    | _ => all)
  else if off < 0x40000 then
    (match off % 0x40 with
    | 0x0C => 0
    | 0x14 => 0
    | 0x34 => 0x7FFFFFFF
    | _ => all)
  else if off = 0x90004 ∨ off = 0x90024 ∨ off = 0xA0028 then 0
  else all

/-- A register of RW fields alone was written in this die tick by a path ordered after `p`, whose value stands
(R43). -/
def State.overtaken (s : State) (p : Path) (off : Nat) : Bool :=
  (s.before p off).isSome && rwMask off == 0xFFFFFFFF

/-- What a path's write of `v` brings to a register: RW bits that a path ordered after it has written in this die
tick stand at `cur` (R43). Bits that act are taken as they come: DESIGN CHOICE, log entry 11. -/
def State.ordered (s : State) (p : Path) (off : Nat) (cur v : Word) : Word :=
  match s.before p off with
  | some _ => rwBits (rwMask off) v cur
  | none => v

/-- A write by this path reaches this offset (R38, R40, R42). DEDUCED, log entry 15. -/
def State.mayReach (s : State) (p : Path) (off : Nat) : Bool :=
  match p with
  | .host => match writeClass off with
    | .h => true
    | .s => s.privOpen
    | .p => s.privOpen
    | .n => false
  | .seq => match writeClass off with
    | .h => !(decide (0x90000 ≤ off) && decide (off < 0x91000))
    | .s => true
    | .p => false
    | .n => false
  | .smbus => smbWritable off

/-- A write by this path to this offset takes effect. -/
def State.mayWrite (s : State) (p : Path) (off : Nat) : Bool := s.mayReach p off && !s.overtaken p off

/-- A host write to an S block with privileged windows closed is counted (R38, R44). DEDUCED, log entry 15. -/
def State.countIgnored (s : State) (off : Nat) : State :=
  { s with
    glob := { s.glob with ignored := satAdd 0xFFFF s.glob.ignored 1, lastOff := off / 16 % 65536 }
    log := { s.log with ignored := s.log.ignored + 1 } }

/-- Page bases (R36). -/
def regionPage (r : Nat) : Nat := 0x10000 + 0x100 * r
def cplPage (i : Nat) : Nat := 0x20000 + 0x20 * i
def chanPage (c : Nat) : Nat := 0x30000 + 0x40 * c
def queuePage (q : Nat) : Nat := 0x38000 + 0x40 * q
def slotPage (k : Nat) : Nat := 0x02100 + 0x80 * k

/-! ## Coaches (R20, R249 to R261) -/

/-- The header carriage (R20). -/
def coachHeader (typ len src : Nat) (tick : DWord) : DWord :=
  packD [(56, 8, typ), (52, 4, len), (40, 12, src), (0, 40, tick.toNat)]

/-- A coach with its header. -/
def coachOf (typ src : Nat) (tick : DWord) (body : List DWord) : List DWord :=
  coachHeader typ (body.length + 1) src tick :: body

/-- Queue `q` is enabled (R279). -/
def State.qEnabled (s : State) (q : Nat) : Bool := bit (s.queue q).cfg 0

/-- Q_CFG as routing sees it: in the die tick of a write, the values before it (R267, R277). -/
def State.routeCfg (s : State) (q : Nat) : Word :=
  let x := s.queue q
  if x.cfgAt = some s.now then x.cfgOld else x.cfg

/-- R254: the lowest-numbered enabled queue from 2 to 95 whose CLASS_MASK takes the class. -/
def State.route (s : State) (cls : Nat) : Option Nat :=
  ((List.range 94).map (· + 2)).find? (fun q =>
    bit (s.routeCfg q) 0 && bit (s.routeCfg q) (16 + cls))

/-- R256. -/
def State.unroute (s : State) : State :=
  { s with pool := { s.pool with unrouted := satAdd 0xFFFF s.pool.unrouted 1 } }

/-- Drops and overruns of queue `q` in this die tick, which a CLR_COUNTS of it comes before (R277). -/
def State.lostNow (s : State) (q drops overruns : Nat) : State :=
  let old := tget (0, 0) s.log.qLost q
  { s with log := { s.log with qLost := tput s.log.qLost q (old.1 + drops, old.2 + overruns) } }

/-- COAL_OFF in force (R274). -/
def Pool.coalOff (p : Pool) : Nat := min (fld p.cfg 0 12) (fld p.cfg 16 12)

/-- TICK is at `off` past a multiple of `n`, or a step of TICK passed such a value at the edge that began this
die tick (R293). -/
def State.reached (s : State) (n off : Nat) : Bool :=
  s.tk % n == off || s.log.stepFrom.any (fun b => decide ((b + n - off) / n < (s.tk + n - off) / n))

/-- COAL in this die tick: 1 from the tick after IN_USE exceeds COAL_ON, 0 from a boundary at which it is below
COAL_OFF (R273, R274, R277). -/
def State.coalescing (s : State) : Bool :=
  (s.pool.coal || s.pool.coalDue) && !(s.reached 1024 0 && decide (s.pool.startUse < s.pool.coalOff))

/-- The header fields of a coach's first carriage. -/
def coachType (words : List DWord) : Nat := fld (words.headD 0) 56 8
def coachTick (words : List DWord) : Nat := fld (words.headD 0) 0 40

/-- R260, R261: a coach formed while 8 wait is dropped, counted and added to the drop report; a
measurement channel counts it as its own too (R247). -/
def State.dropCoach (s : State) (src q : Nat) (words : List DWord) : State :=
  let s := (s.updQueue q (fun x => { x with
    drops := satAdd 0xFFFF x.drops 1, event := x.event ||| 4 })).mark (queuePage q + 0x0C) 4
  let s := s.lostNow q 1 0
  let rep : DropReport := match s.pool.reports.find? (fun e => e.1 == src) with
    | some e => { e.2 with count := satAdd 0xFFFF e.2.count 1 }
    | none => { queue := q, count := 1, typ := coachType words, tick := coachTick words, formed := s.tick }
  let s := { s with pool := { s.pool with
    drops := satAdd 0xFFFF s.pool.drops 1, reports := tput s.pool.reports src rep } }
  if 0x100 ≤ src ∧ src < 0x140 then
    (s.updChan (src - 0x100) (fun c => { c with
      streamDrops := satAdd 0xFFFF c.streamDrops 1, event := c.event ||| 0x100 })).mark
        (chanPage (src - 0x100) + 0x10) 0x100
  else s

/-- A hardware coach goes to queue `q`: discarded where R256 says, waiting where fewer than 8 of the
source's coaches wait, dropped otherwise (R260). -/
def State.offer (s : State) (src q : Nat) (words : List DWord) : State :=
  if q < 2 ∨ 95 < q ∨ bit (s.routeCfg q) 0 = false then s.unroute
  else
    let w := tget [] s.pool.waiting src
    if w.length < 8 then
      { s with pool := { s.pool with
        waiting := tput s.pool.waiting src (w ++ [{ queue := q, words := words, at_ := s.now }]) } }
    else s.dropCoach src q words

/-- A coach formed by a hardware producer with the TICK its layout names (R249, R254). -/
def State.formAt (s : State) (tick : DWord) (typ src : Nat) (body : List DWord) : State :=
  match s.route (typ / 16) with
  | some q => s.offer src q (coachOf typ src tick body)
  | none => s.unroute

/-- A coach formed in this die tick. -/
def State.form (s : State) (typ src : Nat) (body : List DWord) : State := s.formAt s.tick typ src body

/-! ## Event lines (R343, R344) -/

/-- Raise the pulse of an event line. Lines 48 to 61 are levels and take none. -/
def State.raiseLine (s : State) (n : Nat) : State :=
  if n < 48 ∨ n = 62 ∨ n = 63 then
    let m : DWord := BitVec.ofNat 64 (2 ^ n)
    { s with seq := { s.seq with
      flags := s.seq.flags ||| m,
      raised := (if s.seq.raisedAt = s.now then s.seq.raised else 0) ||| m, raisedAt := s.now } }
  else s

/-- A queue notice or compare slot raises its EVT_LINE, unless it names a line from 48 up (R344). -/
def State.raiseEvtLine (s : State) (n : Nat) : State := if n < 48 then s.raiseLine n else s

/-! ## The region clock, its phase, its margins and the cycle ledger (R84 to R126, R149 to R151) -/

/-- OUT_N (R126): N of the clock offered to the shutter. In RAMP, and in HOLD entered from it, RATIO / 32 rounded
towards the gear left. DEDUCED, log entry 21. -/
def Racg.outN (g : Racg) : Nat :=
  match g.state with
  | .off => 0
  | .acquire => 8
  | .ready => 8
  | .bypass => 8
  | .locked => g.ratio / 32
  | .hold => if g.ratio ≤ g.ratioTo then g.ratio / 32 else ceilDiv g.ratio 32
  | .ramp => if g.ratio ≤ g.ratioTo then g.ratio / 32 else ceilDiv g.ratio 32

/-- The output is on its way to the die tick: held low until the switch is complete (R103). -/
def Racg.toTick (g : Racg) : Bool :=
  match g.outSwitch with
  | some o => !o.toDco
  | none => false

/-- How far the clock offered to the shutter moves in a die tick, in 1/256 of a period: a period for the die
tick, RATIO for the DCO (R84), nothing for a lost clock (R122) or during a switch to the die tick (R103).
In HOLD the figure is free (R124). DESIGN CHOICE, log entry 23. -/
def Racg.clockRate (g : Racg) : Nat :=
  if g.toTick then 0
  else
    match g.state with
    | .off => 0
    | .acquire => if g.refLost then 0 else 256
    | .ready => if g.refLost then 0 else 256
    | .bypass => if g.refLost then 0 else 256
    | .locked => g.ratio
    | .ramp => g.ratio
    | .hold => 0

/-- The rate of the clock delivered through the shutter. -/
def Racg.rate (g : Racg) : Nat := if g.shutter then g.clockRate else 0

/-- The rate of the detectors' clock (R88). -/
def Racg.detRate (g : Racg) : Nat :=
  match g.state with
  | .off => if g.refLost then 0 else 256
  | .acquire => if g.refLost then 0 else 256
  | .bypass => if g.refLost then 0 else 256
  | .ready => g.ratio
  | .locked => g.ratio
  | .ramp => g.ratio
  | .hold => 0

/-- Progress of a clock from `acc` at `since` to `now`; a free one moves by an amount the spec leaves open
(R124). DESIGN CHOICE, log entry 3. -/
def clockProgress (acc rate since : Nat) (free : Bool) (now : Nat) : Nat :=
  if now ≤ since then acc
  else if free then acc + Config.holdProgress acc since now else acc + rate * (now - since)

/-- Progress of the ledger's clock by a die tick. -/
def Ledger.progress (l : Ledger) (now : Nat) : Nat := clockProgress l.acc l.rate l.since l.free now

/-- LC at a die tick: progress less what stretching and walking took, in whole periods (R149, R152). -/
def Ledger.lcAt (l : Ledger) (now : Nat) : Nat := (l.progress now - l.taken) / 256

/-- The ledger's clock counted up to a die tick. -/
def Ledger.upTo (l : Ledger) (now : Nat) : Ledger := { l with acc := l.progress now, since := max l.since now }

/-- The clock leaves the DCO: it runs on for a tick, and its last period completes in full (R103). -/
def Ledger.lastPeriod (l : Ledger) (now : Nat) : Ledger :=
  { l.upTo now with acc := l.taken + 256 * ceilDiv (l.progress now + l.rate - l.taken) 256 }

/-- The period in progress completes in full (R111). -/
def Ledger.finishPeriod (l : Ledger) (now : Nat) : Ledger :=
  { l.upTo now with acc := l.taken + 256 * ceilDiv (l.progress now - l.taken) 256 }

/-- Progress and cycles of the detectors' clock. -/
def DetClock.progress (c : DetClock) (now : Nat) : Nat := clockProgress c.acc c.rate c.since c.free now
def DetClock.cycles (c : DetClock) (now : Nat) : Nat := (c.progress now - c.taken) / 256
def DetClock.upTo (c : DetClock) (now : Nat) : DetClock := { c with acc := c.progress now, since := max c.since now }

/-- A region in LOCKED or RAMP gives DCW_MARGIN.AVG a new value in the update (R310). -/
def Racg.running (g : Racg) : Bool := g.state == .locked || g.state == .ramp

/-- A page word as it was when the die tick began. -/
def Region.asOf (x : Region) (off : Nat) (cur : Word) : Word :=
  match x.regs.was.find? (fun e => e.1 == off) with
  | some e => e.2
  | none => cur

/-- A page word is about to be written: what it was is kept for this die tick. -/
def Region.keep (x : Region) (off : Nat) (cur : Word) : Region :=
  if x.regs.was.any (fun e => e.1 == off) then x
  else { x with regs := { x.regs with was := (off, cur) :: x.regs.was } }

/-- The CEIL_TBL field of a DCO for a gear. -/
def ceilOf (w : Word) (dco : Bool) : Nat := fld w (if dco then 16 else 0) 14
def Region.ceilField (x : Region) (dco : Bool) (g : Nat) : Nat := ceilOf (tget (0 : Word) x.regs.ceilTbl g) dco

/-- The ceiling in force (R90); one that a write or a change of gear has lowered applies from the next die tick
(R92, R125). -/
def Region.ceil (x : Region) : Nat :=
  let g := x.racg.ceilGear
  max (max (x.ceilField x.racg.dcoSel g) x.racg.ceilWas)
    (ceilOf (x.asOf (0x40 + 4 * g) (tget (0 : Word) x.regs.ceilTbl g)) x.racg.dcoSel)

/-- The spans of the last `n` tk of a history of spans. -/
def spansOf : Nat → List (Nat × Nat) → List (Nat × Nat)
  | _, [] => []
  | n, (m, k) :: t => if n ≤ k then (if n = 0 then [] else [(m, n)]) else (m, k) :: spansOf (n - k) t

/-- The spans up to a die tick. -/
def Margin.spans (m : Margin) (now : Nat) : List (Nat × Nat) :=
  match m.cur with
  | some (g, t) => if t < now then spansOf 65536 ((g, now - t) :: m.hist) else m.hist
  | none => m.hist

/-- DCW_MARGIN.AVG (R126): over the time spent so far where that is less than 65,536 tk.
DESIGN CHOICE, log entry 24. -/
def Margin.avg (m : Margin) (now : Nat) : Nat :=
  let l := m.spans now
  sumL (l.map (fun e => e.1 * e.2)) / max 1 (sumL (l.map (·.2)))

/-- The margin follows DCW, the ceiling and the state (R93, R126). -/
def Region.noteMargin (x : Region) (now : Nat) : Region :=
  let gap := x.ceil - x.racg.dcw
  let top := decide (x.racg.dcw = x.ceil)
  { x with margin :=
    if x.racg.running then
      { min := min x.margin.min gap,
        since := if top then some (x.margin.since.getD now) else none,
        told := x.margin.told && top,
        hist := x.margin.spans now, cur := some (gap, now) }
    else { x.margin with since := none, told := false, hist := x.margin.spans now, cur := none } }

/-- A walk moves on: its state lets it, and no period is stretched (R120). -/
def Region.walkRuns (x : Region) : Bool :=
  (x.racg.state == .locked || x.racg.state == .ready) && !x.racg.moving && x.droop.sNow == 0

/-- Steps still to go to PHASE_TARGET. -/
def Region.walkLeft (x : Region) : Nat := (fld x.regs.phaseCtl 0 6 + 64 - x.phase.pos % 64) % 64

/-- The walk up to a die tick: one step a local cycle, which lasts 65/64 of a period (R119, R120); the steps are
counted where the periods are delivered (R149). DEDUCED, log entry 30. -/
def Region.walkTo (x : Region) (now : Nat) : Region :=
  match x.phase.walk with
  | none => x
  | some w =>
    if now ≤ w.since then x
    else if x.walkRuns then
      let acc := w.acc + (now - w.since) * x.racg.ratio
      let n := min x.walkLeft (acc / 260)
      let given := x.racg.shutter && x.racg.state == .locked
      { x with
        phase := { x.phase with
          pos := (x.phase.pos + n) % 64,
          walk := some { since := now, acc := if n = x.walkLeft then 0 else acc - 260 * n } },
        ledger := if given then
            { x.ledger with wTot := x.ledger.wTot + BitVec.ofNat 32 n, taken := x.ledger.taken + 4 * n }
          else x.ledger,
        cal := { x.cal with clk := { x.cal.clk with
          taken := x.cal.clk.taken + 4 * n, skipped := x.cal.clk.skipped + n } } }
    else { x with phase := { x.phase with walk := some { w with since := now } } }

/-- The selector's position is brought up to a die tick, and its position at the last TICK multiple of 8 is
noted for PHASE_MEAS (R118). -/
def Region.phaseTo (x : Region) (now : Nat) (tick : DWord) : Region :=
  let ns := now - tick.toNat % 8
  let y := x.walkTo ns
  let y := if y.phase.seen < ns then { y with phase := { y.phase with was := y.phase.pos, seen := ns } } else y
  y.walkTo now

/-- PHASE_MEAS: the position measured at the last TICK multiple of 8 (R118). -/
def Region.phaseMeas (x : Region) (now : Nat) (tick : DWord) : Nat := (x.phaseTo now tick).phase.was

/-- The generator changed: the walk, the ledger's and the detectors' clocks are counted up to it, and the margin
follows. -/
def Region.setRacg (x : Region) (now : Nat) (tick : DWord) (g : Racg) : Region :=
  let x := x.phaseTo now tick
  ({ x with
    racg := g,
    ledger := { x.ledger.upTo now with rate := g.rate, free := g.shutter && g.state == .hold },
    cal := { x.cal with clk := { x.cal.clk.upTo now with
      rate := g.detRate, free := g.state == .hold } } } : Region).noteMargin now

/-- The generator of a region changed; the hazard monitor marks a tick spent in LOCKED or RAMP. -/
def State.updRacg (s : State) (r : Nat) (f : Racg → Racg) : State :=
  let g := f (s.region r).racg
  let s := s.updRegion r (fun x => x.setRacg s.now s.tick g)
  if g.running then s.updHzr r (fun h => { h with ran := true }) else s

/-- R94 codes. -/
def RacgState.code : RacgState → Nat
  | .off => 0
  | .acquire => 1
  | .ready => 2
  | .locked => 3
  | .ramp => 4
  | .bypass => 5
  | .hold => 6

/-- The ledger coach of a snapshot with its causes (R252, type 0x30). -/
def ledgerBody (x : Region) (causes : Nat) : List DWord :=
  [x.ledger.tick, x.ledger.lc, x.ledger.s,
    packD [(0, 32, x.ledger.w.toNat), (32, 4, x.ledger.maxDepth), (36, 3, x.racg.state.code),
      (39, 1, b2n x.racg.shutter), (40, 6, x.racg.outN), (46, 8, causes), (54, 10, x.ledger.seq)]]

/-- Causes of a snapshot, bits of carriage 4 (R252). -/
def causeSnap : Nat := 1
def causeDoor : Nat := 2
def causeRampEnd : Nat := 4
def causeOpen : Nat := 8
def causeClose : Nat := 16
def causeToTick : Nat := 32
def causeFromTick : Nat := 64
def causePeriodic : Nat := 128

/-- More causes of a snapshot are joined in the carriages of its coach (R157). -/
def joinCause (causes : Nat) (body : List DWord) : List DWord :=
  match body with
  | [a, b, c, d] => [a, b, c, d ||| packD [(46, 8, causes)]]
  | _ => body

/-- A page after a snapshot at the edge that begins this die tick (R150): while the tap has no die tick its TICK
stands (R122). DESIGN CHOICE, log entry 23. -/
def Region.snap (x : Region) (now : Nat) (tick : DWord) : Region :=
  { x with
    ledger := { x.ledger.upTo now with
      tick := if x.racg.refLost then x.racg.lostTick else tick,
      lc := BitVec.ofNat 64 (x.ledger.lcAt now), s := x.ledger.sTot,
      w := x.ledger.wTot, maxDepth := x.ledger.curMax, curMax := 0,
      snapAt := some now, seq := (x.ledger.seq + 1) % 65536 },
    droop := { x.droop with event := x.droop.event ||| 0x100 } }

/-- The ledger coach of region `r` for this edge has these carriages. -/
def State.noteSnap (s : State) (r : Nat) (body : List DWord) : State :=
  { s with log := { s.log with snaps := tput s.log.snaps r body } }

/-- A snapshot at the edge that begins this die tick: latches TICK, LC, S, W and MAXDEPTH, clears CUR_MAX, sets
LEDGER_SNAP and produces the ledger coach (R150, R151), which is formed as the tick ends. One edge takes one
snapshot, whose coach carries every cause (R157). DEDUCED, log entry 39. -/
def State.snapshot (s : State) (r causes : Nat) : State :=
  let x := (s.region r).phaseTo s.now s.tick
  if x.ledger.snapAt = some s.now then s.noteSnap r (joinCause causes (tget [] s.log.snaps r))
  else
    let x := x.snap s.now s.tick
    ((s.setRegion r x).mark (regionPage r + 0xB0) 0x100).noteSnap r (ledgerBody x causes)

/-- A snapshot is due at the next die-tick edge (R150, R151). DEDUCED, log entry 39. -/
def State.snapshotNext (s : State) (r causes : Nat) : State :=
  (s.updRegion r (fun x => { x with ledger := { x.ledger with due := x.ledger.due ||| causes } })).soon r

/-- The ledger coaches of this edge's snapshots are formed (R151). -/
def State.formSnaps (s : State) : State :=
  s.log.snaps.foldl (fun s e => s.formAt ((s.region e.1).ledger.tick) 0x30 e.1 e.2) s

end Sys2Proof.Machine
end

