-- ==== Sys2Proof/Machine/Flags.lean ====
section
/-! DEFINITION. Every event bit the spec gives a block: how it is set, which coach it produces, what it
feeds (INT_STATUS, the hazard accumulators, ALARM#), the status bits that follow from state, and the
passing of a die tick. -/

namespace Sys2Proof.Machine

open Sys2Proof

/-- How many of the bits of a list are set in a word. -/
def countBits (w : Word) (l : List Nat) : Nat := l.countP (fun i => bit w i)

/-! ## References and roots (R83, R252 type 0x10, R314) -/

/-- R58 codes. -/
def RootState.code : RootState → Nat
  | .idle => 0
  | .acquire => 1
  | .active => 2
  | .standby => 3
  | .holdover => 4
  | .slew => 5
  | .fault => 6

def refNum : Ref → Nat
  | .A => 0
  | .B => 1

/-- Event bits of REF_EVENT. -/
def losBit (f : Ref) : Word := oneBit (refNum f)
def disqBit (f : Ref) : Word := oneBit (2 + refNum f)
def evSwitchover : Word := oneBit 4
def evHoldEnter : Word := oneBit 5
def evHoldExit : Word := oneBit 6
def evPhaseJump : Word := oneBit 7
def evSwRefused : Word := oneBit 8
def evSegSwap : Word := oneBit 9
def evSegDead : Word := oneBit 10
def rootFaultBit : Root → Word
  | .rpa => oneBit 11
  | .rpb => oneBit 12
def evSlewDone : Word := oneBit 13

/-- Body of the reference-event coach. -/
def refBody (x : RefRoot) (bits : Word) : List DWord :=
  [packD [(0, 14, bits.toNat), (16, 3, x.rpa.state.code), (20, 3, x.rpb.state.code),
    (24, 1, refNum x.activeRef), (25, 1, b2n x.detPhase), (32, 16, twos 16 x.phaseOfs)]]

/-- A cause is noted for a SNAP_ACK of the same die tick, with SNAP_PENDING before the first one (R333). -/
def State.noteCause (s : State) (c r : Nat) : State :=
  { s with log := { s.log with
    causes := s.log.causes ++ [(c, r)], asked := if s.log.causes = [] then s.hz.snapPend else s.log.asked } }

/-- The snapshot request of R317 and R318: cause `c` is raised, region `r` concerned or 0xFF. -/
def State.raiseCause (s : State) (c r : Nat) : State :=
  let s := s.noteCause c r
  let coach (s : State) : State := s.form 0xB1 0x153
    [packD [(0, 16, s.hz.reqNum), (16, 4, 2 ^ c), (20, 4, s.hz.causes), (24, 10, s.hz.d),
      (34, 8, r)]]
  if s.hz.snapPend = false then
    coach (({ s with hz := { s.hz with
      reqNum := (s.hz.reqNum + 1) % 65536, snapPend := true, causes := 2 ^ c,
      event := s.hz.event ||| 1 } } : State).mark 0x04008 1)
  else if s.hz.causes / 2 ^ c % 2 = 0 then
    coach { s with hz := { s.hz with causes := s.hz.causes + 2 ^ c } }
  else s

/-- REF_EVENT bits are raised: the register, the accumulators of the hazard monitor, the coach, and the
SPINE cause where SEG_DEAD is set. DEDUCED, log entry 16. -/
def State.raiseRef (s : State) (bits : Word) : State :=
  if bits = 0 then s
  else
    let s := ({ s with
      ref := { s.ref with refEvent := s.ref.refEvent ||| bits },
      hz := { s.hz with
        aRef := satAdd 65535 s.hz.aRef (256 * countBits bits [0, 1, 2, 3, 7]),
        aRoot := satAdd 65535 s.hz.aRoot (256 * countBits bits [4, 5, 9, 11, 12]) } } : State).mark 0x01008 bits
    let s := s.form 0x10 0x150 (refBody s.ref bits)
    if bit bits 10 then s.raiseCause 2 0xFF else s

/-! ## Regions (R126, R158, R252 type 0x20, R465) -/

def evLock : Word := oneBit 0
def evAcqFail : Word := oneBit 1
def evLol : Word := oneBit 2
def evBypassEnter : Word := oneBit 3
def evCeilLimited : Word := oneBit 4
def evDoorTaken : Word := oneBit 5
def evRampDone : Word := oneBit 6
def evArmRefused : Word := oneBit 7
def evRacgRefused : Word := oneBit 8
def evRefLost : Word := oneBit 9
def evSwapDone : Word := oneBit 10
def evPhaseDone : Word := oneBit 11
def evCalRefused : Word := oneBit 12
def evMeasDone : Word := oneBit 13

def evEpisodeStart : Word := oneBit 0
def evDeep : Word := oneBit 1
def evCalExpired : Word := oneBit 2
def evCalVoid : Word := oneBit 3
def evDetRefused : Word := oneBit 4
def evProbeDone : Word := oneBit 5
def evCalDoneRefused : Word := oneBit 6
def evCrossUnstretched : Word := oneBit 7

/-- Body of the region-event coach. -/
def regionBody (x : Region) (racg det : Word) : List DWord :=
  [packD [(0, 14, racg.toNat), (16, 9, (det &&& 0xFE).toNat), (32, 3, x.racg.state.code),
    (35, 1, b2n x.racg.shutter), (36, 4, x.racg.gear), (40, 6, x.racg.outN), (48, 14, x.racg.dcw)]]

/-- RACG_EVENT and DET_EVENT bits are raised: DEEP and CROSS_UNSTRETCHED tell only when they rise
(R465); EPISODE_START tells nothing. DEDUCED, log entry 16. -/
def State.raiseRegion (s : State) (r : Nat) (racg det : Word) : State :=
  let x := s.region r
  let quiet : Word := (x.droop.event &&& 0x82) ||| 0x01
  let told := det &&& ~~~quiet
  let s := ((s.setRegion r { x with
    regs := { x.regs with event := x.regs.event ||| racg },
    droop := { x.droop with event := x.droop.event ||| det } }).mark (regionPage r + 0x08) racg).mark
      (regionPage r + 0xB0) det
  if racg = 0 ∧ told = 0 then s else s.form 0x20 r (regionBody (s.region r) racg told)

/-! ## Forecast, AVSBus (R181) -/

/-- FC_EVENT bits are raised, region concerned or 0xFF. -/
def State.raiseFc (s : State) (bits : Word) (r : Nat) : State :=
  if bits = 0 then s
  else
    let s := ({ s with fc := { s.fc with event := s.fc.event ||| bits } } : State).mark 0x03008 bits
    s.form 0x51 0x151 [packD [(0, 9, bits.toNat), (16, 8, r)]]

def State.raiseAvs (s : State) (bits : Word) : State :=
  ({ s with fc := { s.fc with avsEvent := s.fc.avsEvent ||| bits } } : State).mark 0x03140 bits

/-! ## Gears and doors (R202, R252 type 0x60) -/

def SlotState.code : SlotState → Nat
  | .idle => 0
  | .arming => 1
  | .armed => 2
  | .cancelling => 3
  | .opened => 4
  | .complete => 5
  | .cancelled => 6

def evArmed : Nat := 1
def evCancel : Nat := 2
def evComplete : Nat := 4
def evExceptAny : Nat := 8
def evGoRefused : Nat := 16
def evCancelLost : Nat := 32

/-- Door-event bits of slot `k` are raised; `why` is the REASON the coach reports. DEDUCED, log entry 16. -/
def State.raiseSlot (s : State) (k bits : Nat) : State :=
  if bits = 0 then s
  else
    let w : Word := BitVec.ofNat 32 (bits * 2 ^ (6 * k))
    let s := ({ s with doors := { s.doors with event := s.doors.event ||| w } } : State).mark 0x02080 w
    let d := s.slot k
    s.form 0x60 (0x140 + k)
      [packD [(0, 6, bits), (16, 3, d.state.code), (20, 3, d.reason), (24, 4, d.target),
        (28, 1, b2n d.aborted), (29, 1, b2n d.flagged), (32, 8, 0xFF)], d.door]

/-- The door unit's own events: bit 0 GEAR_WR_REFUSED, 1 THERM_HOT, 2 THERM_TRIP. -/
def State.raiseDoorUnit (s : State) (bits r : Nat) : State :=
  if bits = 0 then s
  else
    let w : Word := BitVec.ofNat 32 bits <<< 24
    let s := ({ s with doors := { s.doors with event := s.doors.event ||| w } } : State).mark 0x02080 w
    s.form 0x60 0x14F [packD [(6, 3, bits), (32, 8, r)], 0]

/-! ## Couplers (R224, R252 type 0x70) -/

def CplState.code : CplState → Nat
  | .disabled => 0
  | .flowing => 1
  | .holding => 2
  | .held => 3
  | .draining => 4
  | .drained => 5

/-- Occupancy (R206). -/
def Coupler.occ (c : Coupler) : Nat := c.entries.length

/-- The function whose state a page's coach carries: its own, or on a spare lane's page the one the lane
serves, all zeros where it serves none (R222). -/
def State.cplShown (s : State) (i : Nat) : Coupler :=
  if i < 832 then s.cpl i
  else match (s.cpl i).standsFor with
    | some j => s.cpl j
    | none => {}

/-- CPL_EVENT bits of page `i` are raised. DEDUCED, log entry 16. -/
def State.raiseCpl (s : State) (i : Nat) (bits : Word) : State :=
  if bits = 0 then s
  else
    let s := (s.updCpl i (fun c => { c with event := c.event ||| bits })).mark (cplPage i + 0x0C) bits
    let c := s.cplShown i
    s.form 0x70 (0x400 + i)
      [packD [(0, 8, bits.toNat), (8, 3, c.state.code), (11, 1, b2n c.onSpare), (12, 5, c.occ),
        (32, 16, c.discards), (48, 8, c.parErrs), (56, 8, c.ptrErrs)]]

/-! ## Measurement (R247, R252 type 0x90) -/

def MeasState.code : MeasState → Nat
  | .idle => 0
  | .calibrating => 1
  | .waitStart => 2
  | .timing => 3
  | .streaming => 4

/-- The MEAS_EVENT bits that produce a coach: TB_FAIL, CAL_FAIL, OVERFLOW, CMD_REFUSED, TICK_STEP and
RATE_HIGH. -/
def measCoached : Word := 0x68E

/-- MEAS_EVENT bits of channel `c` are raised; the coach carries every bit raised with one that produces it. -/
def State.raiseMeas (s : State) (c : Nat) (bits : Word) : State :=
  let s := (s.updChan c (fun m => { m with event := m.event ||| bits })).mark (chanPage c + 0x10) bits
  if bits &&& measCoached = 0 then s
  else s.form 0x90 (0x100 + c) [packD [(0, 11, bits.toNat), (12, 3, (s.chan c).state.code)]]

/-! ## Queues (R279): no coach (R265) -/

def State.raiseQ (s : State) (q : Nat) (bits : Word) : State :=
  (s.updQueue q (fun x => { x with event := x.event ||| bits })).mark (queuePage q + 0x0C) bits

/-- NOTICE: the bit, and the queue's event line where EVT_EN is 1 (R265). -/
def State.notice (s : State) (q : Nat) : State :=
  let s := s.raiseQ q 1
  let cfg := (s.queue q).cfg
  if bit cfg 14 then s.raiseEvtLine (fld cfg 8 6) else s

/-! ## Group tick (R305, R308) -/

def GtState.code : GtState → Nat
  | .standalone => 0
  | .joining => 1
  | .pullIn => 2
  | .aligned => 3
  | .holdover => 4

/-- GT_STATUS.ALIGNED. -/
def GroupTick.aligned (g : GroupTick) : Bool := g.state == .aligned

/-- No link is concerned: the coach tells link 0xF with peer 0xFFF. -/
def noLink : Nat := 0xFF

/-- GT_EVENT bits are raised; link concerned, or `noLink`. -/
def State.raiseGt (s : State) (bits : Word) (link : Nat) : State :=
  if bits = 0 then s
  else
    let s := ({ s with gt := { s.gt with event := s.gt.event ||| bits } } : State).mark 0x05008 bits
    let peer := if link < 16 then (s.link link).peerId else 0xFFF
    s.form 0xA0 0x152
      [packD [(0, 19, bits.toNat), (20, 3, s.gt.state.code), (23, 1, b2n s.gt.aligned),
        (24, 4, link), (32, 12, peer)]]

/-! ## Hazard and fencing (R332, R334) -/

/-- HZ_EVENT bits that produce a 0xB0 coach are raised; region concerned or 0xFF; for a feed event the
code, whether it is a note, and the lines that made it. DEDUCED, log entry 16. -/
def State.raiseHz (s : State) (bits : Word) (r code note lines : Nat) : State :=
  if bits = 0 then s
  else
    let s := ({ s with hz := { s.hz with event := s.hz.event ||| bits } } : State).mark 0x04008 bits
    s.form 0xB0 0x153
      [packD [(0, 11, bits.toNat), (16, 8, r), (24, 10, (s.hzr r).h), (34, 10, s.hz.d),
        (44, 4, code), (48, 1, note), (49, 4, lines)]]

/-- A fence coach with its HZ_EVENT bit: kind 0 fenced, 1 adopted, 2 unfenced, 3 refused. -/
def State.raiseFence (s : State) (kind r logical spare reason : Nat) : State :=
  let b : Word := nth [4, 8, 0x400, 0x10] kind
  let s := ({ s with hz := { s.hz with event := s.hz.event ||| b } } : State).mark 0x04008 b
  s.form 0xB2 0x153
    [packD [(0, 8, r), (8, 8, logical), (16, 8, spare), (24, 4, reason), (28, 4, kind),
      (32, 16, s.hz.mapGen), (48, 10, (s.hzr r).h)]]

/-- A feed event (R329): FEED_EVT, FEED_COUNT, A_FEED. -/
def State.feedEvent (s : State) (code note lines : Nat) : State :=
  let s := { s with hz := { s.hz with
    feedCount := satAdd 0xFFFF s.hz.feedCount 1, aFeed := satAdd 65535 s.hz.aFeed 256 } }
  s.raiseHz 0x200 0xFF code note lines

/-! ## Sequencer (R338, R380) -/

def TaskState.isIdle : TaskState → Bool
  | .stopped => true
  | .faulted => true
  | .ready => false
  | .waiting _ => false

/-- R338. Tasks that a LOAD_BEGIN has stopped do not halt the sequencer (R376). -/
def State.halted (s : State) : Bool :=
  (s.seq.mode == .rom || s.seq.mode == .image) && s.seq.begin_.isNone
    && (List.range 4).all (fun t => (s.task t).state.isIdle)

/-- What R30 leaves to the sequencer is without effect when the host asks for it while the sequencer is halted.
DESIGN CHOICE, log entry 20. -/
def State.frozen (s : State) (p : Path) : Bool := p == .host && s.halted

/-- SEQ_EVENT bits are raised; `t` is the task concerned, 0 for none. -/
def State.raiseSeq (s : State) (bits : Word) (t : Nat) : State :=
  if bits = 0 then s
  else
    let s := ({ s with seq := { s.seq with event := s.seq.event ||| bits } } : State).mark 0x08040 bits
    let k := s.task t
    s.form 0xC2 (0x158 + t)
      [packD [(0, 5, bits.toNat), (8, 2, t), (16, 3, k.cause), (32, 14, k.faultPc),
        (48, 16, s.seq.imgVer.toNat)]]

/-! ## Life cycle (R450) -/

def LcState.code : LcState → Nat
  | .blank => 0
  | .provisioned => 1
  | .field => 2
  | .return_ => 3
  | .ended => 4

def State.raiseLc (s : State) (bits : Word) : State :=
  if bits = 0 then s
  else
    let s := ({ s with lc := { s.lc with event := s.lc.event ||| bits } } : State).mark 0x90024 bits
    s.form 0xD0 0x154
      [packD [(0, 7, bits.toNat), (8, 3, s.lc.state.code), (12, 4, s.lc.result),
        (16, 3, s.lc.lastKind), (20, 2, s.lc.lastScope), (24, 7, s.lc.minSecVer)]]

/-! ## ALARM# and the sideband (R427, R434) -/

/-- A region has its THERM_TRIP_MAP bit at 1 (R200). -/
def State.anyTrip (s : State) : Bool := s.regions.any (fun e => e.2.thermal.trip)

/-- ALARM_STATUS (R436). DEDUCED, log entry 17. -/
def State.alarmStatus (s : State) : Word :=
  packW [(0, 1, b2n (s.hz.snapPend && bit s.hz.ctl 2)), (1, 1, b2n s.halted),
    (2, 1, b2n (s.ref.activeRoot.state == .holdover)), (3, 1, b2n s.anyTrip),
    (4, 1, b2n (bit s.sb.alarmCfg 3)), (5, 1, b2n (s.ref.segFailed ≠ 0))]

/-- A source drives ALARM# low (R427). DEDUCED, log entry 17. -/
def State.alarmWanted (s : State) : Bool :=
  let st := s.alarmStatus
  bit st 0 || (List.range 5).any (fun i => bit st (i + 1) && bit s.sb.alarmCfg i)

/-- SB_EVENT bits are raised. -/
def State.raiseSb (s : State) (bits : Word) : State :=
  if bits = 0 then s
  else
    let s := ({ s with sb := { s.sb with event := s.sb.event ||| bits } } : State).mark 0xA0028 bits
    s.form 0xD1 0x155
      [packD [(0, 9, bits.toNat), (16, 4, s.sb.evtLevel), (24, 6, s.alarmStatus.toNat),
        (32, 20, s.sb.lastOff)]]

/-- The pin follows its sources; each time it goes low ALARM_ON is set (R427). DEDUCED, log entry 17. -/
def State.alarmSettle (s : State) : State :=
  if s.alarmWanted = s.sb.alarm then s
  else if s.alarmWanted then
    ({ s with sb := { s.sb with alarm := true } } : State).raiseSb 0x100
  else { s with sb := { s.sb with alarm := false } }

/-- An SMBus access the target does not reach: counted, its offset recorded (R430). -/
def State.smbRefuse (s : State) (off : Nat) : State :=
  ({ s with sb := { s.sb with refused := satAdd 0xFFFF s.sb.refused 1, lastOff := off } } : State).raiseSb 0x10

/-! ## Register writes (R38, R40, R42) -/

/-- A register write: `f` where the path may write the offset; a value that a path ordered later has replaced in
this die tick is without effect (R43); otherwise ignored, and counted where R38 or R430 says so.
DEDUCED, log entry 9; DEDUCED, log entry 15. -/
def State.gate (s : State) (p : Path) (off : Nat) (f : State → State) : State :=
  if s.mayWrite p off then f s
  else if s.mayReach p off then s
  else match p with
    | .host => if writeClass off = .s then s.countIgnored off else s
    | .smbus => s.smbRefuse off
    | .seq => s

/-- As `gate`, for a row that writes RW fields: they stand where a path ordered later has written them in this die
tick, and what the register held is noted (R43). -/
def State.gateRw (s : State) (p : Path) (off : Nat) (old : Word) (f : State → State) : State :=
  s.gate p off (fun s => if (s.before p off).isSome then s else (f s).noteWrite p off old)

/-- The meaning of a row that is a register write. -/
def writeAct (s : State) (p : Path) (off : Nat) (f : State → State) : Res :=
  act s true (fun s => s.gate p off f)

/-- A write to a page of region `r`: no page above 207 (R13), and none but STOP and CLOSE while the die
tick is lost (R123). DEDUCED, log entry 9. -/
def regionWrite (s : State) (p : Path) (r off : Nat) (f : State → State) : Res :=
  act s (isRegion r) (fun s => s.gate p (regionPage r + off)
    (fun s => if (s.region r).racg.refLost then s else f s))

/-- As `regionWrite`, for a row that writes RW fields. -/
def regionWriteRw (s : State) (p : Path) (r off : Nat) (old : Word) (f : State → State) : Res :=
  act s (isRegion r) (fun s => s.gateRw p (regionPage r + off) old
    (fun s => if (s.region r).racg.refLost then s else f s))

/-- A read with a side effect: the SMBus target does not reach the pages that have one (R429, R430). -/
def readAct (s : State) (p : Path) (off : Nat) (f : State → State) : Res :=
  act s true (fun s => match p with
    | .smbus => { s.smbRefuse off with out := { s.out with readData := some 0 } }
    | .host => f s
    | .seq => f s)

/-! ## Status words (R44, R45) -/

/-- The spine is ready: TICK counts and every segment, or its spare, carries the die tick.
DEDUCED, log entry 20. -/
def RefRoot.spineOk (x : RefRoot) : Bool := x.tickValid && x.segFailed == 0

/-- Sequencer bits of KTC_STATUS. -/
def State.seqRom (s : State) : Bool := s.seq.mode == .loading || (s.seq.mode == .rom && !s.halted)
def State.seqImage (s : State) : Bool := s.seq.mode == .image && !s.halted

def State.ktcStatus (s : State) : Word :=
  packW [(0, 1, b2n s.ref.tickValid), (1, 1, b2n s.ref.spineOk), (2, 1, b2n s.seqRom),
    (3, 1, b2n s.seqImage), (4, 1, b2n s.halted), (5, 1, b2n s.lc.sealed),
    (6, 1, b2n s.privOpen)]

/-- A block's event word and its enables have a bit in common. -/
def pend (ev en : Word) : Bool := ev &&& en ≠ 0

/-- INT_STATUS (R45). -/
def State.intStatus (s : State) : Word :=
  packW [(0, 1, b2n (pend s.ref.refEvent s.ref.refEventEn)),
    (1, 1, b2n (s.regions.any (fun e =>
      pend e.2.regs.event e.2.regs.eventEn || pend e.2.droop.event e.2.droop.eventEn))),
    (2, 1, b2n (pend s.fc.event s.fc.eventEn)),
    (3, 1, b2n (pend s.doors.event s.doors.eventEn)),
    (4, 1, b2n (s.cpls.any (fun e => pend e.2.event e.2.eventEn))),
    (5, 1, b2n (s.meas.any (fun e => pend e.2.event e.2.eventEn))),
    (6, 1, b2n (s.pool.queues.any (fun e => pend e.2.event e.2.eventEn))),
    (7, 1, b2n (pend s.gt.event s.gt.eventEn)),
    (8, 1, b2n (pend s.hz.event s.hz.eventEn)),
    (9, 1, b2n (pend s.seq.event s.seq.eventEn)),
    (10, 1, b2n (pend s.lc.event s.lc.eventEn)),
    (11, 1, b2n (pend s.sb.event s.sb.eventEn || pend s.fc.avsEvent s.fc.avsEventEn)),
    (12, 1, b2n (s.glob.ignored ≠ 0)),
    (13, 1, b2n (s.mb.slots.any (fun e => e.2.full && !e.2.read)))]

/-- The KTC interrupt is asserted (R44). -/
def State.interrupt (s : State) : Bool := s.intStatus &&& s.glob.intEnable ≠ 0

/-- The event flags as a task sees them: pulse flags and the level lines 48 to 61 (R343, R344). -/
def State.lineFlags (s : State) : DWord :=
  (s.seq.flags &&& 0xC000FFFFFFFFFFFF) ||| BitVec.ofNat 64 (s.intStatus.toNat % 16384 * 2 ^ 48)

end Sys2Proof.Machine
end

