-- ==== Sys2Proof/Machine/Forecast.lean ====
section
/-! DEFINITION. Load forecasts, windows and rail sums, tightening, stagger, LDWARN, and the AVSBus
request channels (chapter 05). -/

namespace Sys2Proof.Machine

open Sys2Proof

/-! ## Rails (R167 to R169) -/

/-- The cluster of a core or fabric region (R8, R167). -/
def regionCluster (r : Nat) : Option Nat :=
  if r < 160 then some (r / 10) else if r < 176 then some (r - 160) else none

/-- A word of the block as it was when the die tick began. -/
def Forecast.asOf (x : Forecast) (off : Nat) (cur : Word) : Word :=
  match x.was.find? (fun e => e.1 == off) with
  | some e => e.2
  | none => cur

/-- A word is about to be written: what it was is kept for this die tick. -/
def Forecast.keep (x : Forecast) (off : Nat) (cur : Word) : Forecast :=
  if x.was.any (fun e => e.1 == off) then x else { x with was := (off, cur) :: x.was }

/-- The rail of a cluster: a RAIL_MAP written governs from the next die tick (R167). -/
def Forecast.clusterRail (x : Forecast) (c : Nat) : Nat := fld (x.asOf 0x03010 x.railMap) (2 * c) 2

/-- The rail of a region. -/
def Forecast.regionRail (x : Forecast) (r : Nat) : Option Nat :=
  (regionCluster r).map x.clusterRail

/-- The windows of a region, in the order they opened. -/
def Forecast.windowsOf (x : Forecast) (r : Nat) : List FcWindow := tget [] x.windows r

/-- The sum S of rail `n` over the open windows (R168). -/
def Forecast.railSum (x : Forecast) (n : Nat) : Nat :=
  sumL (x.windows.map (fun e =>
    if x.regionRail e.1 = some n then sumL (e.2.map (·.cls)) else 0))

/-- S at a die tick, from the rail's history. -/
def Rail.sumAt (x : Rail) (t : Nat) : Nat :=
  match x.sums.find? (fun e => decide (e.1 ≤ t)) with
  | some e => e.2
  | none => 0

/-- History older than the longest WARN_SPAN is dropped, but for its newest entry. -/
def trimSums (t : Nat) : List (Nat × Nat) → List (Nat × Nat)
  | [] => []
  | e :: l => if e.1 + 260 ≤ t then [e] else e :: trimSums t l

/-- S takes a value at a die tick. -/
def Rail.put (x : Rail) (t v : Nat) : Rail :=
  if x.sumAt t = v then x
  else { x with sums := trimSums t ((t, v) :: x.sums.filter (fun e => decide (e.1 < t))) }

/-- The smallest S over the last `span` ticks up to `t`. -/
def minSum (t span : Nat) : List (Nat × Nat) → Option Nat → Nat
  | [], _ => 0
  | e :: l, low =>
    let m := match low with
      | some v => min v e.2
      | none => e.2
    if e.1 + span ≤ t + 1 then m else minSum t span l (some m)

/-- The rise of a rail at a die tick (R174). DEDUCED, log entry 26. -/
def Rail.rise (x : Rail) (span t : Nat) : Nat :=
  x.sumAt t - minSum t span (x.sums.filter (fun e => decide (e.1 ≤ t))) none

/-- WARN_STEP, WARN_SPAN, WARN_MIN; 0 is taken as 1 (R181). -/
def Forecast.warnStep (x : Forecast) : Nat := max 1 (fld x.warnCfg 0 10)
def Forecast.warnSpan (x : Forecast) : Nat := max 1 (fld x.warnCfg 16 8)
def Forecast.warnMin (x : Forecast) : Nat := max 1 (fld x.warnCfg 24 8)

def Forecast.rail (x : Forecast) (n : Nat) : Rail := tget {} x.rails n

/-- Enables of FC_CTL. -/
def Forecast.fcEn (x : Forecast) : Bool := bit x.ctl 0
def Forecast.stagEn (x : Forecast) : Bool := bit x.ctl 1
def Forecast.tightEn (x : Forecast) : Bool := bit (x.asOf 0x03000 x.ctl) 2
def Forecast.warnEn (x : Forecast) : Bool := bit x.ctl 3

/-- The band of a sum under limits, 0 to 4 (R169). -/
def bandOf (lim : Word) (v : Nat) : Nat :=
  let b1 := fld lim 0 10
  let b2 := fld lim 10 10
  let b3 := fld lim 20 10
  if v = 0 then 0
  else if v < b1 then 1
  else if b1 ≤ v ∧ v < b2 then 2
  else if b2 ≤ v ∧ v < b3 then 3
  else 4

/-- The present band of a sum. -/
def Forecast.band (x : Forecast) (v : Nat) : Nat := bandOf x.bandLim v

/-- TIGHT of a band. -/
def bandTight (val : Word) (b : Nat) : Nat := if b = 0 then 0 else fld val (4 * (b - 1)) 4

/-- BAND_LIM and TIGHT_VAL in force in a die tick: values written govern from the next one (R180).
DEDUCED, log entry 26. -/
def Forecast.bandsAt (x : Forecast) (t : Nat) : Word × Word :=
  match x.bands.find? (fun e => decide (e.1 ≤ t)) with
  | some e => e.2
  | none => (0x0600C010, 0x00008642)

/-- TIGHT presented to the regions of a rail: from the second die tick after S took its value, by the bands in
force then. -/
def Forecast.railTight (x : Forecast) (n now : Nat) : Nat :=
  if x.tightEn then
    let b := x.bandsAt (now - 2)
    bandTight b.2 (bandOf b.1 ((x.rail n).sumAt (now - 2)))
  else 0

/-- TIGHT of a region (R169). -/
def State.tightOf (s : State) (r : Nat) : Nat :=
  match s.fc.regionRail r with
  | some n => s.fc.railTight n s.now
  | none => 0

/-- LDWARN[n] as the pin shows it. -/
def State.ldwarn (s : State) (n : Nat) : Bool := (s.fc.rail n).warn

/-- Rail `n` takes its sum. -/
def State.railSettle (s : State) (n : Nat) : State :=
  { s with fc := { s.fc with rails := tput s.fc.rails n ((s.fc.rail n).put s.now (s.fc.railSum n)) } }

/-- Every rail takes its sum. -/
def State.railsSettle (s : State) : State :=
  (((s.railSettle 0).railSettle 1).railSettle 2).railSettle 3

/-- LDWARN[n] as a die tick begins (R174, R175): with WARN_EN at 0 it is deasserted; an assertion that falls due
is made, with WARN_ON; a rise of WARN_STEP in the tick that has ended makes one due. DEDUCED, log entry 26. -/
def State.railTick (s : State) (n : Nat) : State :=
  let x := s.fc.rail n
  if s.fc.warnEn then
    let on := decide (x.due = some s.now)
    let x := if on then { x with warn := true, warnAt := s.now, due := none } else x
    let x := if x.warn = false ∧ s.fc.warnStep ≤ x.rise s.fc.warnSpan (s.now - 1) then
        { x with due := some (s.now + 1) } else x
    let s := { s with fc := { s.fc with rails := tput s.fc.rails n x } }
    if on then s.raiseFc (oneBit (5 + n)) 0xFF else s
  else { s with fc := { s.fc with rails := tput s.fc.rails n { x with warn := false, due := none } } }

/-- What the block does as a die tick begins: what was written in the last one is in force, the rails follow a new
RAIL_MAP, and the LDWARN lines are settled. DESIGN CHOICE, log entry 1. -/
def State.fcTick (s : State) : State :=
  let w := s.fc.was
  let wrote (off : Nat) : Bool := w.any (fun e => e.1 == off)
  let x := { s.fc with
    was := [],
    bands := if wrote 0x03020 || wrote 0x03024 then
        (s.now, s.fc.bandLim, s.fc.tightVal) :: s.fc.bands.take 3 else s.fc.bands }
  let s := { s with fc := x }
  let s := if wrote 0x03010 then s.railsSettle else s
  (((s.railTick 0).railTick 1).railTick 2).railTick 3

/-- A region's windows are replaced, and the rails follow. -/
def State.setWindows (s : State) (r : Nat) (l : List FcWindow) : State :=
  ({ s with fc := { s.fc with
    windows := if l = [] then s.fc.windows.filter (fun e => e.1 != r) else tput s.fc.windows r l } } : State).railsSettle

/-- A region's shutter closes: its windows close (R166). -/
def State.closeWindows (s : State) (r : Nat) : State :=
  if s.fc.windowsOf r = [] then s else s.setWindows r []

/-! ## Forecasts (R159 to R173) -/

def evBadFmt : Word := oneBit 0
def evOversize : Word := oneBit 1
def evDiscard : Word := oneBit 2
def evEvict : Word := oneBit 3
def evStagSat : Word := oneBit 4

/-- BASE of a format, as the die tick began (R180). -/
def Forecast.base (x : Forecast) (f : Nat) : Nat :=
  fld (x.asOf (0x03030 + 4 * f) (tget (fmtReset f) x.fmtTbl f)) 0 4

/-- The active fraction in eighths and the class (R162). -/
def fcFraction (rows cols : Nat) : Nat := ceilDiv (8 * min 256 rows * min 256 cols) 65536
def fcClass (base e : Nat) : Nat := min 7 (ceilDiv (base * e) 8)

/-- Stagger slot width, and a cluster's STEP_MAX as the die tick began (R180). -/
def Forecast.stagSlot (x : Forecast) : Nat := max 1 (fld x.winCfg 8 4)
def Forecast.stepMaxOf (x : Forecast) (c : Nat) : Nat :=
  fld (x.asOf (0x03060 + 4 * c) (tget (10 : Word) x.stepMax c)) 0 6

/-- The landing tick of a start, and its slot (R170). -/
def landTick (a n d : Nat) : Nat := a + ceilDiv ((256 + d) * 8) n
def landSlot (w a n d : Nat) : Nat := landTick a n d / w

/-- R170: the stagger and whether it saturated. The fuel covers every value of D. -/
def chooseStagger (ledger : Tbl Nat) (w a n cls stepMax : Nat) : Nat → Nat → Nat × Bool
  | 0, d => (d, true)
  | fuel + 1, d =>
    let sl := landSlot w a n d
    let held := tget 0 ledger sl
    if held = 0 ∨ held + cls ≤ stepMax then (d, false)
    else if d ≥ 63 then (d, true)
    else
      let next := (((List.range 64).filter (fun e => decide (d < e))).find?
        (fun e => decide (sl < landSlot w a n e))).getD 63
      chooseStagger ledger w a n cls stepMax fuel (min 63 next)

/-- The stagger of a forecast: 0 and no look at the ledger with STAG_EN at 0 (R170). -/
def State.staggerOf (s : State) (c n cls : Nat) : Nat × Bool :=
  if s.fc.stagEn then
    chooseStagger (tget [] s.fc.stagger c) s.fc.stagSlot s.tk n cls (s.fc.stepMaxOf c) 65 0
  else (0, false)

/-- The closing tick C of a window (R164). -/
def closeTick (a d dur n tail : Nat) : Nat := a + ceilDiv ((256 + d + 64 * max 1 dur) * 8) n + tail

/-- The window with the smallest C leaves, the first of equal ones (R165). -/
def evictWindow (l : List FcWindow) : List FcWindow :=
  match l.find? (fun w => l.all (fun v => decide (w.close ≤ v.close))) with
  | some w => l.erase w
  | none => l

/-- A forecast is discarded; its port receives stagger 0 (R163). -/
def State.discardForecast (s : State) (r : Nat) (bad : Bool) : State :=
  let s := { s with
    fc := if bad then { s.fc with badFmt := satAdd 0xFFFF s.fc.badFmt 1 }
      else { s.fc with discards := satAdd 0xFFFF s.fc.discards 1 },
    out := { s.out with stagger := some (r, 0) } }
  s.raiseFc (if bad then evBadFmt else evDiscard) r

/-- An accepted forecast (R162, R164, R165, R170, R176). -/
def State.acceptForecast (s : State) (r : Nat) (msg : Word) : State :=
  let c := r / 10
  let f := fld msg 0 4
  let rows := fld msg 4 9
  let cols := fld msg 13 9
  let e := fcFraction rows cols
  let cls := fcClass (s.fc.base f) e
  let n := max 1 (s.region r).racg.outN
  let tooBig := decide (256 < rows ∨ 256 < cols)
  let (d, sat) := s.staggerOf c n cls
  let close := closeTick s.tk d (fld msg 22 8) n (fld s.fc.winCfg 0 8)
  let live := (s.fc.windowsOf r).filter (fun w => decide (s.tk < w.close))
  let evict := decide (4 ≤ live.length)
  let ws := (if evict then evictWindow live else live) ++ [{ close := close, cls := cls }]
  let fc := { s.fc with
    accepted := (s.fc.accepted + 1) % 65536,
    oversize := satAdd 0xFFFF s.fc.oversize (b2n tooBig),
    evicts := satAdd 0xFFFF s.fc.evicts (b2n evict),
    stagSats := satAdd 0xFFFF s.fc.stagSats (b2n sat),
    stagger :=
      let l := tget [] s.fc.stagger c
      let k := landSlot s.fc.stagSlot s.tk n d
      tput s.fc.stagger c (tput l k (tget 0 l k + cls)) }
  let s := { s with fc := fc, out := { s.out with stagger := some (r, d) } }
  let s := s.setWindows r ws
  let s := s.raiseFc ((if tooBig then evOversize else 0) ||| (if evict then evEvict else 0)
    ||| (if sat then evStagSat else 0)) r
  if bit s.fc.winCfg 16 then
    s.form 0x50 r [packD [(0, 4, f), (4, 4, e), (8, 3, cls), (11, 6, d), (17, 1, b2n tooBig),
      (18, 1, b2n evict), (24, 40, close)]]
  else s

/-- FORECAST (R159 to R165, R170). One with a bad FMT and a DISCARD case counts as BAD_FMT alone, and a ROWS or
COLS above 256 of a discarded one is not told: DESIGN CHOICE, log entry 54. -/
def execForecast (r : Nat) (msg : Word) (s : State) : Res :=
  actAt "forecast port" 160 r s true (fun s =>
    if 10 < fld msg 0 4 then s.discardForecast r true
    else if fld msg 4 9 = 0 ∨ fld msg 13 9 = 0 ∨ (s.region r).racg.shutter = false
        ∨ s.fc.fcEn = false then s.discardForecast r false
    else s.acceptForecast r msg)

/-- WINDOW_CLOSE (R164, R168): the windows of a region whose closing tick has come. -/
def execWindowClose (r : Nat) (s : State) : Res :=
  actAt "forecast port" 160 r s ((s.fc.windowsOf r).any (fun w => decide (w.close ≤ s.tk))) (fun s =>
    s.setWindows r ((s.fc.windowsOf r).filter (fun w => decide (s.tk < w.close))))

/-- LDWARN_DEASSERT (R174). DEDUCED, log entry 26. -/
def execLdwarnDeassert (rail : Nat) (s : State) : Res :=
  actAt "rail" 4 rail s ((s.fc.rail rail).warn
      && decide ((s.fc.rail rail).warnAt + s.fc.warnMin ≤ s.now)
      && decide ((s.fc.rail rail).rise s.fc.warnSpan s.now < s.fc.warnStep)) (fun s =>
    { s with fc := { s.fc with
      rails := tput s.fc.rails rail { s.fc.rail rail with warn := false } } })

/-- STAGGER_SLOT_EXPIRY (R172): the slots of a cluster wholly before TICK. -/
def execStaggerSlotExpiry (cluster : Nat) (s : State) : Res :=
  actAt "cluster" 16 cluster s
    ((tget [] s.fc.stagger cluster).any (fun e => decide ((e.1 + 1) * s.fc.stagSlot ≤ s.tk))) (fun s =>
    { s with fc := { s.fc with
      stagger := tput s.fc.stagger cluster ((tget [] s.fc.stagger cluster).filter
        (fun e => decide (s.tk < (e.1 + 1) * s.fc.stagSlot))) } })

/-- FC_EN takes a value; at 0 every window closes (R180). -/
def State.writeFcEn (s : State) (en : Bool) : State :=
  let s := { s with fc := { s.fc with ctl := rwBits 1 s.fc.ctl (if en then 1 else 0) } }
  if en then s
  else ({ s with fc := { s.fc with windows := [] } } : State).railsSettle

/-- WARN_EN takes a value; at 0 every line is deasserted from the next die tick (R175). -/
def State.writeWarnEn (s : State) (en : Bool) : State :=
  { s with fc := { s.fc with ctl := rwBits 8 s.fc.ctl (if en then 8 else 0) } }

/-- A write of FC_CTL. -/
def State.writeFcCtl (s : State) (v : Word) : State :=
  let s := { s with fc := { s.fc.keep 0x03000 s.fc.ctl with ctl := rwBits 6 s.fc.ctl v } }
  (s.writeFcEn (bit v 0)).writeWarnEn (bit v 3)

/-- FC_EN_WRITE (R163, R180). -/
def execFcEnWrite (p : Path) (en : Bool) (s : State) : Res :=
  act s true (fun s => s.gateRw p 0x03000 s.fc.ctl (fun s => s.writeFcEn en))

/-- WARN_EN_WRITE (R174, R175). -/
def execWarnEnWrite (p : Path) (en : Bool) (s : State) : Res :=
  act s true (fun s => s.gateRw p 0x03000 s.fc.ctl (fun s => s.writeWarnEn en))

/-! ## AVSBus request channels (R177 to R179, R433) -/

def avsDone (n : Nat) : Word := oneBit n
def avsFail (n : Nat) : Word := oneBit (4 + n)
def avsRefused (n : Nat) : Word := oneBit (8 + n)
def avsMismatch (n : Nat) : Word := oneBit (12 + n)
def avsReplaced (n : Nat) : Word := oneBit (16 + n)

/-- A channel has a frame ready or on the bus. -/
def AvsChan.framing (a : AvsChan) : Bool :=
  match a.run with
  | some (_, .writing) => true
  | some (_, .reading) => true
  | _ => false

/-- The channel whose frame is on the bus: frames go one at a time, in order of readiness, the
lowest-numbered channel first (R433). DEDUCED, log entry 27. -/
def State.avsOnBus (s : State) : Option Nat :=
  let l := (List.range 4).filter (fun n => (s.avs n).framing && decide ((s.avs n).startAt ≤ s.now))
  l.find? (fun n => l.all (fun m =>
    decide ((s.avs n).startAt < (s.avs m).startAt ∨ ((s.avs n).startAt = (s.avs m).startAt ∧ n ≤ m))))

/-- CONFIRMED of a channel (R186). -/
def AvsChan.confirmed (a : AvsChan) : Nat := if a.result = 1 then a.lastMv else 0

/-- A request ends with a result; a queued one starts in the next tick. DEDUCED, log entry 27. -/
def State.avsEnd (s : State) (n result mv : Nat) (bits : Word) : State :=
  let a := s.avs n
  let a := { a with confWas := a.confirmed, result := result, lastMv := mv }
  let a := match a.queued with
    | some q => { a with run := some (q, .writing), queued := none, startAt := s.now + 1, retries := 0 }
    | none => { a with run := none }
  let a := { a with endAt := some s.now }
  (s.setAvs n a).raiseAvs bits

/-- A GO with its MV (R178). In the die tick in which a request has ended it starts in the next one as the sole
request (R180). -/
def State.avsGoNow (s : State) (n mv : Nat) : State :=
  let a := { s.avs n with mv := mv % 65536 }
  let v := mv % 65536
  let vmax := fld a.limit 16 16
  if vmax = 0 ∨ v < fld a.limit 0 16 ∨ vmax < v ∨ s.ref.tickValid = false then
    (s.setAvs n a).raiseAvs (avsRefused n)
  else
    if a.endAt = some s.now then
      (s.setAvs n { a with run := some (v, .writing), startAt := s.now + 1, retries := 0 }).raiseAvs
        (if a.run.isSome then avsReplaced n else 0)
    else match a.run with
    | none => s.setAvs n { a with run := some (v, .writing), startAt := s.now, retries := 0 }
    | some _ =>
      (s.setAvs n { a with queued := some v }).raiseAvs (if a.queued.isSome then avsReplaced n else 0)

/-- A frame failed: it is retried up to twice, then the request fails (R179). DEDUCED, log entry 27. -/
def State.avsFrameFail (s : State) (n mv : Nat) : State :=
  if (s.avs n).retries < 2 then
    s.updAvs n (fun a => { a with retries := a.retries + 1, startAt := s.now })
  else s.avsEnd n 2 mv (avsFail n)

/-- AVS_GO (R178). -/
def execAvsGo (p : Path) (n mv : Nat) (s : State) : Res :=
  act s (decide (n < 4)) (fun s => s.gate p (0x03100 + 0x10 * n) (fun s => s.avsGoNow n mv))

/-- AVS_FRAME_END (R179, R433). DESIGN CHOICE, log entry 8; DEDUCED, log entry 27. -/
def execAvsFrameEnd (n : Nat) (resp : AvsResp) (s : State) : Res :=
  actAt "AVSBus request channel" 4 n s (s.avsOnBus == some n) (fun s =>
    match (s.avs n).run with
    | some (mv, ph) =>
      let s := { s with out := { s.out with
        avsFrame := some (fld (s.avs n).cfg 0 4, if ph = AvsPhase.reading then none else some mv) } }
      match resp with
      | .noResponse =>
        (({ s with sb := { s.sb with busErrs := satAdd 0xFFFF s.sb.busErrs 1 } } : State).avsFrameFail
          n mv).raiseSb 0x80
      | .crcFail => s.avsFrameFail n mv
      | .statusError => s.avsFrameFail n mv
      | .ok v =>
        if ph = .reading then
          let v := v % 65536
          if ((v : Int) - mv).natAbs ≤ fld (s.avs n).cfg 16 8 then s.avsEnd n 1 v (avsDone n)
          else s.avsEnd n 3 v (avsMismatch n)
        else s.updAvs n (fun a => { a with
          run := some (mv, .settling (s.now + 1024 * fld a.cfg 8 8)) })
    | none => s)

/-- AVS_SETTLE_DONE (R179). DEDUCED, log entry 27. -/
def execAvsSettleDone (n : Nat) (s : State) : Res :=
  actAt "AVSBus request channel" 4 n s (match (s.avs n).run with
      | some (_, .settling due) => decide (due ≤ s.now)
      | _ => false) (fun s =>
    match (s.avs n).run with
    | some (mv, _) =>
      if bit (s.avs n).cfg 24 then
        s.updAvs n (fun a => { a with run := some (mv, .reading), startAt := s.now })
      else s.avsEnd n 1 mv (avsDone n)
    | none => s)

end Sys2Proof.Machine
end

