-- ==== Sys2Proof/Machine/RegionPage.lean ====
section
/-! DEFINITION. What a region's page shows (R126, R158): the derived values of the generator, detectors,
calibration and sensors, and the word at each page offset, held while the die tick is lost (R123). -/

namespace Sys2Proof.Machine

open Sys2Proof

/-! ## Generator -/

/-- N of a gear entry, and whether the entry is valid (R182). -/
def State.gearN (s : State) (g : Nat) : Nat := fld (tget (gearReset g) s.doors.gearA g) 0 6
def State.gearValid (s : State) (g : Nat) : Bool :=
  decide (8 ≤ s.gearN g) && decide (s.gearN g ≤ 40) && decide (g < 16)

/-- The serving DCO runs (R91). -/
def RacgState.dcoRuns : RacgState → Bool
  | .off => false
  | .bypass => false
  | .acquire => true
  | .ready => true
  | .locked => true
  | .ramp => true
  | .hold => true

/-- DCW: of an acquisition after its first die tick it is the loop's, within the ceiling (R91, R97).
DESIGN CHOICE, log entry 24. -/
def Region.dcwNow (x : Region) (r now : Nat) : Nat :=
  if x.racg.state = .acquire ∧ x.racg.acqAt < now then min (Config.acqDcw r now) x.ceil else x.racg.dcw

/-- CEIL_CLAMP (R93). Behind a stopped DCO, in OFF and BYPASS, it reads 0 though DCW may equal the ceiling: the
spec names no exception, and this is the model's. DESIGN CHOICE, log entry 24. -/
def Region.clamped (x : Region) (r now : Nat) : Bool :=
  x.racg.state.dcoRuns && decide (x.dcwNow r now = x.ceil)

/-- The stretch engine acts (R89). -/
def RacgState.stretches : RacgState → Bool
  | .locked => true
  | .ramp => true
  | .hold => true
  | .off => false
  | .acquire => false
  | .ready => false
  | .bypass => false

/-- PHASE_STATUS.MEAS_VALID (R118). -/
def RacgState.measValid (st : RacgState) : Bool := st == .locked || st == .ready

/-- Phase stepping is supported (R117). -/
def phaseSupported (r : Nat) : Bool := decide (r < 204)

/-! ## Detectors -/

/-- Detectors of the region that its masks and selection leave active (R133). -/
def Droop.activeDet (d : Droop) (i : Nat) : Bool := !bit d.detMask i && !bit d.calSel i
def activeCount (r : Nat) (mask sel : Word) : Nat :=
  (List.range (detCount r)).countP (fun i => !bit mask i && !bit sel i)

/-- BASE and K_STEP (R158). -/
def Droop.base (d : Droop) : Nat := fld d.thresh 0 6
def Droop.kStep (d : Droop) : Nat := max 1 (fld d.thresh 24 3)

/-- The detectors as they sample in this die tick: a mask, selection or threshold written in it takes effect with
the first sampling edge after it (R138). -/
def Region.sampling (x : Region) : Droop :=
  { x.droop with
    detMask := x.asOf 0x80 x.droop.detMask, calSel := x.asOf 0x84 x.droop.calSel,
    thresh := x.asOf 0x88 x.droop.thresh }

/-- EFF (R132). -/
def State.eff (s : State) (r : Nat) : Nat := sat 63 ((s.region r).sampling.base + s.tightOf r)

/-- Detectors whose latest reading is at most EFF. -/
def Droop.crossing (d : Droop) (n eff : Nat) : Nat :=
  sumL ((d.readings.filter (fun e => decide (e.1 < n) && decide (e.2 ≤ eff))).map (fun e => 2 ^ e.1))

/-- What DET_READ shows for a detector (R145). -/
def Droop.shown (d : Droop) (i : Nat) : Nat :=
  if bit d.calSel i then tget 0 d.heldRead i else tget 0 d.readings i

/-- AGE (R147). -/
def Calib.age (c : Calib) (now : Nat) : Nat :=
  match c.doneAt with
  | some t => sat 0xFFFF ((now - t) / 2 ^ 24)
  | none => 0xFFFF

/-- The higher unmasked sensor reading (R131): a mask of both is never in force (R141). -/
def higherTemp (mask : Word) (t0 t1 : Int) : Int :=
  if bit mask 16 then t1 else if bit mask 17 then t0 else max t0 t1

/-- THERM_SLOPE (R131); at the 1,024th conversion itself, against the first reading. DESIGN CHOICE, log entry 25. -/
def Thermal.slope (t : Thermal) : Int :=
  match t.hist with
  | [] => 0
  | h :: _ =>
    if t.hist.length < 1024 then 0 else h - t.hist.getD (min 1024 (t.hist.length - 1)) 0

/-- Four 6-bit fields of a DET_TRIM or DET_READ word. -/
def detWord (r w : Nat) (f : Nat → Nat) : Word :=
  if 4 * w < detCount r then
    packW [(0, 6, f (4 * w)), (8, 6, f (4 * w + 1)), (16, 6, f (4 * w + 2)), (24, 6, f (4 * w + 3))]
  else 0

/-! ## The page -/

/-- RACG_STATE. -/
def Region.stateWord (x : Region) (r now : Nat) : Word :=
  let g := x.racg
  packW [(0, 3, g.state.code), (3, 1, b2n g.shutter), (4, 1, b2n g.dcoSel), (5, 1, b2n g.refLost),
    (6, 1, b2n g.armed), (7, 1, b2n (x.clamped r now)), (8, 4, g.gear), (12, 4, g.armGear), (16, 6, g.outN)]

/-- WALKING: a walk is in progress or paused (R120, R121). -/
def Region.walking (x : Region) (now : Nat) : Bool :=
  match x.phase.walk with
  | some w => decide (w.since ≤ now)
  | none => false

/-- The present word at a page offset. STRETCH_STATUS.ACTIVE reads 0 until TICK counts, its reset value, though
every detector is active then: DESIGN CHOICE, log entry 12. -/
def State.regionNow (s : State) (r off : Nat) : Word :=
  let x := s.region r
  let g := x.racg
  let d := x.droop
  let c := x.cal
  let l := x.ledger
  match off with
  | 0x00 => x.stateWord r s.now
  | 0x08 => x.regs.event
  | 0x0C => x.regs.eventEn
  | 0x10 => packW [(0, 14, x.dcwNow r s.now), (16, 14, x.ceil)]
  | 0x14 => packW [(0, 14, x.margin.avg s.now), (16, 14, x.margin.min)]
  | 0x18 => x.regs.loopCfg
  | 0x1C => x.regs.acqCfg
  | 0x20 => if phaseSupported r then x.regs.phaseCtl else 0
  | 0x24 => packW [(0, 6, x.phaseMeas s.now s.tick), (6, 1, b2n g.state.measValid), (8, 1, b2n (x.walking s.now)),
      (9, 1, b2n (phaseSupported r))]
  | 0x28 => packW [(0, 14, x.regs.measCode), (17, 1, b2n x.regs.measRun.isSome)]
  | 0x2C => packW [(0, 20, x.regs.measCount), (31, 1, b2n x.regs.measValid)]
  | 0x30 => packW [(0, 16, x.regs.lolCount), (16, 16, x.regs.acqCount)]
  | 0x80 => d.detMask
  | 0x84 => d.calSel
  | 0x88 => packW [(0, 6, d.base), (8, 6, s.eff r), (16, 4, s.tightOf r), (24, 3, fld d.thresh 24 3)]
  | 0x8C => packW [(0, 4, d.sNow), (4, 4, d.kNow), (8, 16, d.crossing (detCount r) (s.eff r)),
      (24, 5, if s.ref.tickValid then activeCount r d.detMask d.calSel else 0),
      (29, 1, b2n d.episode.isSome)]
  | 0xB0 => d.event
  | 0xB4 => d.eventEn
  | 0xB8 => packW [(0, 1, b2n c.valid), (4, 4, c.gear), (8, 6, c.drift), (16, 16, c.age s.now)]
  | 0xBC => packW [(16, 16, c.maxAge)]
  | 0xC0 => packW [(0, 6, c.probeAdv), (8, 1, b2n c.probeSrc), (10, 1, b2n c.probeRun.isSome)]
  | 0xC4 => packW [(0, 1, b2n c.prValid), (1, 1, b2n c.prFail), (2, 1, b2n c.prShort),
      (3, 1, b2n c.prIdle), (4, 6, c.prAdv), (16, 16, c.prSkipped)]
  | 0xC8 => packW [(0, 8, nth d.histLast 0), (8, 8, nth d.histLast 1), (16, 8, nth d.histLast 2),
      (24, 8, nth d.histLast 3)]
  | 0xCC => packW [(0, 8, nth d.histLast 4), (8, 8, nth d.histLast 5), (16, 8, nth d.histLast 6),
      (24, 8, nth d.histLast 7)]
  | 0xD0 => l.ctl
  | 0xD4 => packW [(0, 4, l.maxDepth), (4, 4, l.curMax), (16, 16, l.seq)]
  | 0xD8 => loWord l.tick
  | 0xDC => hiWord l.tick
  | 0xE0 => loWord l.lc
  | 0xE4 => hiWord l.lc
  | 0xE8 => loWord l.s
  | 0xEC => hiWord l.s
  | 0xF0 => l.w
  | 0xF4 => packW [(0, 10, twos 10 x.thermal.t0), (16, 10, twos 10 x.thermal.t1)]
  | 0xF8 => packW [(0, 12, twos 12 x.thermal.slope)]
  | _ =>
    if 0x40 ≤ off ∧ off < 0x80 ∧ off % 4 = 0 then tget 0 x.regs.ceilTbl ((off - 0x40) / 4)
    else if 0x90 ≤ off ∧ off < 0xA0 ∧ off % 4 = 0 then
      detWord r ((off - 0x90) / 4) (fun i => tget 0 d.trims i)
    else if 0xA0 ≤ off ∧ off < 0xB0 ∧ off % 4 = 0 then detWord r ((off - 0xA0) / 4) d.shown
    else 0

/-- All words of the page, as R123 holds them. -/
def State.pageWords (s : State) (r : Nat) : List Word :=
  (List.range 64).map (fun i => s.regionNow r (4 * i))

/-- What a read of a page offset returns: held values while the die tick is lost, but for STATE,
SHUTTER, ARMED and REF_LOST (R123). DEDUCED, log entry 22. -/
def State.regionRead (s : State) (r off : Nat) : Word :=
  match (s.region r).regs.heldPage with
  | some l =>
    let w := l.getD (off / 4) 0
    if off = 0 then (w &&& 0xFFFFFF90) ||| ((s.region r).stateWord r s.now &&& 0x6F) else w
  | none => s.regionNow r off

end Sys2Proof.Machine
end

