-- ==== Sys2Proof/Machine/Racg.lean ====
section
/-! DEFINITION. Regional adaptive clock generators (chapter 03): commands, acquisition and lock, loss of
lock and bypass, doors and ramps, shutter, spare DCO, phase stepping, loss of the die tick; with the
parts of chapter 04 that end with them (episodes, calibration validity, probe windows). -/

namespace Sys2Proof.Machine

open Sys2Proof

/-! ## Episodes, validity and probes as the generator ends them -/

/-- End causes of an episode (R252). -/
def endEased : Nat := 0
def endBypass : Nat := 1
def endContinued : Nat := 2
def endStopped : Nat := 3

/-- The coach of a piece of an episode that began at `start` (R154, R252). -/
def State.episodeCoach (s : State) (r : Nat) (start : DWord) (length maxS totS dets lowest cause : Nat) : State :=
  s.formAt start 0x40 r
    [packD [(0, 32, length), (32, 32, totS)],
     packD [(0, 16, dets), (16, 6, lowest), (22, 4, maxS), (26, 2, cause)]]

/-- The coaches of an episode's complete pieces. -/
def State.pieceCoaches (s : State) (r : Nat) (start : DWord) (l : List (Nat × Nat × Nat × Nat)) : State :=
  l.foldl (fun s p => s.episodeCoach r start 65536 p.1 p.2.1 p.2.2.1 p.2.2.2 endContinued) s

/-- Count one in bin `k` (1 to 8), stopping at 255 (R155). -/
def binUp (bins : List Nat) (k : Nat) : List Nat :=
  if k = 0 then bins else modNth bins (k - 1) (satAdd 255 · 1)

/-- An episode counted for the region's histogram coach, with its largest s and its total (R273, R275). -/
def CoalHist.add (h : CoalHist) (e : Episode) : CoalHist :=
  { h with bins := binUp h.bins e.peak, count := satAdd 0xFFFF h.count 1, maxS := max h.maxS e.peak,
           totS := h.totS + e.sum }

/-- The first TICK of the span that TICK lies in (R155). -/
def spanStart (t : DWord) : DWord := t &&& ~~~(0x3FF : DWord)

/-- The episode in progress ends (R153 to R155, R273): its pieces that no coach has told are told first. -/
def State.endEpisode (s : State) (r cause : Nat) : State :=
  match (s.region r).droop.episode with
  | none => s
  | some e =>
    let s := s.updRegion r (fun x => { x with droop := { x.droop with
      episode := none, bins := binUp x.droop.bins e.peak } })
    if s.coalescing then
      s.updRegion r (fun x => { x with droop := { x.droop with
        coalHist := some ((x.droop.coalHist.getD
          { bins := [0, 0, 0, 0, 0, 0, 0, 0], count := 0, maxS := 0, totS := 0,
            part := decide ((spanStart s.tick).toNat < s.pool.coalAt.toNat) }).add e) } })
    else (s.pieceCoaches r e.start e.pieces).episodeCoach r e.start e.length e.maxS e.totS e.dets e.lowest cause

/-- The stretch engine comes to rest: the output leaves the DCO, or the region stops. -/
def State.stopStretch (s : State) (r cause : Nat) : State :=
  (s.endEpisode r cause).updRegion r (fun x =>
    let x := x.phaseTo s.now s.tick
    { x with droop := { x.droop with k1 := 0, k2 := 0, sNow := 0 } })

/-- Calibration validity falls (R148). -/
def Region.voidCal (x : Region) : Region := { x with cal := { x.cal with valid := false } }
def Region.voidBit (x : Region) : Word := if x.cal.valid then evCalVoid else 0

/-- A LIVE window ends at once when the state leaves LOCKED or the shutter closes (R144). -/
def Region.liveCut (x : Region) : Option ProbeRun :=
  match x.cal.probeRun with
  | some p => if p.live && !(x.racg.state == .locked && x.racg.shutter) then some p else none
  | none => none

/-- The end of every operation on a region: a LIVE window that may not go on ends, and the event bits
are raised. DEDUCED, log entry 16. -/
def State.regionDone (s : State) (r : Nat) (racg det : Word) : State :=
  match (s.region r).liveCut with
  | some p =>
    (s.updRegion r (fun x =>
      let x := x.phaseTo s.now s.tick
      { x with cal := { x.cal with
        probeRun := none, prValid := false, prAdv := p.adv,
        prSkipped := sat 0xFFFF (x.cal.clk.skipped - p.skipped) } })).raiseRegion r racg (det ||| evProbeDone)
  | none => s.raiseRegion r racg det

/-! ## Fence requests (R316, R317) -/

/-- Slot `k` of a cluster is mapped to a logical ID (R319). -/
def State.slotMapped (s : State) (c k : Nat) : Bool :=
  (List.range 9).any (fun j => (s.lmapAt (9 * c + j)).slot == some k)

/-- The region of a FENCE in progress. -/
def FencePhase.target : FencePhase → Option Nat
  | .fencing r _ _ _ _ => some r
  | _ => none

/-- The lowest-numbered spare of a cluster: a slot neither mapped nor fenced, nor the target of a FENCE in
progress (R319). -/
def State.clusterSpare (s : State) (c : Nat) : Option Nat :=
  (List.range 10).find? (fun k => !s.slotMapped c k && !(s.hzr (10 * c + k)).fenced
    && s.hz.fence.target != some (10 * c + k))

/-- FENCE_REQ of a region becomes 1 (R316), with the NO_SPARE cause where R317 names it. -/
def State.requestFence (s : State) (r : Nat) (byRef : Bool) : State :=
  let s := s.updHzr r (fun h => { h with fenceReq := true, byRef := h.byRef || byRef })
  let s := s.raiseHz 2 r 0 0 0
  if 160 ≤ r ∨ s.clusterSpare (r / 10) = none then s.raiseCause 1 r else s

/-! ## The loop -/

/-- DCW takes a value within the ceiling (R91). -/
def Region.putDcw (x : Region) (now v : Nat) : Region :=
  ({ x with racg := { x.racg with dcw := min v x.ceil } } : Region).noteMargin now

/-- The ceiling in force has fallen below DCW: DCW equals it from this die tick (R92). -/
def Region.reclamp (x : Region) (now : Nat) : Region :=
  if x.racg.state.dcoRuns ∧ x.ceil < x.racg.dcw then x.putDcw now x.ceil else x.noteMargin now

/-- ACQ_BACKOFF. -/
def Region.backoff (x : Region) : Nat := fld x.regs.acqCfg 0 12

/-- A ramp is cut: no walk starts at its end (R121). -/
def State.cutRamp (s : State) (r : Nat) : State :=
  s.updRegion r (fun x => { x with phase := { x.phase with due := false } })

/-- An acquisition starts at a gear (R97): CAL_VOID by R148. GEAR takes the gear at once, at the acceptance of the
command and not at its lock: DEDUCED, log entry 21. -/
def State.startAcq (s : State) (r gear : Nat) : State :=
  let n := s.gearN gear
  let s := (s.cutRamp r).updRacg r (fun g => { g with
    state := .acquire, gear := gear, ceilGear := gear, ceilWas := 0, ratio := 32 * n, ratioTo := 32 * n,
    moving := false, acqAt := s.now, dcw := 0 })
  s.updRegion r (fun x =>
    let x := { x.voidCal with
      racg := { x.racg with acqCeil := [(s.now, x.ceil)] },
      regs := { x.regs with acqCount := satAdd 0xFFFF x.regs.acqCount 1 } }
    x.putDcw s.now (x.ceil - x.backoff))

/-- The region's output is, or is moving to, the serving DCO. -/
def Racg.onDco (g : Racg) : Bool :=
  g.state.stretches || (match g.outSwitch with
    | some o => o.toDco
    | none => false)

/-- The output starts to move from the DCO to the die tick: the DCO's last periods count (R103, R149). -/
def State.leaveDco (s : State) (r : Nat) : State :=
  s.updRegion r (fun x => { x with ledger := if x.racg.shutter then x.ledger.lastPeriod s.now else x.ledger })

/-- Entry to BYPASS (R94, R96, R103): a switch from the DCO completes 2 tk later, or one under way does, and
BYPASS_ENTER comes then; where the output is on the die tick it comes at once, with its snapshot at the next
edge (R151). An episode ends, and all stretching, as the switch starts (R125, R153). Answers the bits.
DEDUCED, log entry 21. -/
def State.enterBypass (s : State) (r : Nat) : State × Word :=
  let g := (s.region r).racg
  let s := (s.stopStretch r endBypass).cutRamp r
  let into (g : Racg) : Racg := { g with state := .bypass, moving := false, ceilGear := g.gear, ceilWas := 0 }
  if g.onDco then
    ((s.leaveDco r).updRacg r (fun g => { into g with
      outSwitch := some { toDco := false, due := s.now + 2, enter := true } }), 0)
  else
    match g.outSwitch with
    | some o => (s.updRacg r (fun g => { into g with outSwitch := some { o with enter := true } }), 0)
    | none => ((s.updRacg r into).snapshotNext r causeToTick, evBypassEnter)

/-- The region's output moves to the serving DCO, 2 tk from now. -/
def Racg.toDcoAt (g : Racg) (now : Nat) : Racg :=
  { g with outSwitch := some { toDco := true, due := now + 2 } }

/-- READY ends with the output on the DCO: LOCKED, or RAMP while the ratio still moves (R94). -/
def Racg.leaveReady (g : Racg) : Racg :=
  { g with state := if g.moving then .ramp else .locked }

/-! ## Doors (R107, R121, R148, R151, R195) -/

/-- |ΔN| of two gears. -/
def State.gearStep (s : State) (g h : Nat) : Nat :=
  max (s.gearN g) (s.gearN h) - min (s.gearN g) (s.gearN h)

/-- The link regions whose RESYNC_EN is 1 (R73, R196). -/
def State.resyncSet (s : State) : RegionSet :=
  ((List.range 16).filter (fun i => bit (s.region (188 + i)).regs.phaseCtl 9)).foldl
    (fun a i => a ||| setOne (188 + i)) 0

/-- The door of slot `k` is there: an ARMED slot enters OPEN (R195). -/
def State.openSlot (s : State) (k : Nat) : State :=
  let d := s.slot k
  if d.state = .armed ∧ d.door.toNat ≤ s.tk then s.setSlot k { d with state := .opened } else s

/-- Region `r` took the door of slot `k`; a flagged door taken by every resync-enabled link region
clears RESYNC_PENDING (R196). -/
def State.noteTaken (s : State) (k r : Nat) : State :=
  let s := s.updSlot k (fun d => { d with taken := d.taken ||| setOne r })
  let d := s.slot k
  if d.flagged = true ∧ s.resyncSet &&& ~~~(d.set &&& d.taken) = 0 then
    { s with ref := { s.ref with resync := false } }
  else s

/-- The generator takes its target at a door (R90, R107); a ceiling that falls applies from the next die tick
(R92). -/
def State.takeGear (s : State) (r : Nat) : State :=
  let x := s.region r
  let nOld := s.gearN x.racg.gear
  let nNew := s.gearN x.racg.armGear
  (s.updRacg r (fun g =>
    match g.state with
    | .bypass => { g with gear := g.armGear, ceilGear := g.armGear }
    | _ =>
      if nNew = nOld then { g with gear := g.armGear, ceilGear := g.armGear, ceilWas := x.ceil }
      else { g with
        gear := g.armGear, ceilGear := if nNew < nOld then g.gear else g.armGear,
        ceilWas := if nNew < nOld then g.ceilWas else x.ceil,
        ratioTo := 32 * nNew, moving := true, rampDoor := g.armDoor, rampSteps := 0,
        state := if g.state = .locked then .ramp else g.state })).soon r

/-- A resync door starts a walk in the next die tick, or makes one due at the end of its ramp (R121). -/
def Region.resyncDoor (x : Region) (now : Nat) : Region :=
  if x.racg.moving then { x with phase := { x.phase with due := true } }
  else { x with phase := { x.phase with walk := some (x.phase.walk.getD { since := now + 1 }) } }

/-- The door is taken (R107). -/
def State.takeDoor (s : State) (r : Nat) : State :=
  let x := s.region r
  let g := x.racg
  let s := s.updRacg r (fun g => { g with armed := false, doorAt := some s.now })
  let s := s.openSlot g.armSlot
  match g.state with
  | .off | .acquire | .hold => s
  | .ready | .locked | .ramp | .bypass =>
    let s := s.takeGear r
    let change := g.gear ≠ g.armGear
    let s := if change then s.updRegion r Region.voidCal else s
    let s := if g.armFlag && bit x.regs.phaseCtl 9 && phaseSupported r then
        s.updRegion r (·.resyncDoor s.now) else s
    let s := (s.snapshot r causeDoor).noteTaken g.armSlot r
    s.regionDone r evDoorTaken (if change then x.voidBit else 0)

/-- The armed door has come. -/
def State.doorDue (s : State) (r : Nat) : Bool :=
  let g := (s.region r).racg
  g.armed && !g.refLost && decide (g.armDoor.toNat ≤ s.tk)

/-! ## Lock (R94, R97, R98, R100, R116) -/

/-- Lock is declared. -/
def State.declareLock (s : State) (r dcw : Nat) : State :=
  let x := s.region r
  let closed := !x.racg.shutter
  let ph := Config.phaseAtLock s.freeIdx % 64
  let swapDone := closed && x.racg.swapping
  let s := s.fresh
  let s := s.updRegion r (fun x => { x with margin := { x.margin with min := 0x3FFF } })
  let s := s.updRacg r (fun g =>
    let g := { g with
      state := if closed then .locked else .ready, dcw := min dcw x.ceil, lockAt := s.now,
      swapping := g.swapping && !closed }
    if closed then g.toDcoAt s.now else g)
  let s := s.updRegion r (fun x => { x with phase := { x.phase with
    pos := ph,
    walk := if bit x.regs.phaseCtl 8 then some (x.phase.walk.getD { since := s.now }) else x.phase.walk } })
  s.regionDone r (evLock ||| (if swapDone then evSwapDone else 0)) 0

/-- The ceiling in force in a die tick of the acquisition. -/
def Racg.acqCeilAt (g : Racg) (t : Nat) : Nat :=
  match g.acqCeil.find? (fun e => decide (e.1 ≤ t)) with
  | some e => e.2
  | none => 0

/-- CEIL_CLAMP has been 1 throughout the last 1,024 tk before the lock (R98). -/
def Racg.acqClamped (g : Racg) (r : Nat) : Bool :=
  (List.range 1024).all (fun i => decide (g.acqCeilAt (g.acqAt + 3072 + i) ≤ Config.acqDcw r (g.acqAt + 3072 + i)))

/-- The acquisition has run its 4,096 tk (R97). -/
def Racg.lockDue (g : Racg) (now : Nat) : Bool := g.state == .acquire && decide (g.acqAt + 4096 ≤ now)

/-- The acquisition ends: it fails, or lock is declared at a DCW (R97, R98). -/
def State.endAcq (s : State) (r dcw : Nat) : State :=
  if (s.region r).racg.acqClamped r then
    let (s, b) := s.enterBypass r
    s.regionDone r (evAcqFail ||| b) 0
  else s.declareLock r dcw

/-! ## Commands (R96) -/

/-- A refused command. -/
def State.racgRefuse (s : State) (r : Nat) (cal : Bool) : State :=
  s.regionDone r (evRacgRefused ||| (if cal then evCalRefused else 0)) 0

/-- START: it waits for the steps before it in the readiness order, the die tick, the spine and the sequencer
(R31). DEDUCED, log entry 20. -/
def State.cmdStart (s : State) (r gear : Nat) : State :=
  let x := s.region r
  if s.ref.tickValid = true ∧ s.seq.ready = true ∧ x.racg.state = .off ∧ s.gearValid gear = true
      ∧ x.ceilField x.racg.dcoSel gear ≠ 0 then
    (s.startAcq r gear).regionDone r 0 x.voidBit
  else s.racgRefuse r false

/-- STOP. A switch whose BYPASS_ENTER is still to come completes (R103), and a SWAP is done at a later lock (R116). -/
def State.cmdStop (s : State) (r : Nat) : State :=
  let g := (s.region r).racg
  if g.state ≠ .off ∧ g.shutter = false ∧ g.armed = false then
    let s := (s.stopStretch r endStopped).cutRamp r
    let s := s.updRacg r (fun g => { g with
      state := .off, moving := false, ceilGear := g.gear, ceilWas := 0, shutterTo := none,
      outSwitch := g.outSwitch.filter (·.enter) })
    (s.updHzr r (fun h => if h.fenced then h else { h with h := 0, next := none })).regionDone r 0 0
  else s.racgRefuse r false

def State.cmdAcquire (s : State) (r gear : Nat) : State :=
  let x := s.region r
  if x.racg.state = .bypass ∧ x.racg.armed = false ∧ s.gearValid gear = true
      ∧ x.ceilField x.racg.dcoSel gear ≠ 0 then
    (s.startAcq r gear).regionDone r 0 x.voidBit
  else s.racgRefuse r false

/-- SWAP (R96, R115, R116). -/
def State.cmdSwap (s : State) (r : Nat) : State :=
  let x := s.region r
  let g := x.racg
  if (g.state = .ready ∨ g.state = .locked ∨ g.state = .bypass) ∧ g.armed = false
      ∧ x.ceilField (!g.dcoSel) g.gear ≠ 0 then
    let s := s.stopStretch r endBypass
    let s := if g.onDco then s.leaveDco r else s
    let s := s.updRegion r (fun x => { x with regs := { x.regs with
      measRun := none, measValid := x.regs.measValid && x.regs.measRun.isNone } })
    let s := s.updRacg r (fun h => { h with
      dcoSel := !h.dcoSel, swapping := true,
      outSwitch := if g.onDco then some { toDco := false, due := s.now + 2 } else h.outSwitch })
    (s.startAcq r g.gear).regionDone r 0 x.voidBit
  else s.racgRefuse r false

def State.cmdReturn (s : State) (r : Nat) : State :=
  let x := s.region r
  if x.racg.state = .ready then
    if x.cal.valid then (s.updRacg r (·.toDcoAt s.now)).regionDone r 0 0
    else s.racgRefuse r true
  else s.racgRefuse r false

def State.cmdToBypass (s : State) (r : Nat) : State :=
  let st := (s.region r).racg.state
  if st = .acquire ∨ st = .ready ∨ st = .locked ∨ st = .ramp then
    let (s, b) := s.enterBypass r
    s.regionDone r b 0
  else s.racgRefuse r false

def State.cmdOpen (s : State) (r : Nat) : State :=
  let x := s.region r
  if x.racg.state ≠ .off ∧ x.racg.shutter = false then
    if x.cal.valid then s.updRacg r (fun g => { g with shutterTo := some true })
    else s.racgRefuse r true
  else s.racgRefuse r false

/-- The clock offered to the shutter stands (R122). -/
def Racg.stopped (g : Racg) : Bool := g.refLost && !g.state.stretches && !g.toTick

/-- The shutter is closed: the period in progress has completed (R94, R111, R151, R166). -/
def State.shutNow (s : State) (r : Nat) : State :=
  let s := s.updRegion r (fun x => { x with ledger := x.ledger.finishPeriod s.now })
  let s := s.updRacg r (fun g =>
    let g := { g with shutter := false, shutterTo := none }
    if g.state = .ready then g.leaveReady.toDcoAt s.now else g)
  ((s.snapshotNext r causeClose).closeWindows r).regionDone r 0 0

/-- CLOSE; behind a clock that stands there is no period to complete (R333). -/
def State.cmdClose (s : State) (r : Nat) : State :=
  let g := (s.region r).racg
  if g.shutter then
    if g.stopped then s.shutNow r else s.updRacg r (fun g => { g with shutterTo := some false })
  else s.racgRefuse r false

/-- Hardware events of the die tick come before a command written in it (R125): a due door, and a due lock but for
CLOSE, before which the shutter closes. The DCW of such a lock is free. DEDUCED, log entry 21. -/
def State.hwFirst (s : State) (r code : Nat) : State :=
  let s := if s.doorDue r then s.takeDoor r else s
  if code ≠ 8 ∧ (s.region r).racg.lockDue s.now = true then
    s.fresh.endAcq r (Config.lockDcw s.freeIdx % 16384)
  else s

/-- A write of RACG_CMD: while the die tick is lost only STOP and CLOSE are carried out (R123).
DEDUCED, log entry 22. -/
def State.racgCommand (s : State) (r code gear : Nat) : State :=
  if (s.region r).racg.refLost = true ∧ code ≠ 2 ∧ code ≠ 8 then s
  else
    let s := if code = 0 then s else s.hwFirst r code
    match code with
    | 0 => s
    | 1 => s.cmdStart r gear
    | 2 => s.cmdStop r
    | 3 => s.cmdAcquire r gear
    | 4 => s.cmdSwap r
    | 5 => s.cmdReturn r
    | 6 => s.cmdToBypass r
    | 7 => s.cmdOpen r
    | 8 => s.cmdClose r
    | _ => s.racgRefuse r false

/-- A write of RACG_CMD by a path; the host's SWAP is without effect while the sequencer is halted (R30). -/
def racgWrite (s : State) (p : Path) (r code gear : Nat) : Res :=
  act s (isRegion r) (fun s => s.gate p (regionPage r + 0x04) (fun s =>
    if code = 4 ∧ s.frozen p = true then s else s.racgCommand r code (gear % 16)))

/-- RACG_START (R96, R97). -/
def execRacgStart (p : Path) (r gear : Nat) (s : State) : Res := racgWrite s p r 1 gear

/-- RACG_STOP (R96). -/
def execRacgStop (p : Path) (r : Nat) (s : State) : Res := racgWrite s p r 2 0

/-- RACG_ACQUIRE (R96, R97). -/
def execRacgAcquire (p : Path) (r gear : Nat) (s : State) : Res := racgWrite s p r 3 gear

/-- RACG_SWAP (R96, R115, R116). DEDUCED, log entry 21. -/
def execRacgSwap (p : Path) (r : Nat) (s : State) : Res := racgWrite s p r 4 0

/-- RACG_RETURN (R96). -/
def execRacgReturn (p : Path) (r : Nat) (s : State) : Res := racgWrite s p r 5 0

/-- TO_BYPASS (R96, R103). -/
def execToBypass (p : Path) (r : Nat) (s : State) : Res := racgWrite s p r 6 0

/-- RACG_OPEN (R32, R96). -/
def execRacgOpen (p : Path) (r : Nat) (s : State) : Res := racgWrite s p r 7 0

/-- RACG_CLOSE (R96). -/
def execRacgClose (p : Path) (r : Nat) (s : State) : Res := racgWrite s p r 8 0

/-- RACG_RESERVED_CMD (R96): codes 9 to 15. -/
def execRacgReservedCmd (p : Path) (r code : Nat) (s : State) : Res :=
  if 9 ≤ code ∧ code ≤ 15 then racgWrite s p r code 0 else .next s

/-! ## Lock, loss of lock, output switches -/

/-- LOCK (R97, R98), with the DCW the loop has come to. DESIGN CHOICE, log entry 8. -/
def execLock (r dcw : Nat) (s : State) : Res :=
  actAt "region" 208 r s ((s.region r).racg.lockDue s.now) (fun s => s.endAcq r dcw)

/-- The clock that reaches the ledger is a new one: LC keeps its value, and the part of a period it has
completed is free (R100). -/
def State.rephase (s : State) (r : Nat) : State :=
  let ph := Config.edgePhase s.freeIdx % 256
  s.fresh.updRegion r (fun x => { x with ledger := { x.ledger with
    acc := x.ledger.taken + 256 * x.ledger.lcAt s.now + ph, since := s.now } })

/-- LOOP_CFG as the die tick began (R126). -/
def Region.loopNow (x : Region) : Word := x.asOf 0x18 x.regs.loopCfg

/-- A condition of R101 holds, by what the monitor has seen since lock was declared: the phase error beyond
LOL_PHASE for LOL_COUNT tk, the cycles of an 8-tk span against RATIO / 32, or no edge. -/
def Region.loses (x : Region) (now : Nat) : LolCause → Bool
  | .phase err tk =>
    decide (max 1 (fld x.loopNow 0 6) < err) && decide (max 1 (fld x.loopNow 8 5) ≤ tk)
      && decide (x.racg.lockAt + tk ≤ now + 1)
  | .cycles n => decide (32 < ((32 * n : Int) - x.racg.ratio).natAbs) && decide (x.racg.lockAt + 8 ≤ now)
  | .noEdge => decide (x.racg.lockAt < now)

/-- REF_LOST is due: two expected die-tick edges have not come (R122). -/
def State.tickLost (s : State) (r : Nat) : Bool :=
  bit s.ref.segFailed (r / 8) && decide (tget 0 s.ref.deadAt (r / 8) + 1 ≤ s.now)

/-- LOSS_OF_LOCK (R101, R103, R125). -/
def execLossOfLock (r : Nat) (c : LolCause) (s : State) : Res :=
  let x := s.region r
  let g := x.racg
  actAt "region" 208 r s
    ((g.state == .ready || g.state == .locked || g.state == .ramp) && !g.refLost && !s.tickLost r
      && x.loses s.now c) (fun s =>
    let s := s.updRegion r (fun x => { x with regs := { x.regs with
      lolCount := satAdd 0xFFFF x.regs.lolCount 1 } })
    let (s, b) := s.enterBypass r
    s.regionDone r (evLol ||| b) 0)

/-- OUTPUT_SWITCH_COMPLETE (R94, R96, R103, R116, R151). DEDUCED, log entry 21. -/
def execOutputSwitchComplete (r : Nat) (s : State) : Res :=
  actAt "region" 208 r s (match (s.region r).racg.outSwitch with
      | some o => decide (o.due ≤ s.now)
      | none => false) (fun s =>
    match (s.region r).racg.outSwitch with
    | none => s
    | some o =>
      let g := (s.region r).racg
      let s := (s.rephase r).updRacg r (fun g => { g with outSwitch := none })
      if o.toDco then
        let s := s.updRacg r (fun g =>
          { (if g.state = .ready then g.leaveReady else g) with swapping := false })
        (s.snapshotNext r causeFromTick).regionDone r (if g.swapping then evSwapDone else 0) 0
      else (s.snapshotNext r causeToTick).regionDone r (if o.enter then evBypassEnter else 0) 0)

/-- CEIL_LIMITED (R93): DCW has equalled the ceiling in LOCKED or RAMP for CEIL_HOLD × 8 tk. DEDUCED, log entry 24. -/
def execCeilLimited (r : Nat) (s : State) : Res :=
  let x := s.region r
  actAt "region" 208 r s (x.racg.running && !x.margin.told && (match x.margin.since with
      | some t => decide (t + 8 * max 1 (fld x.loopNow 16 8) ≤ s.now)
      | none => false)) (fun s =>
    (s.updRegion r (fun x => { x with margin := { x.margin with told := true } })).regionDone r evCeilLimited 0)

/-- A CEIL_TBL entry is written (R92): what it lowers applies from the next die tick. -/
def State.writeCeil (s : State) (r g : Nat) (v : Word) : State :=
  (s.updRegion r (fun x =>
    let x := x.keep (0x40 + 4 * g) (tget 0 x.regs.ceilTbl g)
    { x with regs := { x.regs with ceilTbl := tput x.regs.ceilTbl g (v &&& 0x3FFF3FFF) } })).soon r

/-- CEIL_TBL_WRITE (R92). -/
def execCeilTblWrite (p : Path) (r g : Nat) (v : Word) (s : State) : Res :=
  if g < 16 then
    regionWriteRw s p r (0x40 + 4 * g) (tget 0 (s.region r).regs.ceilTbl g) (fun s => s.writeCeil r g v)
  else .next s

/-! ## Doors and ramps (R106 to R109) -/

/-- An arming is acknowledged (R106). -/
def State.armable (s : State) (r target : Nat) : Bool :=
  let x := s.region r
  (x.racg.state == .ready || x.racg.state == .locked || x.racg.state == .bypass)
    && !x.racg.armed && decide (x.ceilField x.racg.dcoSel target ≠ 0)

/-- ARM_MESSAGE (R106, R191): a message on the spine reaches region `r`; no tap hears it while its die
tick is lost. DEDUCED, log entry 30. -/
def execArmMessage (slot r : Nat) (s : State) : Res :=
  if slot < 4 then
    actAt "region" 208 r s ((s.slot slot).armOut.getLsbD r
        && decide ((s.slot slot).goAt + 2 ≤ s.now)) (fun s =>
      let d := s.slot slot
      let x := s.region r
      let s := s.updSlot slot (fun d => { d with armOut := d.armOut &&& ~~~setOne r })
      if x.racg.refLost then s
      else if s.armable r d.target then
        let s := s.updRacg r (fun g => { g with
          armed := true, armGear := d.target, armDoor := d.door, armSlot := slot, armFlag := d.flagged })
        s.updSlot slot (fun e => { e with
          ackOut := e.ackOut ||| setOne r, ackAt := tput e.ackAt r s.now,
          bypassed := if x.racg.state = .bypass then e.bypassed ||| setOne r else e.bypassed,
          maxN := max e.maxN (s.gearStep x.racg.gear d.target) })
      else s.regionDone r evArmRefused 0)
  else .fault (.noSuchPart "door slot" slot)

/-- DOOR_TAKEN (R107, R121, R148, R151, R195). -/
def execDoorTaken (r : Nat) (s : State) : Res :=
  actAt "region" 208 r s (s.doorDue r) (fun s => s.takeDoor r)

/-- RAMP_STEP (R90, R108, R109): the loop's code after the step is the world's. DEDUCED, log entry 21. -/
def execRampStep (r dcw : Nat) (s : State) : Res :=
  let g := (s.region r).racg
  actAt "region" 208 r s
    (g.moving && (g.state == .ramp || g.state == .ready)
      && decide (g.rampDoor.toNat + 8 * (g.rampSteps + 1) ≤ s.tk)) (fun s =>
    let c := (s.region r).ceil
    let s := s.updRacg r (fun g => { g with
      ratio := if g.ratio < g.ratioTo then g.ratio + 1 else g.ratio - 1,
      rampSteps := g.rampSteps + 1, dcw := min dcw c })
    let g := (s.region r).racg
    if g.ratio = g.ratioTo then
      let s := (s.updRacg r (fun g => { g with
        moving := false, ceilGear := g.gear, ceilWas := c,
        state := if g.state = .ramp then .locked else g.state })).soon r
      let s := s.updRegion r (fun x => { x with phase := { x.phase with
        walk := if x.phase.due then some (x.phase.walk.getD { since := s.now + 1 }) else x.phase.walk,
        due := false } })
      (s.snapshot r causeRampEnd).regionDone r evRampDone 0
    else s)

/-! ## Characterisation of the idle DCO (R114, R115) -/

/-- A write of DCO_MEAS_CTL. -/
def State.writeMeasCtl (s : State) (r code : Nat) (start : Bool) : State :=
  s.updRegion r (fun x =>
    let x := { x with regs := { x.regs with measCode := code % 16384 } }
    if start = true ∧ x.regs.measRun = none then
      { x with regs := { x.regs with measRun := some (code % 16384, s.now), measValid := false } }
    else x)

/-- DCO_MEAS_START (R114, R115). -/
def execDcoMeasStart (p : Path) (r code : Nat) (s : State) : Res :=
  regionWrite s p r 0x28 (fun s => s.writeMeasCtl r code true)

/-- MEAS_DONE (R114). -/
def execMeasDone (r count : Nat) (s : State) : Res :=
  actAt "region" 208 r s (match (s.region r).regs.measRun with
      | some (_, t) => decide (t + 4096 ≤ s.now)
      | none => false) (fun s =>
    (s.updRegion r (fun x => { x with regs := { x.regs with
      measRun := none, measCount := count % 2 ^ 20, measValid := true } })).regionDone r evMeasDone 0)

/-! ## Phase stepping (R117 to R121) -/

/-- A write of PHASE_CTL starts a walk; one in progress goes on towards the new target (R120, R125). -/
def State.writePhaseCtl (s : State) (r : Nat) (v : Word) : State :=
  if phaseSupported r then
    s.updRegion r (fun x =>
      let x := x.phaseTo s.now s.tick
      { x with
        regs := { x.regs with phaseCtl := v &&& 0x33F },
        phase := { x.phase with walk := some (x.phase.walk.getD { since := s.now }) } })
  else s

/-- PHASE_CTL_WRITE (R117, R120). -/
def execPhaseCtlWrite (p : Path) (r : Nat) (v : Word) (s : State) : Res :=
  regionWriteRw s p r 0x20 (s.region r).regs.phaseCtl (fun s => s.writePhaseCtl r v)

/-- PHASE_DONE (R119, R120): the walk has made its last step. DEDUCED, log entry 30. -/
def execPhaseDone (r : Nat) (s : State) : Res :=
  let x := (s.region r).phaseTo s.now s.tick
  actAt "region" 208 r s
    (x.walking s.now && x.racg.state.measValid && decide (x.walkLeft = 0)) (fun s =>
    (s.setRegion r { x with phase := { x.phase with walk := none } }).regionDone r evPhaseDone 0)

/-! ## Loss of the die tick (R122 to R124) -/

/-- REF_LOST (R122, R123, R316, R317): two expected edges of the tap's dead segment have not come. The page is held
as it is at the end of this die tick. DEDUCED, log entry 22. -/
def execRefLost (r : Nat) (s : State) : Res :=
  let g := (s.region r).racg
  actAt "region" 208 r s (!g.refLost && s.tickLost r) (fun s =>
    let last := s.tick - BitVec.ofNat 64 (s.now + 1 - tget 0 s.ref.deadAt (r / 8))
    let s := s.updRacg r (fun g => { g with armed := false, refLost := true, lostAt := s.now, lostTick := last })
    let (s, b) := match g.state with
      | .locked | .ramp => ((s.cutRamp r).updRacg r (fun g => { g with state := .hold, moving := false }), 0)
      | .acquire | .ready => s.enterBypass r
      | .off | .bypass | .hold => (s, 0)
    let s := s.regionDone r (evRefLost ||| b) 0
    let s := { s with log := { s.log with lost := r :: s.log.lost } }
    let s := s.updHzr r (fun h => { h with refLost := true })
    let s := if isCore r ∧ (s.hzr r).fenced = false ∧ (s.hzr r).fenceReq = false then
        s.requestFence r true
      else s.updHzr r (fun h => { h with byRef := h.byRef || (h.fenceReq && isCore r) })
    (s.raiseCause 3 r))

/-- HOLD_EXIT (R94, R123): die-tick edges are back at the tap; HOLD ends when they have come for 64 tk. Reads show
present values again from the next die tick. DEDUCED, log entry 22. -/
def execHoldExit (r : Nat) (s : State) : Res :=
  let g := (s.region r).racg
  actAt "region" 208 r s
    (g.refLost && decide (g.lostAt + (if g.state = .hold then 64 else 1) ≤ s.now)) (fun s =>
    let (s, b) := if g.state = .hold then s.enterBypass r else (s, 0)
    let s := (s.updRacg r (fun g => { g with refLost := false })).soon r
    s.regionDone r b 0)

/-! ## The shutter (R111, R112, R151, R166) -/

/-- SHUTTER_CLOSED (R94, R111, R151, R166). -/
def execShutterClosed (r : Nat) (s : State) : Res :=
  actAt "region" 208 r s ((s.region r).racg.shutterTo == some false) (fun s => s.shutNow r)

/-- SHUTTER_OPENED (R112, R151). -/
def execShutterOpened (r : Nat) (s : State) : Res :=
  actAt "region" 208 r s ((s.region r).racg.shutterTo == some true) (fun s =>
    let s := (s.rephase r).updRacg r (fun g => { g with shutter := true, shutterTo := none })
    (s.snapshotNext r causeOpen).regionDone r 0 0)

/-- CLR_MARGIN (R126): MIN follows the margin again from the next die tick. -/
def State.clearMargin (s : State) (r : Nat) : State :=
  (s.updRegion r (fun x => { x with margin := { x.margin with min := 0x3FFF } })).soon r

def execClrMargin (p : Path) (r : Nat) (s : State) : Res :=
  regionWrite s p r 0x18 (fun s => s.clearMargin r)

end Sys2Proof.Machine
end

