-- ==== Sys2Proof/Machine/Refs.lean ====
section
/-! DEFINITION. References, root PLLs and the tick spine (chapter 02), and the passing of a die tick. -/

namespace Sys2Proof.Machine

open Sys2Proof

/-! ## Shared operations -/

/-- 1 ms and 400 µs in die ticks; a watch window of 65,536 reference periods (R50, R58, R463). -/
def msTk : Nat := 525000
def acquireTk : Nat := 210000
def watchWindowTk : Nat := 344064

def RefRoot.enabled (x : RefRoot) : Ref → Bool
  | .A => bit x.refCtl 0
  | .B => bit x.refCtl 1

/-- The reference PREFER_B names (R83). -/
def RefRoot.preferred (x : RefRoot) : Ref := if bit x.refCtl 2 then .B else .A

def RefRoot.qualified (x : RefRoot) (f : Ref) : Bool := (x.input f).state == .qualified

def RefRoot.updInput (x : RefRoot) (f : Ref) (g : RefInput → RefInput) : RefRoot :=
  x.setInput f (g (x.input f))
def RefRoot.updPll (x : RefRoot) (y : Root) (g : RootPll → RootPll) : RefRoot :=
  x.setPll y (g (x.pll y))

/-- The active root is locked to a reference, which is then the active reference. -/
def RefRoot.onRef (x : RefRoot) : Bool :=
  x.activeRoot.state == .active || x.activeRoot.state == .slew

/-- The missing-edge monitor watches the active reference: the active root is on it, or is in FAULT or ACQUIRE
and it is still QUALIFIED (R54). DEDUCED, log entry 19. -/
def RefRoot.monitored (x : RefRoot) : Bool :=
  x.onRef || (x.activeRoot.state != .holdover && x.qualified x.activeRef)

/-- The standby root is eligible (R65). -/
def RefRoot.eligible (x : RefRoot) (now : Nat) : Bool :=
  let p := x.standbyRoot
  let i := x.input p.ref
  x.tickValid && p.state == .standby && !p.frozen && i.state == .qualified
    && (match i.passSince with
        | some t => decide (t + msTk ≤ now)
        | none => false)
    && decide (x.residual.natAbs ≤ 5)

/-- The watch channel takes up a reference: its 1 ms and first window begin (R53). DEDUCED, log entry 19. -/
def RefInput.takeUp (i : RefInput) (now : Nat) : RefInput :=
  match i.state with
  | .qualified => { i with winAt := now, passSince := some now }
  | .qualifying => { i with winAt := now, qualAt := now, passSince := none }
  | .absent => i

/-- The reference the watch channel is to test (R53, R54). The rule names an active locked root and holdover; for an
active root in FAULT or ACQUIRE it is the reference that the missing-edge monitor does not watch, and where the
monitor watches none, as in holdover. DEDUCED, log entry 19. -/
def RefRoot.watchTarget (x : RefRoot) : Ref :=
  if x.monitored then otherRef x.activeRef
  else if (x.input x.watchRef).state = .absent ∧ (x.input (otherRef x.watchRef)).state ≠ .absent
  then otherRef x.watchRef else x.watchRef

/-- The watch channel moves where R53 says; the active reference is not tested (R54). -/
def RefRoot.watchFix (x : RefRoot) (now : Nat) : RefRoot :=
  if x.tickValid then
    let x := if x.monitored then x.updInput x.activeRef (fun i => { i with passSince := none }) else x
    if x.watchTarget = x.watchRef then x
    else ({ x with watchRef := x.watchTarget } : RefRoot).updInput x.watchTarget (·.takeUp now)
  else x

/-- The reference the standby root is to lock to (R60). -/
def RefRoot.standbyTarget (x : RefRoot) : Option Ref :=
  if x.qualified (otherRef x.activeRef) then some (otherRef x.activeRef)
  else if x.qualified x.activeRef then some x.activeRef else none

/-- A root starts acquiring a reference. -/
def RootPll.acquire (p : RootPll) (f : Ref) (now : Nat) : RootPll :=
  { p with state := .acquire, ref := f, acqAt := now, frozen := false }

/-- The standby root follows R58 and R60. -/
def RefRoot.standbyFollow (x : RefRoot) (now : Nat) : RefRoot :=
  if x.tickValid then
    x.updPll (otherRoot x.tickSrc) (fun p =>
      match p.state, x.standbyTarget with
      | .standby, none => { p with state := .holdover, frozen := true }
      | .standby, some f => if f = p.ref ∧ p.frozen = false then p else p.acquire f now
      | .holdover, some f => p.acquire f now
      | .acquire, some f => if f = p.ref then p else p.acquire f now
      | .idle, some f => p.acquire f now
      | _, _ => p)
  else x

/-- Holdover ends: HOLDOVER_TIME keeps its length (R83). -/
def RefRoot.endHold (x : RefRoot) (now : Nat) : RefRoot :=
  match x.holdAt with
  | some t => { x with holdAt := none, holdUnits := sat 0xFFFFFFFF ((now - t) / 1024) }
  | none => x

/-- HOLDOVER_TIME (R83). -/
def RefRoot.holdTime (x : RefRoot) (now : Nat) : Nat :=
  match x.holdAt with
  | some t => sat 0xFFFFFFFF ((now - t) / 1024)
  | none => x.holdUnits

/-- The active root enters HOLDOVER (R67). DEDUCED, log entry 19. -/
def RefRoot.enterHold (x : RefRoot) (now : Nat) : RefRoot :=
  let x := x.updPll x.tickSrc (fun p => { p with state := .holdover, frozen := true })
  { x with holdAt := some now, holdovers := satAdd 0xFFFF x.holdovers 1, detPhase := false,
           missRun := 0, refEvts := x.refEvts + 1 }

/-- What follows from the state of the references in each die tick: the waits of R66 (a faulted active
root) and R68, and the mark the hazard monitor takes of HOLDOVER and SLEW (R314). DEDUCED, log entry 19. -/
def State.refSettle (s : State) : State :=
  let x := s.ref
  let el := x.eligible s.now
  let pref := x.preferred
  let x := { x with
    revertSince :=
      if bit x.refCtl 3 ∧ el = true ∧ x.standbyRoot.ref = pref ∧ x.activeRef ≠ pref then
        some (x.revertSince.getD s.now)
      else none,
    switchDue :=
      if (x.activeRoot.state = .fault ∨ x.activeRoot.state = .acquire) ∧ el = true ∧ x.switchDue = none then
        some (s.now + 2)
      else x.switchDue }
  { s with
    ref := x,
    hz := { s.hz with rootBad := s.hz.rootBad ||
      (x.tickValid && (x.activeRoot.state == .holdover || x.activeRoot.state == .slew)) } }

/-- A switchover ordered in this die tick is not made where the standby is not eligible once all that happens in
the tick is counted: an active root that has lost its reference enters HOLDOVER, a FORCE_SWITCH is refused
(R67, R69, R76). -/
def RefRoot.unorder (x : RefRoot) (now : Nat) : RefRoot × Word :=
  if x.switchDue = some (now + 2) ∧ x.eligible now = false then
    let b := if x.forcedAt = some now then evSwRefused else 0
    let x := { x with switchDue := none, forcedAt := none }
    if x.onRef && (x.input x.activeRef).state == .absent then
      ((x.enterHold now).watchFix now, b ||| evHoldEnter)
    else (x, b)
  else (x, 0)

/-- A change of the references is followed by the watch channel, the waits, and the events it raised; the standby
root follows in the next die tick. -/
def State.refDone (s : State) (x : RefRoot) (bits : Word) : State :=
  let (x, b) := (x.watchFix s.now).unorder s.now
  ((({ s with ref := x } : State).refSettle).raiseRef (bits ||| b))

/-- A request is refused: SW_REFUSED and nothing else (R69, R466). -/
def State.refRefuse (s : State) : State := (s.raiseRef evSwRefused)

/-- Loss of the active reference `f` (R56, R66, R67): it goes to ABSENT; an eligible standby is to take
the die tick in two ticks, a root in FAULT or ACQUIRE stays as it is, any other enters HOLDOVER. A FORCE_SWITCH
of the same die tick is refused after all (R76). Answers the new block and the bits beside LOS. -/
def RefRoot.loseActive (x : RefRoot) (f : Ref) (now : Nat) : RefRoot × Word :=
  let y := { x.updInput f (fun i => { i with state := .absent, edges := false, passSince := none }) with
    missRun := 0 }
  let (y, b) := if x.forcedAt = some now then ({ y with forcedAt := none }, evSwRefused) else (y, 0)
  if y.eligible now then ({ y with switchDue := some (x.switchDue.getD (now + 2)) }, b)
  else if x.onRef && x.switchDue.isNone then (y.enterHold now, b ||| evHoldEnter)
  else (y, b)

/-- Loss of a reference that is not active (R50, R56). -/
def RefRoot.loseOther (x : RefRoot) (f : Ref) : RefRoot :=
  x.updInput f (fun i => { i with state := .absent, edges := false, passSince := none })

/-- A failed watch-channel test: the 1 ms restarts, and a QUALIFIED reference is disqualified (R50, R56,
R463). -/
def RefRoot.failTest (x : RefRoot) (f : Ref) (now : Nat) : RefRoot × Word :=
  let was := (x.input f).state
  (x.updInput f (fun i => { i with
      state := .qualifying, qualAt := now, winAt := now, passSince := none }),
    if was = .qualified then disqBit f else 0)

/-- WATCH_RESULT (R83). -/
def watchWord (m : WatchFigures) : Word :=
  packW [(0, 8, sat 255 m.jitRms), (8, 8, sat 255 (m.ppDevPs / 4)), (16, 7, m.duty),
    (24, 8, twos 8 (max (-128) (min 127 m.freqPpm)))]

/-- A period's deviation from 10 ns, in ps, and a duty cycle, in %, are within their limits (R52). -/
def RefRoot.periodOk (x : RefRoot) (devPs : Nat) : Bool := decide (devPs ≤ 4 * fld x.watchLimits 16 8)
def RefRoot.dutyOk (x : RefRoot) (pct : Nat) : Bool :=
  decide (((pct : Int) - 50).natAbs ≤ fld x.watchLimits 24 4)

/-- The tests of a window, by its frequency, its jitter, its largest deviation and its duty cycle (R52). -/
def RefRoot.windowPass (x : RefRoot) (m : WatchFigures) : Bool :=
  decide (m.freqPpm.natAbs ≤ fld x.watchLimits 0 8)
    && decide (m.jitRms ≤ max 3 (fld x.watchLimits 8 8)) && x.periodOk m.ppDevPs && x.dutyOk m.duty

/-- A phase offset wrapped into −20 ns to +20 ns; TICK multiples of 21 are 40 ns apart (R63). -/
def wrapPhase (ps : Int) : Int := if ps.natAbs ≤ 20000 then ps else (ps + 20000) % 40000 - 20000

/-- The slew limit, ppm (R72, R83). -/
def RefRoot.slewPpm (x : RefRoot) : Nat :=
  let v := fld x.slewCtl 0 4
  if v = 0 ∨ 10 < v then 10 else v

/-- RPA acquires the reference that is to become active at a cold start (R461). -/
def RefRoot.coldAcquire (x : RefRoot) (f : Ref) (now : Nat) : RefRoot :=
  { x with rpa := x.rpa.acquire f now, prefWait := none }

/-- The active root takes up a reference after HOLDOVER or a retry (R63, R71, R464). -/
def RefRoot.takeUpRef (x : RefRoot) (f : Ref) (phasePs : Int) : RefRoot × Word :=
  let phase := wrapPhase phasePs
  let x := { x with phaseOfs := phase, missRun := 0, slewRoom := 0 }
  if phase.natAbs ≤ 25 then
    ({ x.updPll x.tickSrc (fun p => { p with state := .active, ref := f, frozen := false }) with
        detPhase := true }, 0)
  else
    ({ x.updPll x.tickSrc (fun p => { p with state := .slew, ref := f, frozen := false }) with
        detPhase := false, resync := true, refEvts := x.refEvts + 1 }, evPhaseJump)

/-- A switchover is to be made in two die-tick edges (R66). DEDUCED, log entry 19. -/
def RefRoot.orderSwitch (x : RefRoot) (now : Nat) : RefRoot := { x with switchDue := some (now + 2) }

/-- The two bits of a reference's state (R83). -/
def RefState.code : RefState → Nat
  | .absent => 0
  | .qualifying => 1
  | .qualified => 2

/-- LOADING is entered: the ROM program starts as T0, the other tasks are STOPPED (R371, R372, R376).
DEDUCED, log entry 42. -/
def State.enterLoading (s : State) : State :=
  { s with seq := { s.seq with
    mode := .loading, wordsAt := s.now, received := 0, words := [], port := 0, verifyAt := none,
    bring := none, begin_ := none, jobs := [], pushes := [],
    tasks := (List.range 4).map (fun t =>
      let k := s.task t
      (t, { k with
        state := if t = 0 then TaskState.ready else .stopped, pc := Config.romEntry, g := [],
        readyAt := s.now + 1, wokeAt := none, stepped := false, stopDue := 0, armd := none, ldk := none })) } }

/-- The sequencer starts at step 4 of the readiness order (R31, R371). DEDUCED, log entry 20. -/
def State.seqStart (s : State) : State :=
  ({ s with seq := { s.seq with startAt := s.now, loads := 1, cold := true } } : State).enterLoading

/-- Which half a segment lies in, and its spare trunk. -/
def segHalf (seg : Nat) : Nat := if seg < 13 then 0 else 1
def RefRoot.spareSeg (x : RefRoot) (half : Nat) : Option Nat :=
  if half = 0 then x.spareSeg0 else x.spareSeg1
def RefRoot.spareFail (x : RefRoot) (half : Nat) : Bool :=
  if half = 0 then x.spareFail0 else x.spareFail1
def RefRoot.setSpareSeg (x : RefRoot) (half : Nat) (v : Option Nat) : RefRoot :=
  if half = 0 then { x with spareSeg0 := v } else { x with spareSeg1 := v }
def RefRoot.setSpareFail (x : RefRoot) (half : Nat) : RefRoot :=
  if half = 0 then { x with spareFail0 := true } else { x with spareFail1 := true }

/-- A segment is dead (R80). -/
def RefRoot.segDead (x : RefRoot) (seg now : Nat) : RefRoot :=
  { x with segFailed := x.segFailed ||| oneBit seg, deadAt := tput x.deadAt seg now }

/-- A message of the control channel on its way to a tap of segment `seg` is cut: discarded, and counted (R79). -/
def State.cutMsg (s : State) (seg : Nat) (m : CtlMsg) : State :=
  let cut (s : State) : State := { s with ref := { s.ref with ctlLost := satAdd 0xFFFF s.ref.ctlLost 1 } }
  match m with
  | .arm k r =>
    if r / 8 = seg ∧ (s.slot k).armOut.getLsbD r = true then
      cut (s.updSlot k (fun d => { d with armOut := d.armOut &&& ~~~setOne r }))
    else s
  | .cancel k r =>
    if r / 8 = seg ∧ (s.slot k).canOut.getLsbD r = true then
      cut (s.updSlot k (fun d => { d with canOut := d.canOut &&& ~~~setOne r }))
    else s
  | .bcast n r =>
    match s.seq.bcasts[n]? with
    | some b =>
      if r / 8 = seg ∧ b.set.getLsbD r = true then
        cut { s with seq := { s.seq with
          bcasts := s.seq.bcasts.set n { b with set := b.set &&& ~~~setOne r } } }
      else s
    | none => s

/-! ## REF_CTL and ROOT_CTL written (R69, R83, R464, R466) -/

/-- An enable bit of REF_CTL takes a value. -/
def State.refEnableTo (s : State) (f : Ref) (en : Bool) : State :=
  let m := oneBit (refNum f)
  let x := { s.ref with
    refCtl := rwBits m s.ref.refCtl (if en then m else 0) }
  let present := (x.input f).state ≠ .absent
  if en = true ∨ ¬present then s.refDone x 0
  else if x.tickValid = true ∧ f = x.activeRef ∧ x.activeRoot.state ≠ .holdover then
    let (y, b) := x.loseActive f s.now
    s.refDone y (losBit f ||| b)
  else
    let x := match x.prefWait with
      | some (g, _) => if g = f then { x with prefWait := none } else x
      | none => x
    s.refDone (x.loseOther f) 0

/-- FORCE_SWITCH (R69, R76). -/
def State.forceSwitchNow (s : State) : State :=
  if s.ref.eligible s.now = true ∧ s.ref.switchDue = none then
    s.refDone { s.ref.orderSwitch s.now with forcedAt := some s.now } 0
  else s.refRefuse

/-- One RETRY bit (R464, R466). -/
def State.retryRoot (s : State) (y : Root) : State :=
  let x := s.ref
  let target : Option Ref :=
    if x.tickValid = true ∧ y ≠ x.tickSrc then x.standbyTarget
    else if x.qualified x.preferred then some x.preferred
    else if x.qualified (otherRef x.preferred) then some (otherRef x.preferred) else none
  match (x.pll y).state, target with
  | .fault, some f =>
    s.refDone (x.updPll y (fun p => { p.acquire f s.now with
      frozen := x.tickValid && y == x.tickSrc })) 0
  | _, _ => s.refRefuse

/-- A write of REF_CTL: its plain fields, then the enables, then FORCE_SWITCH. -/
def State.writeRefCtl (s : State) (v : Word) : State :=
  let s := { s with ref := { s.ref with refCtl := rwBits 0xFF0C s.ref.refCtl v } }
  let s := s.refEnableTo .A (bit v 0)
  let s := s.refEnableTo .B (bit v 1)
  if bit v 4 then s.forceSwitchNow else s

/-- A write of ROOT_CTL. -/
def State.writeRootCtl (s : State) (a b : Bool) : State :=
  let s := if a then s.retryRoot .rpa else s
  if b then s.retryRoot .rpb else s

/-! ## Meanings -/

/-- REF_EDGES_APPEAR (R50, R53). -/
def execRefEdgesAppear (f : Ref) (s : State) : Res :=
  act s (s.ref.enabled f && (s.ref.input f).state == .absent) (fun s =>
    s.refDone (s.ref.updInput f (fun i => { i with
      state := .qualifying, edges := true, edgesAt := s.now, qualAt := s.now, winAt := s.now,
      passSince := none })) 0)

/-- REF_ENABLE (R50, R83). -/
def execRefEnable (p : Path) (f : Ref) (en : Bool) (s : State) : Res :=
  act s true (fun s => s.gateRw p 0x01000 s.ref.refCtl (fun s => s.refEnableTo f en))

/-- A reference becomes QUALIFIED: what each root makes of it (R60, R71, R76, R461). -/
def State.refQualified (s : State) (f : Ref) (phase : Int) : State :=
  let x := s.ref.updInput f (fun i => { i with
    state := .qualified, winAt := s.now, passSince := if s.ref.tickValid then some i.qualAt else none })
  let x := if f = .B then { x with refbFitted := true } else x
  if x.tickValid = false then
    if x.rpa.state ≠ .idle then s.refDone x 0
    else if f = x.preferred then s.refDone (x.coldAcquire f s.now) 0
    else s.refDone { x with prefWait := some (f, s.now) } 0
  else if x.activeRoot.state = .holdover then
    let (y, b) := (x.endHold s.now).takeUpRef f phase
    s.refDone y (evHoldExit ||| b)
  else s.refDone x 0

/-- QUALIFICATION_COMPLETE (R50, R51, R463). -/
def execQualificationComplete (f : Ref) (m : WatchFigures) (phasePs : Int) (s : State) : Res :=
  let i := s.ref.input f
  act s (i.state == .qualifying && decide (i.qualAt + msTk ≤ s.now)
      && (!s.ref.tickValid || s.ref.watchRef == f)) (fun s =>
    if s.ref.tickValid = true ∧ s.ref.windowPass m = false then
      s.refDone (s.ref.failTest f s.now).1 0
    else s.refQualified f phasePs)

/-- WATCH_WINDOW_END (R52, R463). -/
def execWatchWindowEnd (m : WatchFigures) (s : State) : Res :=
  let f := s.ref.watchRef
  let i := s.ref.input f
  act s (s.ref.tickValid && i.state != .absent && decide (i.winAt + watchWindowTk ≤ s.now)) (fun s =>
    let x := { s.ref with watchResult := watchWord m }
    if x.windowPass m then s.refDone (x.updInput f (fun i => { i with winAt := s.now })) 0
    else
      let (y, b) := x.failTest f s.now
      s.refDone y b)

/-- A per-period test fails: a deviation or duty cycle outside its limit, or a missing edge (R52). -/
def RefRoot.periodFails (x : RefRoot) : PeriodFail → Bool
  | .period devPs => !x.periodOk devPs
  | .duty pct => !x.dutyOk pct
  | .missing _ => true

/-- WATCH_PERIOD_FAIL (R50, R52, R56, R463). -/
def execWatchPeriodFail (k : PeriodFail) (s : State) : Res :=
  let f := s.ref.watchRef
  act s (s.ref.tickValid && (s.ref.input f).state != .absent && s.ref.periodFails k) (fun s =>
    match k with
    | .missing true => s.refDone (s.ref.loseOther f) (losBit f)
    | .missing false | .period _ | .duty _ =>
      let (y, b) := s.ref.failTest f s.now
      s.refDone y b)

/-- MISSING_EDGE_WINDOW_CLOSE (R55, R56, R66, R67). DEDUCED, log entry 19. -/
def execMissingEdgeWindowClose (s : State) : Res :=
  let f := s.ref.activeRef
  act s (s.ref.tickValid && s.ref.monitored && (s.ref.input f).state != .absent) (fun s =>
    if s.ref.missRun = 0 then
      { s with ref := { s.ref.updPll s.ref.tickSrc (fun p => { p with frozen := true }) with
        missRun := 1 } }
    else
      let (y, b) := s.ref.loseActive f s.now
      s.refDone y (losBit f ||| b))

/-- MISS_ONE (R57, R314). DEDUCED, log entry 19. -/
def execMissOne (s : State) : Res :=
  act s (s.ref.tickValid && s.ref.missRun == 1) (fun s =>
    { s with
      ref := { s.ref.updPll s.ref.tickSrc (fun p => { p with
          frozen := !(p.state == .active || p.state == .slew) }) with
        missRun := 0, missOne := satAdd 0xFF s.ref.missOne 1 },
      hz := { s.hz with aRef := satAdd 65535 s.hz.aRef 16 } })

/-- A root in ACQUIRE locks: within 400 µs, to a QUALIFIED reference (R58, R464); the first root with the die tick
within ±25 ps of it (R62). -/
def RefRoot.mayLock (x : RefRoot) (y : Root) (phasePs : Int) (now : Nat) : Bool :=
  let p := x.pll y
  p.state == .acquire && x.qualified p.ref && decide (now ≤ p.acqAt + acquireTk)
    && (x.tickValid || decide ((wrapPhase phasePs).natAbs ≤ 25))

/-- ROOT_LOCK (R58, R60 to R62, R81, R461, R464). DEDUCED, log entry 20. -/
def execRootLock (x : Root) (residualPs phasePs : Int) (s : State) : Res :=
  act s (s.ref.mayLock x phasePs s.now) (fun s =>
    if s.ref.tickValid = false then
      let y := s.ref.updPll x (fun p => { p with state := .active, frozen := false })
      let y := { y with
        tickSrc := x, tickValid := true, detPhase := true, phaseOfs := wrapPhase phasePs,
        watchRef := otherRef (y.pll x).ref }
      let y := y.updInput y.watchRef (·.takeUp s.now)
      (({ s with tick := 0 } : State).refDone y 0).seqStart
    else if x = s.ref.tickSrc then
      let (y, b) := s.ref.takeUpRef (s.ref.pll x).ref phasePs
      s.refDone y b
    else
      s.refDone { s.ref.updPll x (fun p => { p with state := .standby, frozen := false }) with
        residual := residualPs, measured := true } 0)

/-- ROOT_ACQUIRE_TIMEOUT (R58, R464). -/
def execRootAcquireTimeout (x : Root) (s : State) : Res :=
  act s ((s.ref.pll x).state == .acquire && decide ((s.ref.pll x).acqAt + acquireTk ≤ s.now)) (fun s =>
    s.refDone (s.ref.updPll x (fun p => { p with state := .fault, frozen := true })) (rootFaultBit x))

/-- ROOT_FAULT (R59, R66, R67). -/
def execRootFault (x : Root) (s : State) : Res :=
  let st := (s.ref.pll x).state
  act s (st == .active || st == .slew || st == .standby) (fun s =>
    let y := s.ref.updPll x (fun p => { p with state := .fault, frozen := true })
    let y := if x = s.ref.tickSrc then { y with detPhase := false, missRun := 0 } else y
    s.refDone y (rootFaultBit x))

/-- The die-tick multiplexer selects the standby root (R64, R66, R73), which is ACTIVE on its reference, or in
HOLDOVER where that was lost within the two edges (R67). -/
def RefRoot.handOver (x : RefRoot) (phasePs : Int) (now : Nat) : RefRoot × Word :=
  let old := x.activeRoot.state
  let y := x.updPll x.tickSrc (fun p => match p.state with
    | .fault => p
    | .acquire => p
    | _ => { p with state := .standby, frozen := true })
  let y := y.updPll (otherRoot x.tickSrc) (fun p => { p with state := .active, frozen := false })
  let y := { y.endHold now with
    tickSrc := otherRoot x.tickSrc, detPhase := false, resync := true, missRun := 0,
    phaseOfs := wrapPhase phasePs, switchovers := satAdd 0xFFFF x.switchovers 1,
    refEvts := x.refEvts + 1 }
  let b := evSwitchover ||| (if old = .holdover then evHoldExit else 0)
  if y.qualified y.activeRef then (y, b) else (y.enterHold now, b ||| evHoldEnter)

/-- SWITCHOVER (R64, R66, R73): two edges after it was ordered. An order lapses where the standby root has faulted
meanwhile, or has lost its reference and the active root still has its own; a root that has lost its reference
then enters HOLDOVER (R67). DEDUCED, log entry 19. -/
def execSwitchover (phasePs : Int) (s : State) : Res :=
  act s (match s.ref.switchDue with
      | some d => decide (d ≤ s.now)
      | none => false) (fun s =>
    let x := { s.ref with switchDue := none, forcedAt := none }
    let has := x.onRef && x.qualified x.activeRef
    if x.standbyRoot.state = .standby ∧ (x.qualified x.standbyRoot.ref || !has) = true then
      let (y, b) := x.handOver phasePs s.now
      s.refDone y b
    else if x.onRef && !has then s.refDone (x.enterHold s.now) evHoldEnter
    else s.refDone x 0)

/-- REVERTIVE_SWITCHOVER (R68). -/
def execRevertiveSwitchover (s : State) : Res :=
  act s (bit s.ref.refCtl 3 && s.ref.eligible s.now && s.ref.switchDue.isNone
      && (match s.ref.revertSince with
          | some t => decide (t + max 1 (fld s.ref.refCtl 8 8) * msTk ≤ s.now)
          | none => false)) (fun s =>
    s.refDone (s.ref.orderSwitch s.now) 0)

/-- FORCE_SWITCH (R69, R76). -/
def execForceSwitch (p : Path) (s : State) : Res :=
  writeAct s p 0x01000 State.forceSwitchNow

/-- SLEW_DONE (R72, R73): the offset is within ±25 ps, reached at no more than SLEW_PPM.
DEDUCED, log entry 19. -/
def execSlewDone (phasePs : Int) (s : State) : Res :=
  let p := wrapPhase phasePs
  act s (s.ref.activeRoot.state == .slew && decide (p.natAbs ≤ 25)
      && decide (525 * (s.ref.phaseOfs - p).natAbs ≤ s.ref.slewRoom)) (fun s =>
    s.refDone { s.ref.updPll s.ref.tickSrc (fun p => { p with state := .active, frozen := false }) with
      detPhase := true, phaseOfs := p, missRun := 0 } evSlewDone)

/-- RETRY (R464, R466). -/
def execRetry (p : Path) (a b : Bool) (s : State) : Res :=
  writeAct s p 0x0101C (fun s => s.writeRootCtl a b)

/-- SEG_SWAP (R77 to R80, R462), with the control messages it cuts. -/
def execSegSwap (seg : Nat) (cut : List CtlMsg) (s : State) : Res :=
  let h := segHalf seg
  actAt "spine segment" 26 seg s
    (s.ref.tickValid && !bit s.ref.segFailed seg && s.ref.spareSeg h != some seg) (fun s =>
    if s.ref.spareSeg h = none ∧ s.ref.spareFail h = false then
      let s := cut.foldl (fun s m => s.cutMsg seg m) s
      s.refDone (s.ref.setSpareSeg h (some seg)) evSegSwap
    else s.refDone (s.ref.segDead seg s.now) evSegDead)

/-- SPARE_TRUNK_FAIL (R462). -/
def execSpareTrunkFail (half : Nat) (s : State) : Res :=
  actAt "spare trunk" 2 half s (s.ref.tickValid && !s.ref.spareFail half) (fun s =>
    let x := s.ref.setSpareFail half
    match s.ref.spareSeg half with
    | some seg => s.refDone ((x.setSpareSeg half none).segDead seg s.now) evSegDead
    | none => s.refDone x 0)

/-- PREFERRED_REF_WAIT_EXPIRY (R76, R461). -/
def execPreferredRefWaitExpiry (s : State) : Res :=
  match s.ref.prefWait with
  | some (f, t) =>
    act s (!s.ref.tickValid && s.ref.rpa.state == .idle && s.ref.qualified f
        && decide (t + msTk ≤ s.now)) (fun s => s.refDone (s.ref.coldAcquire f s.now) 0)
  | none => .next s

/-- COLD_QUALIFICATION_FAIL (R50, R51). -/
def execColdQualificationFail (f : Ref) (twoMissing : Bool) (s : State) : Res :=
  act s (!s.ref.tickValid && (s.ref.input f).state == .qualifying) (fun s =>
    if twoMissing then s.refDone (s.ref.loseOther f) 0
    else s.refDone (s.ref.failTest f s.now).1 0)

end Sys2Proof.Machine
end

