-- ==== Sys2Proof/Machine/Droop.lean ====
section
/-! DEFINITION. Droop detection and clock stretching, calibration, margin probe, cycle ledger commands
and the thermal sensors (chapter 04), with the thermal guard (R199, R200). -/

namespace Sys2Proof.Machine

open Sys2Proof

/-! ## The stretch engine (R132 to R136) -/

/-- The readings a region has, each at most 63 (R127). DESIGN CHOICE, log entry 8. -/
def clipReadings (r : Nat) (l : List Nat) : List Nat := (l.take (detCount r)).map (sat 63)

/-- The lowest reading among active detectors: 64 where none is active (R133). -/
def Droop.lowest (d : Droop) (l : List Nat) : Nat :=
  (((List.range l.length).filter d.activeDet).map (nth l)).foldl min 64

/-- The active detectors that cross. -/
def Droop.crossers (d : Droop) (l : List Nat) (eff : Nat) : Nat :=
  sumL (((List.range l.length).filter (fun i => d.activeDet i && decide (nth l i ≤ eff))).map (2 ^ ·))

/-- k of a sample (R134). -/
def sampleK (kStep eff low : Nat) : Nat := if low ≤ eff then min 8 (1 + (eff - low) / kStep) else 0

/-- The s of the edge that comes: s(j) = max(k(j − 2), s(j − 1) − 1, 0) (R135). -/
def Droop.nextS (d : Droop) : Nat := max d.k2 (d.sNow - 1)

/-- The edge counts in the episode: its length, its s. At 65,536 lc a piece is complete; length, total and largest s
start again with the next one, the detectors and the lowest reading go on (R154). DESIGN CHOICE, log entry 23. -/
def Episode.edge (e : Episode) (sj : Nat) : Episode :=
  let e := { e with
    length := e.length + 1, totS := e.totS + sj, maxS := max e.maxS sj, sum := e.sum + sj, peak := max e.peak sj }
  if e.length < 65536 then e
  else { e with length := 0, totS := 0, maxS := 0, pieces := e.pieces ++ [(e.maxS, e.totS, e.dets, e.lowest)] }

/-- One local edge of a region whose stretch engine acts, before its own sample: the stretch, the
selector, the ledger, the detectors' clock and the episode (R119, R135, R143, R149, R154). With PHASE_HOLD at 1 a
stretch starts a walk (R120). DESIGN CHOICE, log entry 23. -/
def Region.edge (x : Region) (now : Nat) (tick : DWord) : Region :=
  let x := x.phaseTo now tick
  let sj := x.droop.nextS
  { x with
    droop := { x.droop with sNow := sj, episode := x.droop.episode.map (·.edge sj) },
    phase := { x.phase with
      pos := (x.phase.pos + 4 * sj) % 64,
      walk := if bit x.regs.phaseCtl 8 ∧ sj ≠ 0 then some (x.phase.walk.getD { since := now }) else x.phase.walk },
    ledger := if x.racg.shutter then
        { x.ledger with sTot := x.ledger.sTot + BitVec.ofNat 64 sj, curMax := max x.ledger.curMax sj,
                        taken := x.ledger.taken + 16 * sj }
      else x.ledger,
    cal := { x.cal with clk := { x.cal.clk with
      taken := x.cal.clk.taken + 16 * sj, skipped := x.cal.clk.skipped + b2n (decide (sj ≠ 0)) } } }

/-- The episode ends at this edge: its s is 0 and the two samples before it yielded k = 0 (R153). -/
def Droop.eased (d : Droop) : Bool :=
  d.episode.isSome && d.sNow == 0 && d.k1 == 0 && d.k2 == 0

/-- The sample of an edge yields k. -/
def Region.sample (x : Region) (k : Nat) : Region :=
  { x with droop := { x.droop with k2 := x.droop.k1, k1 := k, kNow := k } }

/-- A local edge with its stretch; an eased episode ends. -/
def State.edgeOf (s : State) (r : Nat) : State :=
  let s := s.updRegion r (·.edge s.now s.tick)
  let s := if (s.region r).droop.sNow = 8 then s.raiseRegion r 0 evDeep else s
  if (s.region r).droop.eased then s.endEpisode r endEased else s

/-- How many edges without a crossing it takes at most until s, k and the episode have come to rest. -/
def Droop.restEdges (d : Droop) : Nat := d.sNow + d.k1 + d.k2 + 3

/-- Edges whose samples cross nothing. DESIGN CHOICE, log entry 23. -/
def State.quietEdges (s : State) (r : Nat) : Nat → State
  | 0 => s
  | n + 1 => State.quietEdges ((s.edgeOf r).updRegion r (·.sample 0)) r n

/-- A sample with its readings (R133, R145). DESIGN CHOICE, log entry 23. -/
def Region.latch (x : Region) (l : List Nat) : Region :=
  { x with droop := { x.droop with
    readings := (List.range l.length).map (fun i => (i, nth l i)) } }

/-- The detectors have a clock: the DCO's, or the die tick while it comes (R88, R122). -/
def Region.sampled (x : Region) : Bool := !x.racg.refLost || x.racg.state.stretches

/-- A crossing sample begins or joins an episode (R153, R154). -/
def Region.joinEpisode (x : Region) (tick : DWord) (dets low : Nat) : Region :=
  { x with droop := { x.droop with
    episode := some (match x.droop.episode with
      | some e => { e with dets := e.dets ||| dets, lowest := min e.lowest low }
      | none => { start := tick, length := 0, maxS := 0, totS := 0, dets := dets, lowest := low }) } }

/-- DROOP_CROSSING (R133 to R136, R138, R153, R156, R465): `quiet` edges whose samples do not cross, then the
edge whose sample has these readings. DESIGN CHOICE, log entry 8; DESIGN CHOICE, log entry 23. -/
def execDroopCrossing (r quiet : Nat) (readings : List Nat) (s : State) : Res :=
  actAt "region" 208 r s (s.ref.tickValid && (s.region r).sampled) (fun s =>
    let l := clipReadings r readings
    let eff := s.eff r
    let d := (s.region r).sampling
    let low := d.lowest l
    let k := sampleK d.kStep eff low
    if (s.region r).racg.state.stretches then
      let s := s.quietEdges r (min d.restEdges quiet)
      let s := (s.edgeOf r).updRegion r (fun x => (x.sample k).latch l)
      if k = 0 then s
      else
        let fresh := (s.region r).droop.episode.isNone
        let s := s.updRegion r (·.joinEpisode s.tick (d.crossers l eff) low)
        s.raiseRegion r 0 (if fresh then evEpisodeStart else 0)
    else
      let s := s.updRegion r (fun x =>
        let x := x.latch l
        { x with droop := { x.droop with kNow := k } })
      s.raiseRegion r 0 (if k = 0 then 0 else evCrossUnstretched))

/-- EPISODE_END (R153, R154): the edges after the last crossing go by until the episode has eased; the last of
their samples, which crosses nothing, has these readings. -/
def execEpisodeEnd (r : Nat) (readings : List Nat) (s : State) : Res :=
  let l := clipReadings r readings
  actAt "region" 208 r s
    ((s.region r).droop.episode.isSome && decide (s.eff r < (s.region r).sampling.lowest l)) (fun s =>
    (s.quietEdges r (s.region r).droop.restEdges).updRegion r (·.latch l))

/-- EPISODE_CONTINUED (R154, R273): the coach of the oldest complete piece. -/
def execEpisodeContinued (r : Nat) (s : State) : Res :=
  actAt "region" 208 r s (match (s.region r).droop.episode with
      | some e => !e.pieces.isEmpty
      | none => false) (fun s =>
    match (s.region r).droop.episode with
    | some e =>
      let s := s.updRegion r (fun x => { x with droop := { x.droop with
        episode := some { e with pieces := e.pieces.drop 1 } } })
      if s.coalescing then s else s.pieceCoaches r e.start (e.pieces.take 1)
    | none => s)

/-! ## Histograms (R155, R273, R275, R310) -/

/-- The histogram coach of a span (R252, type 0x41). -/
def histBody (h : CoalHist) : List DWord :=
  [packD ((List.range 8).map (fun b => (8 * b, 8, nth h.bins b))),
   packD [(0, 16, h.count), (16, 4, h.maxS), (20, 1, b2n h.part), (32, 32, h.totS)]]

/-- The histogram coach of the span that began at `start`, where the region has one (R275).
DEDUCED, log entry 35. -/
def State.histCoach (s : State) (start : DWord) (r : Nat) : State :=
  match (s.region r).droop.coalHist with
  | some h =>
    let s := s.updRegion r (fun x => { x with droop := { x.droop with coalHist := none } })
    let s := { s with pool := { s.pool with hists := satAdd 0xFFFF s.pool.hists 1 } }
    s.formAt start 0x41 r (histBody h)
  | none => s

/-- A span ends for one region: EPISODE_HIST, the hazard monitor's sums, and the histogram coach. -/
def State.endSpan (s : State) (start : DWord) (r : Nat) : State :=
  let d := (s.region r).droop
  let s := s.updRegion r (fun x => { x with droop := { x.droop with
    histLast := x.droop.bins, bins := [0, 0, 0, 0, 0, 0, 0, 0] } })
  let s := if sumL d.bins = 0 then s
    else s.updHzr r (fun h => { h with bins := List.zipWith (· + ·) h.bins d.bins })
  s.histCoach start r

/-- A span of 1,024 tk has ended that is not yet accounted for. -/
def State.spanDue (s : State) : Bool :=
  decide ((spanStart s.pool.spanAt).toNat < (spanStart s.tick).toNat)

/-- The span's end in every region. DEDUCED, log entry 35. -/
def State.endSpans (s : State) : State :=
  if s.spanDue then
    let start := spanStart s.tick - 1024
    let s := { s with pool := { s.pool with spanAt := s.tick } }
    ((List.range 208).filter (fun r => s.regions.any (·.1 == r))).foldl (fun s r => s.endSpan start r) s
  else s

/-- EPISODE_HIST_SPAN (R155, R275): a span of 1,024 tk has ended. -/
def execEpisodeHistSpan (s : State) : Res := act s s.spanDue State.endSpans

/-! ## Masks, selection, trims (R139 to R141) -/

/-- A write of DET_MASK is applied, or refused in full; it takes effect with the first sampling edge after this die
tick (R138). -/
def State.writeDetMask (s : State) (r : Nat) (v : Word) : State :=
  let n := if isCore r then 0x3FFFF else 0x300FF
  let v := v &&& n
  if detMin r ≤ activeCount r v (s.region r).droop.calSel ∧ fld v 16 2 ≠ 3 then
    (s.updRegion r (fun x =>
      let x := x.keep 0x80 x.droop.detMask
      { x with droop := { x.droop with detMask := v } })).soon r
  else s.raiseRegion r 0 evDetRefused

/-- A write of DET_CAL_SEL is applied, or refused in full (R138). -/
def State.writeCalSel (s : State) (r : Nat) (v : Word) : State :=
  let v := v &&& (if isCore r then 0xFFFF else 0xFF)
  if detMin r ≤ activeCount r (s.region r).droop.detMask v then
    (s.updRegion r (fun x =>
      let x := x.keep 0x84 x.droop.calSel
      { x with droop := { x.droop with calSel := v } })).soon r
  else s.raiseRegion r 0 evDetRefused

/-- A write of THRESH (R138). -/
def State.writeThresh (s : State) (r : Nat) (v : Word) : State :=
  (s.updRegion r (fun x =>
    let x := x.keep 0x88 x.droop.thresh
    { x with droop := { x.droop with thresh := v &&& 0x0700003F } })).soon r

/-- A write of DET_TRIM[w]: the trims of detectors out of the active set take their fields (R140). -/
def State.writeTrim (s : State) (r w : Nat) (v : Word) : State :=
  if detCount r ≤ 4 * w then s
  else
    let d := (s.region r).droop
    let want (j : Nat) : Nat := fld v (8 * j) 6
    let bad := (List.range 4).any (fun j =>
      d.activeDet (4 * w + j) && decide (tget 0 d.trims (4 * w + j) ≠ want j))
    let trims := (List.range 4).foldl (fun t j =>
      if d.activeDet (4 * w + j) then t else tput t (4 * w + j) (want j)) d.trims
    let s := s.updRegion r (fun x => { x with droop := { x.droop with trims := trims } })
    if bad then s.raiseRegion r 0 evDetRefused else s

/-- DET_MASK_WRITE (R139, R141). -/
def execDetMaskWrite (p : Path) (r : Nat) (v : Word) (s : State) : Res :=
  regionWriteRw s p r 0x80 (s.region r).droop.detMask (fun s => s.writeDetMask r v)

/-- DET_CAL_SEL_WRITE (R139). -/
def execDetCalSelWrite (p : Path) (r : Nat) (v : Word) (s : State) : Res :=
  regionWriteRw s p r 0x84 (s.region r).droop.calSel (fun s => s.writeCalSel r v)

/-- DET_TRIM_WRITE (R140). -/
def execDetTrimWrite (p : Path) (r w : Nat) (v : Word) (s : State) : Res :=
  if w < 4 then
    regionWriteRw s p r (0x90 + 4 * w) (detWord r w (fun i => tget 0 (s.region r).droop.trims i))
      (fun s => s.writeTrim r w v)
  else .next s

/-! ## The margin probe (R142 to R145) -/

/-- A write of PROBE_CTL: START with a LIVE source needs LOCKED and an open shutter; a START while BUSY
is ignored (R144, R157). -/
def State.writeProbe (s : State) (r adv : Nat) (live start : Bool) : State :=
  let x := s.region r
  let s := s.updRegion r (fun x => { x with cal := { x.cal with probeAdv := adv % 64, probeSrc := live } })
  if start = false ∨ x.cal.probeRun.isSome = true then s
  else if live = true ∧ ¬(x.racg.state = .locked ∧ x.racg.shutter = true) then
    s.raiseRegion r 0 evDetRefused
  else s.updRegion r (fun x =>
    let x := x.phaseTo s.now s.tick
    { x with cal := { x.cal with
      prValid := false,
      probeRun := some {
        adv := adv % 64, live := live, cycles := x.cal.clk.cycles s.now, skipped := x.cal.clk.skipped } } })

/-- PROBE_START (R142, R144). -/
def execProbeStart (p : Path) (r adv : Nat) (live : Bool) (s : State) : Res :=
  regionWrite s p r 0xC0 (fun s => s.writeProbe r adv live true)

/-- What a probe window has counted by a die tick: the cycles of the detectors' clock, and those of them in which s
was not 0 or a walk step was applied (R88, R143). -/
def Region.probeCount (x : Region) (p : ProbeRun) (now : Nat) (tick : DWord) : Nat × Nat :=
  let y := x.phaseTo now tick
  (y.cal.clk.cycles now - p.cycles, y.cal.clk.skipped - p.skipped)

/-- PROBE_DONE (R143 to R145): the window has counted its 1,024 cycles, or 65,536 lc have passed; `changes` endpoint
changes were recorded, `late` says one came after the strobe; `lowest` are the lowest readings of the
selected detectors over the window. DESIGN CHOICE, log entry 8. -/
def execProbeDone (r changes : Nat) (late : Bool) (lowest : List Nat) (s : State) : Res :=
  actAt "region" 208 r s (match (s.region r).cal.probeRun with
      | some p =>
        let c := (s.region r).probeCount p s.now s.tick
        decide (1024 ≤ c.1 - c.2) || decide (65536 ≤ c.1)
      | none => false) (fun s =>
    match (s.region r).cal.probeRun with
    | some p =>
      let c := (s.region r).probeCount p s.now s.tick
      let l := clipReadings r lowest
      let s := s.updRegion r (fun x => { x with
        cal := { x.cal with
          probeRun := none, prValid := true, prFail := late, prShort := decide (c.1 - c.2 < 1024),
          prIdle := p.live && decide (changes < 64), prAdv := p.adv, prSkipped := sat 0xFFFF c.2 },
        droop := { x.droop with heldRead := (List.range l.length).map (fun i => (i, nth l i)) } })
      s.raiseRegion r 0 evProbeDone
    | none => s)

/-! ## Calibration record (R146 to R148) -/

/-- Largest absolute difference of any unmasked detector's trim (R147). -/
def trimDrift (r : Nat) (mask : Word) (now before : Tbl Nat) : Nat :=
  maxL (((List.range (detCount r)).filter (fun i => !bit mask i)).map
    (fun i => max (tget 0 now i) (tget 0 before i) - min (tget 0 now i) (tget 0 before i)))

/-- A write of CAL_DONE (R146, R147): a door taken in this tick refuses it. -/
def State.writeCalDone (s : State) (r : Nat) : State :=
  let x := s.region r
  let atDoor := x.racg.doorAt == some s.now
    || (x.racg.armed && decide (x.racg.armDoor.toNat ≤ s.tk))
  if (x.racg.state = .ready ∨ x.racg.state = .locked) ∧ x.droop.calSel = 0 ∧ atDoor = false then
    s.updRegion r (fun x => { x with cal := { x.cal with
      valid := true, gear := x.racg.gear, doneAt := some s.now, trims := some x.droop.trims,
      drift := match x.cal.trims with
        | some t => trimDrift r x.droop.detMask x.droop.trims t
        | none => 0 } })
  else s.raiseRegion r 0 evCalDoneRefused

/-- CAL_DONE (R146, R147); the host's is without effect while the sequencer is halted (R30). -/
def execCalDone (p : Path) (r : Nat) (s : State) : Res :=
  regionWrite s p r 0xBC (fun s => if s.frozen p then s else s.writeCalDone r)

/-- CAL_EXPIRED (R148): AGE exceeds MAX_AGE. -/
def execCalExpired (r : Nat) (s : State) : Res :=
  let c := (s.region r).cal
  actAt "region" 208 r s (c.valid && decide (max 1 c.maxAge < c.age s.now)) (fun s =>
    (s.updRegion r Region.voidCal).raiseRegion r 0 evCalExpired)

/-! ## Ledger snapshots (R150, R151) -/

/-- SNAP (R150). -/
def execSnap (p : Path) (r : Nat) (s : State) : Res :=
  regionWrite s p r 0xD0 (fun s => s.snapshotNext r causeSnap)

/-- The period of automatic snapshots: 0 for none (R158). -/
def Ledger.period (l : Ledger) : Nat :=
  let p := fld l.ctl 8 6
  if p = 0 then 0 else 2 ^ max 16 p

/-- PERIODIC_SNAPSHOT (R151): the tap's TICK is a multiple of the period. -/
def execPeriodicSnapshot (r : Nat) (s : State) : Res :=
  let l := (s.region r).ledger
  actAt "region" 208 r s
    (s.ref.tickValid && !(s.region r).racg.refLost && decide (l.period ≠ 0)
      && s.reached l.period 0) (fun s =>
    s.snapshot r causePeriodic)

/-! ## Thermal sensors and guard (R130, R131, R199, R200) -/

/-- The temperature limits, in quarter degrees (R202). -/
def Doors.hotLimit (x : Doors) : Int := fld x.thermLimit 0 10
def Doors.critLimit (x : Doors) : Int := fld x.thermLimit 16 10

/-- The guard issues TO_BYPASS: it acts in the states that accept it, a due door first, and raises nothing elsewhere
(R96, R200, R201). DESIGN CHOICE, log entry 25. -/
def State.guardBypass (s : State) (r : Nat) : State :=
  let g := (s.region r).racg
  if g.refLost = false ∧ (g.state = .acquire ∨ g.state = .ready ∨ g.state = .locked ∨ g.state = .ramp)
  then (if s.doorDue r then s.takeDoor r else s).cmdToBypass r else s

/-- THERMAL_CONVERSION (R130, R131, R199, R200): both sensors of a region complete a conversion, once every
65,536 tk; the guard's TO_BYPASS follows in the next die tick. DESIGN CHOICE, log entry 8; DESIGN CHOICE, log
entry 25. -/
def execThermalConversion (r : Nat) (t0 t1 : Int) (s : State) : Res :=
  actAt "region" 208 r s (s.ref.tickValid && (match (s.region r).thermal.convAt with
      | some t => decide (t + 65536 ≤ s.now)
      | none => true)) (fun s =>
    let t0 := max (-512) (min 511 t0)
    let t1 := max (-512) (min 511 t1)
    let x := s.region r
    let high := higherTemp x.droop.detMask t0 t1
    let hot := if s.doors.hotLimit ≤ high then true
      else if high ≤ s.doors.hotLimit - 8 then false else x.thermal.hot
    let crit := decide (s.doors.critLimit ≤ high)
    let trips := bit s.doors.cfg 1 && crit
    let guard := crit && (trips || x.thermal.trip)
    let s := s.updRegion r (fun x => { x with thermal := { x.thermal with
      convAt := some s.now, guard := guard,
      t0 := t0, t1 := t1, hist := (high :: x.thermal.hist).take 1025, hot := hot,
      trip := x.thermal.trip || trips } })
    let s := s.updHzr r (fun h => { h with conv := true })
    let s := if hot = true ∧ x.thermal.hot = false then (s.raiseDoorUnit 2 r).raiseLine 62 else s
    let s := if trips = true ∧ x.thermal.trip = false then s.raiseDoorUnit 4 r else s
    let s := if guard then s.soon r else s
    s)

/-! ## The die tick in a region -/

/-- What a region does as a die tick begins: what was written in the last one is in force (R92, R126, R138), the
snapshot due at this edge is taken (R150), DCW falls to a lowered ceiling, held reads end (R123), and the guard
acts (R200). DESIGN CHOICE, log entry 1. -/
def State.regionTick (s : State) (r : Nat) : State :=
  let causes := (s.region r).ledger.due
  let s := if causes = 0 then s
    else (s.snapshot r causes).updRegion r (fun x => { x with ledger := { x.ledger with due := 0 } })
  let guard := (s.region r).thermal.guard
  let s := s.updRegion r (fun x =>
    let x := { x with
      racg := { x.racg with ceilWas := 0 },
      regs := { x.regs with
        was := [], heldPage := if x.racg.refLost then x.regs.heldPage else none },
      thermal := { x.thermal with guard := false } }
    let x := if x.racg.state = .acquire then
        { x with racg := { x.racg with acqCeil := (s.now, x.ceil) :: x.racg.acqCeil } } else x
    x.reclamp s.now)
  if guard then s.guardBypass r else s

/-- The regions that lost the die tick hold their pages as the tick ends (R123). -/
def State.holdPages (s : State) : State :=
  s.log.lost.foldl (fun s r => s.updRegion r (fun x => { x with regs := { x.regs with
    heldPage := some (s.pageWords r) } })) s

end Sys2Proof.Machine
end

