-- ==== Sys2Proof/Machine/Pool.lean ====
section
/-! DEFINITION. The record pool and its queues (chapter 09): carts, grants, carriages written one per
die tick, pops and the read buffer, flushes, flight-recorder mode, coalescing, the pages. -/

namespace Sys2Proof.Machine

open Sys2Proof

/-! ## Coaches and carts (R248, R257) -/

/-- Carriages of the coach that have arrived in a die tick (R257). -/
def PoolCoach.arrived (c : PoolCoach) (now : Nat) : Nat := min c.words.length (now + 1 - c.grantAt)

/-- Its last carriage is written. -/
def PoolCoach.complete (c : PoolCoach) (now : Nat) : Bool := decide (c.words.length ≤ c.arrived now)

/-- A popped coach still being written holds its carts (R262). -/
def Writing.holds (w : Writing) : Bool := w.popped && decide (w.next < w.coach.words.length)

/-- The carts of popped coaches of a queue: still being written, or still being taken by the sequencer. -/
def State.poppedCarts (s : State) (q : Nat) : List Nat :=
  let w := (s.pool.writing.filter (fun w => w.queue == q && w.holds)).flatMap (·.coach.carts)
  w ++ ((s.pool.leaving.filter (fun l => l.1 == q && decide (s.now < l.2.2))).flatMap (·.2.1)).filter
    (fun c => !w.contains c)

/-- The carts of a queue: of its coaches, and of popped coaches not yet passed to their reader (R262). -/
def State.queueCarts (s : State) (q : Nat) : List Nat :=
  (s.queue q).coaches.flatMap (·.carts) ++ s.poppedCarts q

/-- Every cart held or reserved. -/
def State.usedCarts (s : State) : List Nat :=
  (List.range 96).flatMap (fun q => s.queueCarts q)

/-- IN_USE (R279). -/
def State.inUse (s : State) : Nat := s.usedCarts.length

/-- The free carts, in rising order. -/
def State.freeCarts (s : State) : List Nat :=
  let used := s.usedCarts
  (List.range 4096).filter (fun c => !used.contains c)

/-- `n` carts of a list, each a free choice (R257 names no order; log entry 3). -/
def pickCarts : Nat → Nat → List Nat → List Nat
  | 0, _, _ => []
  | n + 1, i, l => match l[Config.cartChoice i % l.length]? with
    | some c => c :: pickCarts n (i + 1) (l.erase c)
    | none => []

/-- Carriage `i` of a coach lies at byte 8 (i mod 4) of its cart ⌊i/4⌋ (R248). -/
def PoolCoach.place (c : PoolCoach) (i : Nat) : Nat := 32 * nth c.carts (i / 4) + 8 * (i % 4)

/-- The cart of carriage `i`. -/
def PoolCoach.cartOf (c : PoolCoach) (i : Nat) : Nat := nth c.carts (i / 4)

/-- Carriage `i` is written into the pool. -/
def State.writeCarriage (s : State) (c : PoolCoach) (i : Nat) : State :=
  { s with pool := { s.pool with carts := writeDword s.pool.carts (c.place i) (c.words.getD i 0) } }

/-- The carriages of a coach as they stand in its carts, where they have arrived (R248, R278). -/
def State.coachWords (s : State) (c : PoolCoach) : List DWord :=
  (List.range c.words.length).map (fun i =>
    if i < c.arrived s.now then readDword s.pool.carts (c.place i) else c.words.getD i 0)

/-- A coach's last carriage is written: COACHES, and the notice of the next die tick (R265, R279).
DEDUCED, log entry 34. -/
def State.coachDone (s : State) (q : Nat) : State :=
  s.updQueue q (fun x => { x with count := x.count + 1, notices := x.notices ++ [s.now + 1] })

/-! ## A queue at the cap, and in flight-recorder mode (R257, R269, R271) -/

/-- MAX_CARTS, where 0 means the whole pool. -/
def Queue.cap (x : Queue) : Nat := if x.maxCarts = 0 then 4096 else x.maxCarts

/-- `n` carts are free, and within the queue's cap. -/
def State.fits (s : State) (q n : Nat) : Bool :=
  decide ((s.queueCarts q).length + n ≤ (s.queue q).cap) && decide (s.inUse + n ≤ 4096)

/-- The oldest coach of a flight-recorder queue is discarded; the bits of Q_EVENT it sets, and the overruns
(R269, R271). A REWIND of this die tick to a mark on it fails, and a MARK of this die tick on it moves to the new
read position, the discard coming first (R277). -/
def Queue.shed (x : Queue) (now : Nat) : Queue × Word × Nat :=
  let back : Option Nat := match x.rewound with
    | some (t, p) => if t = now ∧ x.markAt = some 0 then some p else none
    | none => none
  let pos := back.getD x.pos
  let overrun : Nat := if pos = 0 then 1 else 0
  let old : Option (Option Nat) := match x.marked with
    | some (t, m) => if t = now then some m else none
    | none => none
  let stays : Bool := old.isSome && x.markAt == some 0 && pos == 0
  let lost : Bool := if stays then old == some (some 0) else x.markAt == some 0
  ({ x with
      coaches := x.coaches.drop 1, pos := pos - 1, overruns := satAdd 0xFFFF x.overruns overrun,
      markAt := if stays then some 0 else if lost then none else x.markAt.map (· - 1),
      rewound := if back.isSome then none else x.rewound.map (fun e => (e.1, e.2 - 1)),
      marked := x.marked.map (fun e => (e.1, if e.2 = some 0 then none else e.2.map (· - 1))) },
    (if back.isSome then 0x20 else 0) ||| (if overrun = 1 then 8 else 0) ||| (if lost then 0x10 else 0), overrun)

/-- The oldest coach is discarded; what was still to be written of it is not. DEDUCED, log entry 36. -/
def State.dropOldest (s : State) (q : Nat) : State :=
  let x := s.queue q
  let r := x.shed s.now
  let s := (s.setQueue q r.1).raiseQ q r.2.1
  let s := s.lostNow q 0 r.2.2
  { s with pool := { s.pool with writing := s.pool.writing.filter (fun w =>
    !(w.queue == q && some w.coach == x.coaches.head?)) } }

/-- Oldest coaches are discarded until `n` carts fit. -/
def State.makeRoom (s : State) (q n : Nat) : Nat → State
  | 0 => s
  | k + 1 =>
    if s.fits q n then s
    else match (s.queue q).coaches with
      | _ :: _ => State.makeRoom (s.dropOldest q) q n k
      | [] => s

/-- May a coach of `len` carriages be granted into queue `q` now (R257, R266, R269)? A coach that waits
for carts sets FULL. DEDUCED, log entry 36. -/
def State.tryFit (s : State) (q len : Nat) : State × Bool :=
  let x := s.queue q
  let n := ceilDiv len 4
  if x.flush = true ∨ bit x.cfg 0 = false ∨ (1 < len ∧ 16 ≤ s.pool.writing.length) then (s, false)
  else
    let s := if bit x.cfg 1 then s.makeRoom q n x.coaches.length else s
    if s.fits q n then (s, true) else (s.raiseQ q 2, false)

/-! ## Grants (R257 to R261) -/

/-- What a source would be granted next: its drop report, a coach that waits, a coach of a task's host command,
its PUSH instruction, or the command port's. -/
inductive HeadKind where
  | report | formed | host | push | port
  deriving DecidableEq, Repr

/-- A task's coaches in the order in which it formed them (R258): the kind, when, the queue and the words. -/
def State.taskHeads (s : State) (t : Nat) : List (HeadKind × Nat × Nat × List DWord) :=
  (match tget [] s.pool.waiting (0x158 + t) with
    | f :: _ => [(.formed, f.at_, f.queue, f.words)]
    | [] => [])
  ++ (match s.seq.pushes.find? (fun p => p.task == t) with
    | some p => [(.host, p.at_, p.queue, p.words)]
    | none => [])
  ++ (match (s.task t).state with
    | .waiting (.push q _ words _ ready) =>
      if ready ≤ s.now ∧ q ≠ 0 then [(.push, ready, q, words)] else []
    | _ => [])

/-- The one formed first. -/
def firstHead : List (HeadKind × Nat × Nat × List DWord) → Option (HeadKind × Nat × Nat × List DWord)
  | [] => none
  | h :: l => match firstHead l with
    | some g => if g.2.1 < h.2.1 then some g else some h
    | none => some h

/-- The coach a source would be granted next, with its kind and its queue: the drop report ahead of the others
(R261), the command port's (R381), a task's (R258, R364, R369, R385). -/
def State.head (s : State) (src : Nat) : Option (HeadKind × Nat × List DWord) :=
  match s.pool.reports.find? (fun e => e.1 == src) with
  | some (_, r) =>
    some (.report, r.queue, [coachHeader 0xF0 2 src r.formed,
      packD [(0, 16, r.count), (16, 8, r.typ), (24, 40, r.tick)]])
  | none =>
    if src = 0x160 then s.cmd.busy.map (fun w => (.port, 0, w))
    else if 0x158 ≤ src ∧ src < 0x15C then
      (firstHead (s.taskHeads (src - 0x158))).map (fun h => (h.1, h.2.2))
    else match tget [] s.pool.waiting src with
      | f :: _ => some (.formed, f.queue, f.words)
      | [] => none

def State.headItem (s : State) (src : Nat) : Option (Nat × List DWord) := (s.head src).map (·.2)

/-- The kind of a source's next coach. -/
def State.headKind (s : State) (src : Nat) : Option HeadKind := (s.head src).map (·.1)

/-- A number put into a rising list. -/
def insertNat (n : Nat) : List Nat → List Nat
  | [] => [n]
  | m :: l => if n < m then n :: m :: l else if n = m then m :: l else m :: insertNat n l

/-- The sources that may have a coach, in rotating order after the last one granted (R258). -/
def State.grantOrder (s : State) : List Nat :=
  let all : List Nat :=
    (s.pool.reports.map (fun (e : Nat × DropReport) => e.1) ++ [0x158, 0x159, 0x15A, 0x15B, 0x160]).foldr insertNat
    (s.pool.waiting.map (fun (e : Nat × List Formed) => e.1))
  all.filter (fun (n : Nat) => decide (s.pool.lastSrc < n))
    ++ all.filter (fun (n : Nat) => decide (n ≤ s.pool.lastSrc))

/-- The first source of a list whose coach can be granted, with its queue and coach. -/
def State.firstGrant (s : State) : List Nat → State × Option (Nat × Nat × List DWord)
  | [] => (s, none)
  | src :: rest => match s.headItem src with
    | none => State.firstGrant s rest
    | some (q, words) => match s.tryFit q words.length with
      | (s', true) => (s', some (src, q, words))
      | (s', false) => State.firstGrant s' rest

/-- The source that comes next. -/
def State.nextGrant (s : State) : State × Option (Nat × Nat × List DWord) := s.firstGrant s.grantOrder

/-- A coach joins its queue: in order of grant, and by source ID within a die tick (R258). -/
def insertCoach (c : PoolCoach) : List PoolCoach → List PoolCoach
  | [] => [c]
  | x :: l => if x.grantAt = c.grantAt ∧ c.src < x.src then c :: x :: l else x :: insertCoach c l

/-- The grant: carts reserved, the header written, the coach in its queue (R257). -/
def State.grant (s : State) (src q : Nat) (words : List DWord) : State :=
  let n := ceilDiv words.length 4
  let c : PoolCoach := { src := src, words := words, carts := pickCarts n s.freeIdx s.freeCarts, grantAt := s.now }
  let s := { s with freeIdx := s.freeIdx + n }
  let s := s.writeCarriage c 0
  let s := s.updQueue q (fun x => { x with
    coaches := x.coaches.take x.pos ++ insertCoach c (x.coaches.drop x.pos) })
  let s := { s with pool := { s.pool with lastSrc := src, peak := max s.pool.peak s.inUse } }
  if words.length ≤ 1 then s.coachDone q
  else { s with pool := { s.pool with writing := s.pool.writing ++ [{ queue := q, coach := c }] } }

/-- The granted coach no longer waits: the report is closed, the waiting place or the port is free. -/
def State.unwait (s : State) (src : Nat) : State :=
  match s.headKind src with
  | some .report => { s with pool := { s.pool with reports := tdel s.pool.reports src } }
  | some .port =>
    { s with cmd := { s.cmd with busy := none, submitted := (s.cmd.submitted + 1) % 65536 } }
  | some .host =>
    { s with seq := { s.seq with pushes := s.seq.pushes.eraseP (fun p => p.task + 0x158 == src) } }
  | some .formed => match tget [] s.pool.waiting src with
    | _ :: [] => { s with pool := { s.pool with waiting := tdel s.pool.waiting src } }
    | _ :: l => { s with pool := { s.pool with waiting := tput s.pool.waiting src l } }
    | [] => s
  | some .push => s
  | none => s

/-- What the source would be granted next is the coach of a PUSH instruction: its grant is PUSH_GRANT. -/
def State.isPushSrc (s : State) (src : Nat) : Bool := s.headKind src == some .push

/-- COACH_GRANT (R257 to R261, R269): the source whose turn it is, unless it is a PUSH instruction (PUSH_GRANT). -/
def execCoachGrant (s : State) : Res :=
  act s true (fun s => match s.nextGrant with
    | (s', some (src, q, words)) =>
      if s.isPushSrc src then s else (s'.unwait src).grant src q words
    | (s', none) => s')

/-- What the pool does in each die tick: the next carriage of each coach in writing (R257).
DEDUCED, log entry 34. -/
def State.writeNext (s : State) (w : Writing) : State :=
  let s := s.writeCarriage w.coach w.next
  let s := { s with pool := { s.pool with writing := s.pool.writing ++ [{ w with next := w.next + 1 }] } }
  if w.coach.words.length ≤ w.next + 1 then s.coachDone w.queue else s

/-- The pool's part of a die tick; a coach whose last carriage was written before leaves its place.
DEDUCED, log entry 34. -/
def State.poolTick (s : State) : State :=
  let ws := s.pool.writing.filter (fun w => decide (w.next < w.coach.words.length))
  ws.foldl State.writeNext { s with pool := { s.pool with
    writing := [], leaving := s.pool.leaving.filter (fun l => decide (s.now < l.2.2)) } }

/-- COACH_WRITTEN (R265): the notice of a coach whose last carriage was written before this die tick. -/
def execCoachWritten (q : Nat) (s : State) : Res :=
  actAt "queue" 96 q s (match (s.queue q).notices with
      | t :: _ => decide (t ≤ s.now)
      | [] => false) (fun s =>
    (s.updQueue q (fun x => { x with notices := x.notices.drop 1 })).notice q)

/-! ## Pops and the read buffer (R262 to R264, R268) -/

/-- CUT: 0 is taken as 1, above 8 as 8 (R279). -/
def Queue.cut (x : Queue) : Nat := max 1 (min 8 (fld x.cfg 4 4))

/-- The head coach, where it can be popped (R262). -/
def Queue.head (x : Queue) (now : Nat) : Option PoolCoach :=
  match x.coaches[x.pos]? with
  | some c => if min x.cut c.words.length ≤ c.arrived now then some c else none
  | none => none

/-- The idle coach (R262). -/
def idleCoach (q : Nat) (tick : DWord) : List DWord := [coachHeader 0 1 (0x180 + q) tick]

/-- A pop by the sequencer (`seq`) or by the host (R262, R263, R268): the coach taken, if any. -/
def State.pop (s : State) (q : Nat) (seq : Bool) : State × Option PoolCoach :=
  let x := s.queue q
  if bit x.cfg 2 ≠ seq then (s.raiseQ q 0x80, none)
  else match x.head s.now with
    | none => (s, none)
    | some c =>
      let got := { c with words := s.coachWords c }
      if bit x.cfg 1 then (s.setQueue q { x with pos := x.pos + 1 }, some got)
      else
        let s := s.setQueue q { x with coaches := x.coaches.eraseIdx x.pos }
        ({ s with pool := { s.pool with writing := s.pool.writing.map (fun w =>
          if w.queue = q ∧ w.coach = c then { w with popped := true } else w) } }, some got)

/-- A read of Q_POP: the pop fills the read buffer; the header's high word. -/
def State.readPop (s : State) (q : Nat) : State × Word :=
  let (s', c) := s.pop q false
  let b : ReadBuf := match c with
    | some c => { words := c.words, grantAt := c.grantAt }
    | none => { words := idleCoach q s.tick, grantAt := s.now }
  (s'.updQueue q (fun x => { x with buf := b }), hiWord (b.words.headD 0))

/-- The carriage at the read index has arrived. -/
def ReadBuf.ready (b : ReadBuf) (now : Nat) : Bool := decide (b.grantAt + b.idx ≤ now)

/-- A read of RD_LO that can answer. -/
def State.readLo (s : State) (q : Nat) : State × Word :=
  let b := (s.queue q).buf
  match b.words[b.idx]? with
  | some d =>
    (s.updQueue q (fun x => { x with buf := { b with latch := hiWord d, held := false } }), loWord d)
  | none => (s.updQueue q (fun x => { x with buf := { b with held := false } }), 0)

/-- A read of RD_HI. -/
def State.readHi (s : State) (q : Nat) : State × Word :=
  let b := (s.queue q).buf
  if b.idx < b.words.length then
    (s.updQueue q (fun x => { x with buf := { b with idx := b.idx + 1 } }), b.latch)
  else (s, 0)

/-- What a read answers on the reader's bus. DESIGN CHOICE, log entry 18. -/
def State.answer (x : State × Word) : State :=
  { x.1 with out := { x.1.out with readData := some x.2 } }

/-- The read of RD_LO by the host: held while the carriage has not arrived (R264). -/
def State.hostLo (s : State) (q : Nat) : State :=
  let b := (s.queue q).buf
  if b.idx < b.words.length ∧ b.ready s.now = false then
    let s := s.updQueue q (fun x => { x with buf := { b with held := true } })
    { s with out := { s.out with readData := none } }
  else State.answer (s.readLo q)

/-- A read port of a queue page by a path: the sequencer reads 0 with no effect (R351); no page above
queue 95 (R13). -/
def queueReadAct (s : State) (p : Path) (q off : Nat) (f : State → State) : Res :=
  readAct s p (queuePage q + off) (fun s =>
    if p = .seq ∨ 96 ≤ q then State.answer (s, 0) else f s)

/-- Q_POP (R262 to R264, R268). -/
def execQPop (p : Path) (q : Nat) (s : State) : Res :=
  queueReadAct s p q 0x18 (fun s => State.answer (s.readPop q))

/-- RD_LO (R264). -/
def execRdLo (p : Path) (q : Nat) (s : State) : Res :=
  queueReadAct s p q 0x1C (fun s => s.hostLo q)

/-- RD_HI (R264). -/
def execRdHi (p : Path) (q : Nat) (s : State) : Res :=
  queueReadAct s p q 0x20 (fun s => State.answer (s.readHi q))

/-- HELD_READ_COMPLETE (R264). -/
def execHeldReadComplete (q : Nat) (s : State) : Res :=
  let b := (s.queue q).buf
  actAt "queue" 96 q s (b.held && b.ready s.now) (fun s => State.answer (s.readLo q))

/-! ## Flushing and disabling (R266, R267) -/

/-- FLUSH written. -/
def State.startFlush (s : State) (q : Nat) : State :=
  s.updQueue q (fun x => { x with flush := true, flushAt := if x.flush then x.flushAt else s.now })

/-- FLUSH (R266). -/
def execFlush (p : Path) (q : Nat) (s : State) : Res :=
  act s (decide (q < 96)) (fun s => s.gate p (queuePage q + 0x14) (fun s => s.startFlush q))

/-- A task's register written; G0 keeps nothing (R339). -/
def Task.setG (t : Task) (d : Nat) (v : Word) : Task := if d = 0 then t else { t with g := tput t.g d v }

/-- The first sequencer cycle that begins after this die tick (R355). -/
def State.cycleAfter (s : State) : Nat := s.now + 2 - (s.now - s.seq.startAt) % 2

/-- A wait other than a timed one ends in this die tick with a result (R336, R355). -/
def State.endWait (s : State) (t d : Nat) (v : Word) : State :=
  s.updTask t (fun k => { k.setG d v with
    state := .ready, readyAt := s.cycleAfter, wokeAt := some s.now,
    stopDue := if k.stopDue = 3 then 2 else k.stopDue })

/-- A push that waits for grant into a queue now disabled is refused (R364). -/
def State.refusePush (s : State) (q t : Nat) : State :=
  match (s.task t).state with
  | .waiting (.push q' d _ _ ready) => if q' = q ∧ ready ≤ s.now then s.endWait t d 1 else s
  | _ => s

/-- A queue becomes disabled, as the flush of the write takes effect: what waits for it is discarded or refused
(R256, R267). DEDUCED, log entry 34. -/
def State.queueDisabled (s : State) (q : Nat) : State :=
  let gone := sumL (s.pool.waiting.map (fun e => e.2.countP (fun f => f.queue == q)))
    + s.pool.reports.countP (fun e => e.2.queue == q)
  let s := { s with
    pool := { s.pool with
      waiting := (s.pool.waiting.map (fun e => (e.1, e.2.filter (fun f => f.queue != q)))).filter
        (fun e => !e.2.isEmpty),
      reports := s.pool.reports.filter (fun e => e.2.queue != q),
      unrouted := satAdd 0xFFFF s.pool.unrouted gone },
    seq := { s.seq with pushes := s.seq.pushes.filter (fun p => p.queue != q) } }
  [0, 1, 2, 3].foldl (fun s t => s.refusePush q t) s

/-- FLUSH_DONE (R266, R267): in a die tick after the write no coach of the queue is partly written; a queue whose
ENABLE was written 0 is disabled with it. DEDUCED, log entry 34. -/
def execFlushDone (q : Nat) (s : State) : Res :=
  let x := s.queue q
  actAt "queue" 96 q s (x.flush && decide (x.flushAt < s.now) && x.coaches.all (·.complete s.now)) (fun s =>
    let s := (s.updQueue q (fun x => { x with
      coaches := [], pos := 0, markAt := none, flush := false })).raiseQ q 0x40
    if bit x.cfg 0 then s else s.queueDisabled q)

/-- The writable bits of Q_CFG: RSVD classes 0, 8, 14 and 15; RO fields of queues 0 and 1; FLIGHT and
CONSUMER only while ENABLE is 0 (R267, R279). -/
def qCfgMask (q : Nat) (enabled : Bool) : Word :=
  if q < 2 then 0x00007FF0 else if enabled then 0x3EFE7FF1 else 0x3EFE7FF7

/-- A write of Q_CFG. -/
def State.writeQCfg (s : State) (q : Nat) (v : Word) : State :=
  let x := s.queue q
  let new := rwBits (qCfgMask q (bit x.cfg 0)) x.cfg v
  let s := s.setQueue q { x with
    cfg := new, cfgOld := if x.cfgAt = some s.now then x.cfgOld else x.cfg, cfgAt := some s.now }
  if bit x.cfg 0 && !bit new 0 then s.startFlush q else s

/-- Q_DISABLE (R267): the other fields as they stand. -/
def execQDisable (p : Path) (q : Nat) (s : State) : Res :=
  act s (decide (q < 96)) (fun s => s.gate p (queuePage q) (fun s =>
    s.writeQCfg q ((s.queue q).cfg &&& 0xFFFFFFFE)))

/-! ## Flight-recorder mode (R270 to R272), counts, peak -/

/-- MARK written (R270, R272). -/
def State.markQueue (s : State) (q : Nat) : State :=
  if bit (s.queue q).cfg 1 then
    s.updQueue q (fun x => { x with markAt := some x.pos, marked := some (s.now, x.markAt) })
  else s.raiseQ q 0x100

/-- REWIND written (R272). -/
def State.rewindQueue (s : State) (q : Nat) : State :=
  let x := s.queue q
  if bit x.cfg 1 then
    match x.markAt with
    | some m => s.setQueue q { x with pos := m, rewound := some (s.now, x.pos) }
    | none => s.raiseQ q 0x20
  else s.raiseQ q 0x100

/-- CLR_COUNTS written (R279): a drop or an overrun of this die tick comes after it (R277). -/
def State.clearQueueCounts (s : State) (q : Nat) : State :=
  let n := tget (0, 0) s.log.qLost q
  s.updQueue q (fun x => { x with drops := n.1, overruns := n.2, count := 0 })

/-- A write of Q_CTL: MARK and REWIND, then the flush (R277). -/
def State.writeQCtl (s : State) (q : Nat) (v : Word) : State :=
  let s := if bit v 1 then s.markQueue q else s
  let s := if bit v 2 then s.rewindQueue q else s
  let s := if bit v 0 then s.startFlush q else s
  if bit v 3 then s.clearQueueCounts q else s

/-- MARK (R270). -/
def execMark (p : Path) (q : Nat) (s : State) : Res :=
  act s (decide (q < 96)) (fun s => s.gate p (queuePage q + 0x14) (fun s => s.markQueue q))

/-- REWIND (R272). -/
def execRewind (p : Path) (q : Nat) (s : State) : Res :=
  act s (decide (q < 96)) (fun s => s.gate p (queuePage q + 0x14) (fun s => s.rewindQueue q))

/-- CLR_COUNTS (R279). -/
def execClrCounts (p : Path) (q : Nat) (s : State) : Res :=
  act s (decide (q < 96)) (fun s => s.gate p (queuePage q + 0x14) (fun s => s.clearQueueCounts q))

/-- CLR_PEAK written (R279). -/
def State.clearPeak (s : State) : State := { s with pool := { s.pool with peak := s.inUse } }

/-- A write of POOL_CFG: LK fields until the seal (R14). -/
def State.writePoolCfg (s : State) (v : Word) : State :=
  let s := if s.lc.sealed then s
    else { s with pool := { s.pool with cfg := rwBits 0x0FFF0FFF s.pool.cfg v } }
  if bit v 31 then s.clearPeak else s

/-- CLR_PEAK (R279). -/
def execClrPeak (p : Path) (s : State) : Res :=
  writeAct s p (queuePage 0 + 0x34) State.clearPeak

/-! ## The debug window (R278) -/

/-- A producer writes this cart in this die tick (R277). -/
def State.cartWritten (s : State) (n : Nat) : Bool :=
  s.pool.writing.any (fun w => w.coach.cartOf (w.next - 1) == n)
    || (List.range 96).any (fun q => (s.queue q).coaches.any (fun c =>
      c.grantAt == s.now && c.cartOf 0 == n))

/-- A word written through the debug window at a byte address of the pool. DEDUCED, log entry 34. -/
def State.writeDebug (s : State) (a : Nat) (v : Word) : State :=
  if s.cartWritten (a / 32) then s
  else { s with pool := { s.pool with carts := writeWord s.pool.carts a v } }

/-- POOL_DEBUG_WRITE (R277, R278). -/
def execPoolDebugWrite (p : Path) (off : Nat) (v : Word) (s : State) : Res :=
  act s (decide (0x40000 ≤ off) && decide (off < 0x60000) && off % 4 == 0) (fun s =>
    s.gate p off (fun s => s.writeDebug (off - 0x40000) v))

/-! ## Coalescing (R273 to R275) -/

/-- IN_USE as a die tick begins, and whether it exceeds COAL_ON (R273). -/
def State.poolUse (s : State) : State :=
  let n := s.inUse
  let due := !s.pool.coal && decide (fld s.pool.cfg 0 12 < n)
  { s with pool := { s.pool with
    startUse := n, coalDue := !s.pool.coal && (s.pool.coalDue || due),
    coalAt := if due && !s.pool.coalDue then s.tick else s.pool.coalAt } }

/-- COALESCE_START (R273): IN_USE at the end of a die tick before exceeded COAL_ON. DEDUCED, log entry 35. -/
def execCoalesceStart (s : State) : Res :=
  act s (!s.pool.coal && s.pool.coalDue) (fun s =>
    { s with pool := { s.pool with
      coal := true, coalDue := false, entries := satAdd 0xFFFF s.pool.entries 1 } })

/-- COALESCE_BOUNDARY (R274, R275): COAL judged on IN_USE at the start of the die tick, then the
histogram coaches of the span that has ended. DEDUCED, log entry 35. -/
def execCoalesceBoundary (s : State) : Res :=
  act s (s.reached 1024 0) (fun s =>
    let s := if s.pool.startUse < s.pool.coalOff then
        { s with pool := { s.pool with coal := false, coalDue := false } }
      else s
    ((List.range 208).filter (fun r => s.regions.any (·.1 == r))).foldl
      (fun s r => s.histCoach (s.tick - 1024) r) s)

/-! ## The pages (R279) -/

/-- Q_STATUS. -/
def State.qStatus (s : State) (q : Nat) : Word :=
  let x := s.queue q
  packW [(0, 13, (s.queueCarts q).length), (13, 1, b2n x.markAt.isSome), (14, 1, b2n x.flush),
    (15, 1, b2n (x.head s.now).isSome), (16, 13, x.coaches.length - x.pos)]

/-- POOL_STATUS. -/
def State.poolStatus (s : State) : Word :=
  packW [(0, 13, s.inUse), (13, 1, b2n s.coalescing), (14, 1, b2n (decide (4096 ≤ s.inUse))),
    (16, 13, s.pool.peak)]

/-- A register of a queue page without a read effect. -/
def State.queueRead (s : State) (q off : Nat) : Word :=
  let x := s.queue q
  match off with
  | 0x00 => x.cfg
  | 0x04 => packW [(0, 13, x.maxCarts)]
  | 0x08 => s.qStatus q
  | 0x0C => x.event
  | 0x10 => x.eventEn
  | 0x24 => packW [(0, 16, x.drops), (16, 16, x.overruns)]
  | 0x28 => x.count
  | 0x30 => s.poolStatus
  | 0x34 => s.pool.cfg
  | 0x38 => packW [(0, 16, s.pool.drops), (16, 16, s.pool.unrouted)]
  | 0x3C => packW [(0, 16, s.pool.entries), (16, 16, s.pool.hists)]
  | _ => 0

end Sys2Proof.Machine
end

