-- ==== Sys2Proof/Machine/Couplers.lean ====
section
/-! DEFINITION. Couplers and spare lanes (chapter 07). -/

namespace Sys2Proof.Machine

open Sys2Proof

def evHeld : Word := oneBit 0
def evDrained : Word := oneBit 1
def evHoldSlow : Word := oneBit 2
def evStallLong : Word := oneBit 3
def evParErr : Word := oneBit 4
def evPtrErr : Word := oneBit 5
def evCplRefused : Word := oneBit 6
def evSwapped : Word := oneBit 7

/-- The coupler idle word of a lane (R206). -/
def idleWord : DWord := 0x1D1E1D1E1D1E1D1E

/-- Lanes, owning region, far region of a function; the spare lane of its group (R10, R36, R203).
DESIGN CHOICE, log entry 5. -/
def cplLaneCount (i : Nat) : Nat := Config.cplLanes i % 16 + 1
def cplOwner (i : Nat) : Nat := i / 4
def cplFarRegion (i : Nat) : Nat := Config.cplFar i % 208
def cplSpare (i : Nat) : Nat := 832 + i / 8

/-- An end of a function is this region. -/
def cplTouches (i r : Nat) : Bool := cplOwner i == r || cplFarRegion i == r

/-- A payload of exactly the function's lanes. -/
def cplPayload (i : Nat) (l : List DWord) : List DWord :=
  (List.range (cplLaneCount i)).map (fun k => l.getD k 0)

/-- The shutter of a side's region is closed: side false is the owner. -/
def State.sideClosed (s : State) (i : Nat) (far : Bool) : Bool :=
  !(s.region (if far then cplFarRegion i else cplOwner i)).racg.shutter

/-- The depth in force follows SYNC3 where the state lets it (R209). -/
def Coupler.syncFix (c : Coupler) : Coupler :=
  match c.state with
  | .disabled | .held | .drained => { c with syncNow := c.sync3 }
  | .flowing | .holding | .draining => c

/-- CPL_STALL (R215). -/
def Coupler.stall (c : Coupler) (now : Nat) : Nat :=
  sat 0xFFFFFFFF (c.stallTk + (if c.wrPend.isSome then now - c.stallFrom else 0))

/-- The pending write ends. -/
def Coupler.endPend (c : Coupler) (now : Nat) : Coupler :=
  { c with wrPend := none, stallTk := c.stall now }

def Coupler.discard (c : Coupler) (n : Nat) : Coupler := { c with discards := satAdd 0xFFFF c.discards n }

/-- A pointer check (R213). DEDUCED, log entry 31. -/
def Coupler.check (c : Coupler) (bad : Bool) : Coupler :=
  if bad then { c with ptrBad := true, ptrErrs := satAdd 0xFF c.ptrErrs 1 } else { c with ptrBad := false }

/-! ## Pointers and edges (R208, R211) -/

/-- The 5-bit Gray code, and the number it stands for. -/
def gray (n : BitVec 5) : BitVec 5 := n ^^^ (n >>> 1)
def ungray (g : BitVec 5) : BitVec 5 := g ^^^ (g >>> 1) ^^^ (g >>> 2) ^^^ (g >>> 3) ^^^ (g >>> 4)
/-- One Gray step. -/
def grayStep (g : BitVec 5) : BitVec 5 := gray (ungray g + 1)
/-- Entries between two pointers. -/
def grayGap (ahead behind : BitVec 5) : Nat := (ungray ahead - ungray behind).toNat

/-- SYNC: the stages in force (R209, R211). -/
def Coupler.sync (c : Coupler) : Nat := if c.syncNow then 3 else 2

/-- An edge of this side: steps of the other pointer that have passed the stages are seen, one edge later
where the sample caught the old value. DEDUCED, log entry 31. -/
def CplSide.edge (x : CplSide) (sync : Nat) (late : Bool) : CplSide :=
  let e := x.edges + 1
  let through := fun t => decide (t + sync + 1 + b2n late ≤ e)
  { x with edges := e, due := x.due.filter (fun t => !through t),
           sees := (x.due.filter through).foldl (fun g _ => grayStep g) x.sees }

/-- The other side's pointer makes a step, which this side does not see yet. -/
def CplSide.told (x : CplSide) : CplSide := { x with due := x.due ++ [x.edges] }
/-- This side's pointer makes a step. -/
def CplSide.move (x : CplSide) : CplSide := { x with ptr := grayStep x.ptr }

/-- Unread entries as the write side sees them (R205, R214). -/
def Coupler.unread (c : Coupler) : Nat := grayGap c.wr.ptr c.wr.sees
/-- An entry is visible to the read side (R204). -/
def Coupler.visible (c : Coupler) : Bool := decide (0 < grayGap c.rd.sees c.rd.ptr)

/-- Both pointers at 0 (R218, R221). -/
def Coupler.zero (c : Coupler) : Coupler := { c with
  wr := { c.wr with ptr := 0, sees := 0, due := [] }, rd := { c.rd with ptr := 0, sees := 0, due := [] } }

/-- The stopped side's pointer is set equal to the live side's (R219). -/
def Coupler.level (c : Coupler) (writes : Bool) : Coupler :=
  let p := if writes then c.wr.ptr else c.rd.ptr
  { c with wr := { c.wr with ptr := p, sees := p, due := [] }, rd := { c.rd with ptr := p, sees := p, due := [] } }

/-- The write side is the side `far` (R203), and the live side of a drain the one SIDE does not name. -/
def Coupler.liveWrites (c : Coupler) (dir : Bool) : Bool := c.stopSide != dir

/-- The flag of HOLD, RELEASE or DRAIN at an edge of the side it goes to: it leaves in the tick after
acceptance, crosses SYNC + 1 edges, and is applied 7 tk after acceptance at the latest (R218, R219).
DEDUCED, log entry 31. -/
def Coupler.flagEdge (c : Coupler) (now : Nat) : Coupler :=
  match c.flight with
  | none => c
  | some t =>
    if now ≤ t then c
    else if c.sync < c.crossed + 1 ∨ t + 7 ≤ now then
      match c.state with
      | .draining => { c with flight := none, moded := true, modedAt := now }
      | .holding => { c with flight := none, hold := true }
      | _ => { c with flight := none, hold := false }
    else { c with crossed := c.crossed + 1 }

/-- A flag is sent (R218, R219). -/
def Coupler.sendFlag (c : Coupler) (now : Nat) : Coupler := { c with flight := some now, crossed := 0 }

/-- The hold is in force at the write side, 7 tk after its acceptance at the latest (R218). -/
def Coupler.held (c : Coupler) (now : Nat) : Bool := c.hold || decide (c.holdAt + 7 ≤ now)

/-- A write takes a place in the queue. -/
def Coupler.push (c : Coupler) (e : List DWord) : Coupler := { c with
  entries := c.entries ++ [e], peak := max c.peak (c.entries.length + 1), wr := c.wr.move, rd := c.rd.told }

/-- The oldest entry is read, or discarded. -/
def Coupler.pull (c : Coupler) : Coupler := { c with
  entries := c.entries.tail, rd := c.rd.move, wr := c.wr.told }

/-- A write stays pending, the writer holding its entry (R205). -/
def Coupler.pend (c : Coupler) (now : Nat) (e : List DWord) : Coupler :=
  if c.wrPend.isSome then c else { c with wrPend := some e, wrPendAt := now, stallFrom := now, stallDone := false }

/-- An entry stands at a write-side edge (R205, R213, R216, R219): it completes into the queue, is
discarded, or stays pending. -/
def Coupler.offer (c : Coupler) (now : Nat) (writes : Bool) (e : List DWord) : Coupler :=
  match c.state with
  | .disabled | .drained => (c.endPend now).discard 1
  | .held => c.pend now e
  | .draining =>
    if writes = false then c.pend now e
    else if c.moded then (c.endPend now).discard 1
    else if c.hold = false ∧ c.unread < 16 ∧ c.ptrBad = false then (c.endPend now).push e
    else c.pend now e
  | .flowing | .holding =>
    if c.hold = false ∧ c.unread < 16 ∧ c.ptrBad = false then (c.endPend now).push e
    else c.pend now e

/-- The read side delivers entries (R204, R216, R219). -/
def Coupler.delivers (c : Coupler) (reads : Bool) : Bool :=
  match c.state with
  | .flowing | .holding => true
  | .draining => reads && !c.moded
  | .disabled | .held | .drained => false

/-- The clock of the region of a side runs: its shutter is open and its oscillator has not stopped
(R111, R122). -/
def State.sideRuns (s : State) (i : Nat) (far : Bool) : Bool :=
  let g := (s.region (if far then cplFarRegion i else cplOwner i)).racg
  g.shutter && !g.stopped

/-- COUPLER_WRITE (R205, R208, R211, R213, R215, R216): one write-side edge, with an entry offered or
none; a pending entry is the one that stands at the edge. A stopped side has no edge. DEDUCED, log
entry 31. -/
def execCouplerWrite (i : Nat) (req : Bool) (lanes : List DWord) (late ptrBad : Bool) (s : State) : Res :=
  actAt "coupler" 832 i s (s.sideRuns i (Config.cplDir i)) (fun s =>
    let s := s.updCpl i (fun c =>
      let c := { c with wr := c.wr.edge c.sync late }
      let live := c.liveWrites (Config.cplDir i)
      let c := if c.state ≠ .draining ∨ live = true then c.flagEdge s.now else c
      let c := c.check ptrBad
      match c.wrPend with
      | some e => c.offer s.now live e
      | none => if req then c.offer s.now live (cplPayload i lanes) else c)
    if ptrBad then s.raiseCpl i evPtrErr else s)

/-- COUPLER_READ (R204, R206, R207, R208, R211, R213): one read-side edge, with a read request or none;
`badLanes` are the lanes of the entry whose parity fails there. DEDUCED, log entry 31. -/
def execCouplerRead (i : Nat) (req late : Bool) (badLanes : List Nat) (ptrBad : Bool) (s : State) : Res :=
  actAt "coupler" 832 i s (s.sideRuns i (!Config.cplDir i)) (fun s =>
    let reads := !(s.cpl i).liveWrites (Config.cplDir i)
    let s := s.updCpl i (fun c =>
      let c := { c with rd := c.rd.edge c.sync late }
      (if c.state = .draining ∧ reads = true then c.flagEdge s.now else c).check ptrBad)
    let s := if ptrBad then s.raiseCpl i evPtrErr else s
    let c := s.cpl i
    if req = false then s
    else if c.delivers reads = true ∧ c.visible = true ∧ ptrBad = false then
      let bad := (badLanes.filter (fun k => decide (k < cplLaneCount i))).eraseDups
      let s := s.updCpl i (fun c => { c.pull with parErrs := satAdd 0xFF c.parErrs bad.length })
      let s := { s with out := { s.out with cplRead := some (c.entries.headD [], bad, false) } }
      if bad = [] then s else s.raiseCpl i evParErr
    else { s with out := { s.out with
      cplRead := some (List.replicate (cplLaneCount i) idleWord, [], true) } })

/-! ## Commands (R218) -/

/-- No command is accepted while ENABLING or SWAPPING (R218). -/
def Coupler.busy (c : Coupler) : Bool := c.enableAt.isSome || c.swapAt.isSome

def State.cplRefuse (s : State) (i : Nat) : State := s.raiseCpl i evCplRefused

def State.cplEnableCmd (s : State) (i : Nat) : State :=
  let c := s.cpl i
  if (c.state = .disabled ∨ c.state = .drained)
      ∧ (s.sideClosed i false = true ∨ s.sideClosed i true = true) then
    s.setCpl i { c.zero with entries := [], ptrBad := false, enableAt := some s.now }
  else s.cplRefuse i

def State.cplDrainCmd (s : State) (i : Nat) (side : Bool) : State :=
  let c := s.cpl i
  if (c.state = .flowing ∨ c.state = .holding ∨ c.state = .held) ∧ s.sideClosed i side = true then
    s.setCpl i { c.sendFlag s.now with
      state := .draining, stopSide := side, drainAt := s.now, moded := false }
  else s.cplRefuse i

def State.cplHoldCmd (s : State) (i : Nat) : State :=
  let c := s.cpl i
  if c.state = .flowing then
    s.setCpl i { c.sendFlag s.now with state := .holding, holdAt := s.now, slowDone := false }
  else s.cplRefuse i

def State.cplReleaseCmd (s : State) (i : Nat) : State :=
  let c := s.cpl i
  if c.state = .held then s.setCpl i { c.sendFlag s.now with state := .flowing, hold := true }
  else s.cplRefuse i

/-- HELD, DRAINED or DISABLED. -/
def CplState.still : CplState → Bool
  | .disabled => true
  | .held => true
  | .drained => true
  | .flowing => false
  | .holding => false
  | .draining => false

/-- SWAP (R218, R221): the lane is reserved at once. -/
def State.cplSwapCmd (s : State) (i : Nat) : State :=
  let c := s.cpl i
  let lane := s.cpl (cplSpare i)
  if c.state.still = true ∧ c.onSpare = false ∧ lane.reserved = none ∧ lane.standsFor = none then
    (s.setCpl i { c.zero with swapAt := some (s.now, true) }).setCpl (cplSpare i)
      { lane with reserved := some i }
  else s.cplRefuse i

def State.cplUnswapCmd (s : State) (i : Nat) : State :=
  let c := s.cpl i
  if c.state.still = true ∧ c.onSpare = true then
    s.setCpl i { c.zero with swapAt := some (s.now, false) }
  else s.cplRefuse i

def State.cplDisableCmd (s : State) (i : Nat) : State :=
  let c := s.cpl i
  if c.state = .held ∨ c.state = .drained then
    s.setCpl i ({ c with state := .disabled } : Coupler).syncFix
  else s.cplRefuse i

/-- A write of CPL_CMD; a spare lane's page refuses every command (R222). -/
def State.cplCommand (s : State) (i code : Nat) (side : Bool) : State :=
  if code = 0 then s
  else if 832 ≤ i ∨ (s.cpl i).busy = true then s.cplRefuse i
  else
    match code with
    | 1 => s.cplEnableCmd i
    | 2 => s.cplDrainCmd i side
    | 3 => s.cplHoldCmd i
    | 4 => s.cplReleaseCmd i
    | 5 => s.cplSwapCmd i
    | 6 => s.cplUnswapCmd i
    | 7 => s.cplDisableCmd i
    | _ => s.cplRefuse i

/-- A write of CPL_CMD by a path. -/
def cplWrite (s : State) (p : Path) (i code : Nat) (side : Bool) : Res :=
  act s (decide (i < 936)) (fun s => s.gate p (cplPage i + 0x04) (fun s =>
    if code = 5 ∧ s.frozen p = true then s else s.cplCommand i code side))

/-- CPL_ENABLE (R218). -/
def execCplEnable (p : Path) (i : Nat) (s : State) : Res := cplWrite s p i 1 false

/-- CPL_DRAIN (R218, R219). -/
def execCplDrain (p : Path) (i : Nat) (side : Bool) (s : State) : Res := cplWrite s p i 2 side

/-- CPL_HOLD (R218). -/
def execCplHold (p : Path) (i : Nat) (s : State) : Res := cplWrite s p i 3 false

/-- CPL_RELEASE (R218). -/
def execCplRelease (p : Path) (i : Nat) (s : State) : Res := cplWrite s p i 4 false

/-- CPL_SWAP (R218, R221). -/
def execCplSwap (p : Path) (i : Nat) (s : State) : Res := cplWrite s p i 5 false

/-- CPL_UNSWAP (R218, R221). -/
def execCplUnswap (p : Path) (i : Nat) (s : State) : Res := cplWrite s p i 6 false

/-- CPL_DISABLE (R218). -/
def execCplDisable (p : Path) (i : Nat) (s : State) : Res := cplWrite s p i 7 false

/-- CPL_RESERVED_CMD (R218, R222): codes 8 to 15, or any command on a spare lane's page. -/
def execCplReservedCmd (p : Path) (i code : Nat) (s : State) : Res :=
  if (8 ≤ code ∧ code ≤ 15) ∨ (832 ≤ i ∧ 1 ≤ code ∧ code ≤ 15) then cplWrite s p i code false
  else .next s

/-! ## Completions -/

/-- ENABLE_COMPLETE (R218). -/
def execEnableComplete (i : Nat) (s : State) : Res :=
  actAt "coupler" 832 i s (s.cpl i).enableAt.isSome (fun s =>
    s.updCpl i (fun c => { c.zero with
      state := .flowing, enableAt := none, hold := false, moded := false, flight := none }))

/-- The unread entries are discarded and the coupler is DRAINED (R219). -/
def State.drainDone (s : State) (i : Nat) : State :=
  (s.updCpl i (fun c => ({ (c.discard c.entries.length).level (c.liveWrites (Config.cplDir i)) with
    state := .drained, entries := [], ptrBad := false, hold := false, flight := none }
      : Coupler).syncFix)).raiseCpl i evDrained

/-- DRAIN can complete (R219): both shutters closed, at +2; else two die ticks at least after the live
side, whose pointer then stands, has applied its mode. DEDUCED, log entry 31. -/
def State.drainReady (s : State) (i : Nat) : Bool :=
  let c := s.cpl i
  c.state == .draining
    && decide (c.drainAt + 2 ≤ s.now)
    && ((s.sideClosed i false && s.sideClosed i true) || (c.moded && decide (c.modedAt + 2 ≤ s.now))
        || decide (c.drainAt + 9 ≤ s.now))

/-- DRAINED (R219). -/
def execDrained (i : Nat) (s : State) : Res :=
  actAt "coupler" 832 i s (s.drainReady i) (fun s => s.drainDone i)

/-- HELD (R216): the queue is empty and no write can complete (R220). DEDUCED, log entry 31. -/
def execHeld (i : Nat) (s : State) : Res :=
  actAt "coupler" 832 i s ((s.cpl i).state == .holding && (s.cpl i).entries.isEmpty
      && (s.cpl i).held s.now) (fun s =>
    (s.updCpl i (fun c => ({ c with
      state := .held, hold := true, flight := none } : Coupler).syncFix)).raiseCpl i evHeld)

/-- HOLD_SLOW (R216). -/
def execHoldSlow (i : Nat) (s : State) : Res :=
  let c := s.cpl i
  actAt "coupler" 832 i s (c.state == .holding && !c.slowDone && decide (c.holdAt + 1024 ≤ s.now)) (fun s =>
    (s.updCpl i (fun c => { c with slowDone := true })).raiseCpl i evHoldSlow)

/-- SWAPPED (R221). -/
def execSwapped (i : Nat) (s : State) : Res :=
  actAt "coupler" 832 i s (s.cpl i).swapAt.isSome (fun s =>
    match (s.cpl i).swapAt with
    | some (_, true) =>
      ((s.updCpl i (fun c => { c with swapAt := none, onSpare := true })).updCpl (cplSpare i)
        (fun l => { l with standsFor := some i })).raiseCpl i evSwapped
    | some (_, false) =>
      ((s.updCpl i (fun c => { c with swapAt := none, onSpare := false })).updCpl (cplSpare i)
        (fun l => { l with standsFor := none, reserved := none })).raiseCpl i evSwapped
    | none => s)

/-- STALL_LONG (R215). -/
def execStallLong (i : Nat) (s : State) : Res :=
  let c := s.cpl i
  actAt "coupler" 832 i s (c.wrPend.isSome && !c.stallDone && decide (c.limit ≠ 0)
      && decide (c.wrPendAt + c.limit ≤ s.now)) (fun s =>
    (s.updCpl i (fun c => { c with stallDone := true })).raiseCpl i evStallLong)

/-- CLR_STATS of a function's page; ignored on a spare lane's (R222, R224). -/
def State.clearStats (s : State) (i : Nat) : State :=
  if i < 832 then
    s.updCpl i (fun c => { c with
      peak := 0, stallTk := 0, stallFrom := s.now, discards := 0, parErrs := 0, ptrErrs := 0 })
  else s

/-- CLR_STATS (R224). -/
def execClrStats (p : Path) (i : Nat) (s : State) : Res :=
  act s (decide (i < 936)) (fun s => s.gate p (cplPage i + 0x1C) (fun s => s.clearStats i))

/-! ## The page (R224) -/

/-- Lanes in service (SPARE_USE.LANE_SPARES). -/
def State.laneSpares (s : State) : Nat := s.cpls.countP (fun e => e.2.standsFor.isSome)

/-- The members of a spare lane's group (R10), and the LANES field of a page: a spare lane's is that of
the widest member (R220, "Spare lanes"). -/
def cplMembers (i : Nat) : List Nat := (List.range 8).map (fun k => 8 * (i - 832) + k)
def cplLanesField (i : Nat) : Nat :=
  if i < 832 then Config.cplLanes i % 16
  else (cplMembers i).foldl (fun m j => max m (Config.cplLanes j % 16)) 0

/-- CPL_CFG: on a spare lane the DIR and far region of the function served (R222), and the page's own
SYNC3. -/
def State.cplCfg (s : State) (i : Nat) : Word :=
  let c := s.cpl i
  if i < 832 then
    packW [(0, 8, cplFarRegion i), (8, 1, b2n (Config.cplDir i)), (9, 4, cplLanesField i),
      (16, 1, b2n c.sync3)]
  else
    match c.standsFor with
    | some j => packW [(0, 8, cplFarRegion j), (8, 1, b2n (Config.cplDir j)), (9, 4, cplLanesField i),
        (16, 1, b2n c.sync3)]
    | none => packW [(0, 8, 0xFF), (9, 4, cplLanesField i), (16, 1, b2n c.sync3)]

/-- CPL_STATE. -/
def State.cplStateWord (s : State) (i : Nat) : Word :=
  let c := s.cplShown i
  packW [(0, 3, c.state.code), (3, 1, b2n c.onSpare), (4, 1, b2n c.syncNow), (5, 1, b2n c.stopSide),
    (6, 1, b2n c.wrPend.isSome), (7, 1, b2n c.enableAt.isSome), (8, 5, c.occ), (16, 5, max c.peak c.occ),
    (21, 1, b2n c.swapAt.isSome), (22, 10, if i < 832 then 0x3FF else (s.cpl i).standsFor.getD 0x3FF)]

/-- The word at an offset of a coupler page. -/
def State.cplRead (s : State) (i off : Nat) : Word :=
  let c := s.cpl i
  match off with
  | 0x00 => s.cplCfg i
  | 0x08 => s.cplStateWord i
  | 0x0C => c.event
  | 0x10 => c.eventEn
  | 0x14 => packW [(0, 32, (s.cplShown i).stall s.now)]
  | 0x18 => let f := s.cplShown i
    packW [(0, 16, f.discards), (16, 8, f.parErrs), (24, 8, f.ptrErrs)]
  | 0x1C => packW [(0, 16, c.limit)]
  | _ => 0

end Sys2Proof.Machine
end

