-- ==== Sys2Proof/Machine/Doors.lean ====
section
/-! DEFINITION. The gear table, voltages, and door slots: GO, arming, cancelling, settle check
(chapter 06). -/

namespace Sys2Proof.Machine

open Sys2Proof

/-! ## Gear table and voltages (R182 to R188) -/

/-- MV of a gear entry. -/
def State.gearMv (s : State) (g : Nat) : Nat := fld (tget (0 : Word) s.doors.gearB g) 0 16

/-- A slot is not in IDLE, COMPLETE or CANCELLED. -/
def SlotState.busy : SlotState → Bool
  | .idle => false
  | .complete => false
  | .cancelled => false
  | .arming => true
  | .armed => true
  | .cancelling => true
  | .opened => true

/-- An entry is held by a region, armed, or a slot's target (R183). -/
def State.gearInUse (s : State) (g : Nat) : Bool :=
  s.regions.any (fun e => e.2.racg.state != .off
      && (e.2.racg.gear == g || (e.2.racg.armed && e.2.racg.armGear == g)))
    || (List.range 4).any (fun k => (s.slot k).state.busy && (s.slot k).target == g)

/-- The entry's value is written. -/
def State.putGear (s : State) (g : Nat) (high : Bool) (v : Word) : State :=
  if high then { s with doors := { s.doors with gearB := tput s.doors.gearB g (v &&& 0xFFFF) } }
  else { s with doors := { s.doors with gearA := tput s.doors.gearA g (v &&& 0x0FFF003F) } }

/-- CONFIRMED[n] (R186). -/
def State.confirmedMv (s : State) (n : Nat) : Nat := (s.avs n).confirmed

/-- CONFIRMED[n] as it was before this die tick (R201). -/
def State.confirmedWas (s : State) (n : Nat) : Nat :=
  if (s.avs n).endAt = some s.now then (s.avs n).confWas else s.confirmedMv n

/-- What a region asks of its rail (R185). -/
def State.regionNeed (s : State) (r : Nat) (g : Racg) : Nat :=
  if g.state = .off ∨ g.state = .bypass then 0
  else
    max (max (s.gearMv g.gear) (if g.armed then s.gearMv g.armGear else 0))
      (max (if g.state = .ramp then s.gearMv g.ceilGear else 0)
        (maxL ((List.range 4).map (fun k =>
          let d := s.slot k
          if (d.state = .arming ∨ d.state = .armed) ∧ d.set.getLsbD r = true then s.gearMv d.target
          else 0))))

/-- RAIL_NEED[n] (R185). -/
def State.railNeed (s : State) (n : Nat) : Nat :=
  maxL (s.regions.map (fun e =>
    if s.fc.regionRail e.1 = some n then s.regionNeed e.1 e.2.racg else 0))

/-! ## GO (R188, R190, R196) -/

/-- The VOLTAGE check refuses (R188). -/
def State.voltageShort (s : State) (set : RegionSet) (target : Nat) : Bool :=
  bit s.doors.cfg 0 && decide (s.gearMv target ≠ 0)
    && (setList set).any (fun r => match s.fc.regionRail r with
        | some n => decide (s.confirmedWas n < s.gearMv target)
        | none => false)

/-- The lead of a door from TICK lies within 128 tk and 2^24 tk (R190). -/
def State.leadOk (s : State) (door : DWord) : Bool :=
  s.ref.tickValid && decide (s.tk + 128 ≤ door.toNat) && decide (door.toNat ≤ s.tk + 2 ^ 24)

/-- The set meets that of another busy slot. -/
def State.overlaps (s : State) (k : Nat) (set : RegionSet) : Bool :=
  (List.range 4).any (fun j => j != k && (s.slot j).state.busy && ((s.slot j).set &&& set) != 0)

/-- The REASON a GO of slot `k` is refused for, 0 for none (R190). -/
def State.goReason (s : State) (k : Nat) : Nat :=
  let d := s.slot k
  if d.state.busy then 1
  else if s.gearValid d.target = false then 2
  else if d.set = 0 then 3
  else if s.leadOk d.door = false then 4
  else if s.overlaps k d.set then 5
  else if s.voltageShort d.set d.target then 6
  else 0

/-- An accepted GO: the arm messages go out in the next tick (R190, R191, R196). -/
def DoorSlot.begin (d : DoorSlot) (now : Nat) (flag : Bool) : DoorSlot :=
  { d with
    ack := 0, exc := 0, aborted := false, reason := 0, flagged := flag, state := .arming,
    goAt := now, ackLast := 0, armOut := d.set, ackOut := 0, canOut := 0, canAckOut := 0, canAck := 0,
    ackAt := [], canAckAt := [],
    bypassed := 0, taken := 0, maxN := 0 }

/-- Slots above `k` whose GO of this die tick named a region of a set: the lower-numbered slot is judged first (R201). -/
def State.laterSlots (s : State) (k : Nat) (set : RegionSet) : List Nat :=
  (List.range 4).filter (fun j => decide (k < j) && s.log.slots.any (·.1 == j)
    && ((s.slot j).set &&& set) != 0)

/-- A slot is as it was before its GO of this die tick. -/
def State.undoGo (s : State) (j : Nat) : State :=
  let t := s.setSlot j (tget (s.slot j) s.log.slots j)
  { t with log := { t.log with slots := tdel t.log.slots j } }

/-- A GO is refused with a REASON. -/
def State.refuseGo (s : State) (k why : Nat) : State :=
  (s.updSlot k (fun d => { d with reason := why })).raiseSlot k evGoRefused

/-- The REASON a GO is refused for, 0 for none, GOs of this die tick on higher slots being set aside (R190, R201). -/
def State.goOutcome (s : State) (k : Nat) : Nat :=
  ((s.laterSlots k (s.slot k).set).foldl State.undoGo s).goReason k

/-- A GO is judged; GOs accepted in this die tick on higher slots that it overlaps are refused in its place
(R201). -/
def State.slotGoNow (s : State) (k : Nat) : State :=
  let d := s.slot k
  let later := s.laterSlots k d.set
  let t := later.foldl State.undoGo s
  let why := t.goReason k
  if why = 0 then
    let t := { t with log := { t.log with slots := tput t.log.slots k d } }
    later.foldl (fun s j => s.refuseGo j 5) (t.updSlot k (fun d => d.begin s.now (d.resync || s.ref.resync)))
  else s.refuseGo k why

/-- A write of GEAR_A or GEAR_B (R183): ignored after the seal; refused while the entry is in use. A GO of this die
tick on the entry is judged on what is written (R201). DEDUCED, log entry 30. -/
def State.writeGear (s : State) (g : Nat) (high : Bool) (v : Word) : State :=
  if s.lc.sealed then s
  else
    let gos := (List.range 4).filter (fun k => s.log.slots.any (·.1 == k) && (s.slot k).target == g)
    let t := gos.foldl State.undoGo s
    if t.gearInUse g then s.raiseDoorUnit 1 0xFF
    else gos.foldl State.slotGoNow (t.putGear g high v)

/-- GEAR_TABLE_WRITE (R183). -/
def execGearTableWrite (p : Path) (g : Nat) (high : Bool) (v : Word) (s : State) : Res :=
  act s (decide (g < 16)) (fun s =>
    s.gateRw p (0x02000 + 8 * g + (if high then 4 else 0))
      (if high then tget 0 s.doors.gearB g else tget (gearReset g) s.doors.gearA g)
      (fun s => s.writeGear g high v))

/-- A cancel starts: it goes to every region of the set in the next tick (R192 to R194).
DEDUCED, log entry 30. -/
def DoorSlot.cancel (d : DoorSlot) (now : Nat) : DoorSlot :=
  { d with state := .cancelling, canOut := d.set, canAt := now + 1, canAck := 0, canAckOut := 0 }

/-- An ABORT is judged (R194). DEDUCED, log entry 30. -/
def State.slotAbortNow (s : State) (k : Nat) : State :=
  let d := s.slot k
  if (d.state = .arming ∨ d.state = .armed) ∧ s.tk + 64 < d.door.toNat then
    s.setSlot k { d.cancel s.now with aborted := true }
  else (s.setSlot k { d with reason := 7 }).raiseSlot k evGoRefused

/-- The plain fields of SLOT_CTL: TARGET only while the slot is free (R189). -/
def State.writeSlotFields (s : State) (k target : Nat) (resync : Bool) : State :=
  s.updSlot k (fun d => { d with
    target := if d.state.busy then d.target else target % 16, resync := resync })

/-- A write of SLOT_CTL. -/
def State.writeSlotCtl (s : State) (k target : Nat) (resync go abort : Bool) : State :=
  let s := s.writeSlotFields k target resync
  let s := if go then s.slotGoNow k else s
  if abort then s.slotAbortNow k else s

/-- SLOT_GO (R190); the host's GO is without effect while the sequencer is halted (R30). -/
def execSlotGo (p : Path) (slot target : Nat) (resync : Bool) (s : State) : Res :=
  act s (decide (slot < 4)) (fun s =>
    s.gate p (slotPage slot) (fun s => s.writeSlotCtl slot target resync (!s.frozen p) false))

/-- SLOT_ABORT (R194): the other fields as they stand. -/
def execSlotAbort (p : Path) (slot : Nat) (s : State) : Res :=
  act s (decide (slot < 4)) (fun s =>
    s.gate p (slotPage slot) (fun s => s.slotAbortNow slot))

/-! ## Arming and cancelling (R191 to R193) -/

/-- ARM_ACKNOWLEDGEMENT (R191, R192): no earlier than GO + 3 tk, and 1 tk after it was given. One that arrives with
TICK at door − 64 counts, though the deadline was found in the same die tick (R201). -/
def execArmAcknowledgement (slot r : Nat) (s : State) : Res :=
  if slot < 4 then
    actAt "region" 208 r s ((s.slot slot).ackOut.getLsbD r
        && decide ((s.slot slot).goAt + 3 ≤ s.now)
        && decide (tget 0 (s.slot slot).ackAt r + 1 ≤ s.now)) (fun s =>
      let d := s.slot slot
      let d := { d with ack := d.ack ||| setOne r, ackOut := d.ackOut &&& ~~~setOne r,
                        ackLast := sat 0xFFFF (s.now - d.goAt) }
      let late := d.state == .cancelling && !d.aborted && d.canAt == s.now + 1
      if (d.state = .arming ∨ late = true) ∧ d.ack = d.set ∧ s.tk + 64 ≤ d.door.toNat then
        (s.setSlot slot { d with state := .armed, canOut := 0 }).raiseSlot slot evArmed
      else s.setSlot slot d)
  else .fault (.noSuchPart "door slot" slot)

/-- ARMING_DEADLINE (R192). -/
def execArmingDeadline (slot : Nat) (s : State) : Res :=
  let d := s.slot slot
  actAt "door slot" 4 slot s
    (d.state == .arming && d.ack != d.set && decide (d.door.toNat ≤ s.tk + 64)) (fun s =>
    s.setSlot slot (d.cancel s.now))

/-- CANCEL_MESSAGE (R193): it reaches a tap after the arm message that went before it (R201), and no tap hears it
while its die tick is lost. DEDUCED, log entry 30. -/
def execCancelMessage (slot r : Nat) (s : State) : Res :=
  if slot < 4 then
    actAt "region" 208 r s ((s.slot slot).canOut.getLsbD r
        && !(s.slot slot).armOut.getLsbD r && decide ((s.slot slot).canAt + 1 ≤ s.now)) (fun s =>
      let d := s.slot slot
      let g := (s.region r).racg
      let s := s.setSlot slot { d with canOut := d.canOut &&& ~~~setOne r }
      if g.refLost then s
      else
        let s := if g.armed = true ∧ g.armSlot = slot ∧ g.armDoor = d.door then
            s.updRacg r (fun g => { g with armed := false })
          else s
        s.updSlot slot (fun d => { d with
          canAckOut := d.canAckOut ||| setOne r, canAckAt := tput d.canAckAt r s.now }))
  else .fault (.noSuchPart "door slot" slot)

/-- CANCEL_ACK (R191, R193): no earlier than 1 tk after it was given. -/
def execCancelAck (slot r : Nat) (s : State) : Res :=
  if slot < 4 then
    actAt "region" 208 r s ((s.slot slot).canAckOut.getLsbD r
        && decide (tget 0 (s.slot slot).canAckAt r + 1 ≤ s.now)) (fun s =>
      let d := s.slot slot
      let d := { d with canAck := d.canAck ||| setOne r, canAckOut := d.canAckOut &&& ~~~setOne r }
      if d.state = .cancelling ∧ d.set &&& ~~~d.canAck = 0 then
        (s.setSlot slot { d with state := .cancelled }).raiseSlot slot evCancel
      else s.setSlot slot d)
  else .fault (.noSuchPart "door slot" slot)

/-- CANCEL_RESEND (R193). -/
def execCancelResend (slot : Nat) (s : State) : Res :=
  let d := s.slot slot
  actAt "door slot" 4 slot s (d.state == .cancelling && decide (d.canAt + 16 ≤ s.now)
      && decide (s.tk + 8 < d.door.toNat)) (fun s =>
    s.setSlot slot { d with canOut := d.set &&& ~~~d.canAck, canAt := s.now })

/-- CANCEL_LOST (R193). -/
def execCancelLost (slot : Nat) (s : State) : Res :=
  let d := s.slot slot
  actAt "door slot" 4 slot s
    (d.state == .cancelling && decide (d.door.toNat ≤ s.tk + 1)) (fun s =>
    (s.setSlot slot { d with exc := d.set &&& ~~~d.canAck, state := .cancelled }).raiseSlot slot
      (evCancel + evExceptAny + evCancelLost))

/-! ## The settle check (R195) -/

/-- A region of the set passes. -/
def State.settled (s : State) (d : DoorSlot) (r : Nat) : Bool :=
  let g := (s.region r).racg
  g.gear == d.target
    && (((g.state == .locked || g.state == .ready) && !g.moving)
      || (d.bypassed.getLsbD r && g.state == .bypass))

/-- SETTLE_CHECK (R195). -/
def execSettleCheck (slot : Nat) (s : State) : Res :=
  let d := s.slot slot
  actAt "door slot" 4 slot s ((d.state == .opened || d.state == .armed)
      && decide (d.door.toNat + 256 * d.maxN + 64 ≤ s.tk)) (fun s =>
    let s := s.openSlot slot
    let exc := ((setList d.set).filter (fun r => !s.settled d r)).foldl (fun a r => a ||| setOne r) 0
    (s.updSlot slot (fun d => { d with exc := exc, state := .complete })).raiseSlot slot
      (evComplete + (if exc = 0 then 0 else evExceptAny)))

/-! ## The thermal guard's maps (R199, R200) -/

/-- THERM_HOT_MAP[w] and THERM_TRIP_MAP[w]. -/
def State.thermWord (s : State) (w : Nat) (f : Thermal → Bool) : Word :=
  BitVec.ofNat 32 (sumL ((List.range 32).map (fun i =>
    if 32 * w + i < 208 ∧ f (s.region (32 * w + i)).thermal = true then 2 ^ i else 0)))

/-- A write of THERM_TRIP_CLR[w] clears trip bits; ALARM# follows. -/
def State.clearTrips (s : State) (w : Nat) (v : Word) : State :=
  ({ s with regions := s.regions.map (fun e =>
      if e.1 / 32 = w ∧ bit v (e.1 % 32) = true then
        (e.1, { e.2 with thermal := { e.2.thermal with trip := false } })
      else e) } : State)

/-- THERM_TRIP_CLR (R200). -/
def execThermTripClr (p : Path) (w : Nat) (v : Word) (s : State) : Res :=
  act s (decide (w < 7)) (fun s => s.gate p (0x020D0 + 4 * w) (fun s => s.clearTrips w v))

end Sys2Proof.Machine
end

