-- ==== Sys2Proof/Machine/Measure.lean ====
section
/-! DEFINITION. The time-interval measurement unit (chapter 08). -/

namespace Sys2Proof.Machine

open Sys2Proof

def evDone : Word := oneBit 0
def evTbFail : Word := oneBit 1
def evCalFail : Word := oneBit 2
def evOverflow : Word := oneBit 3
def evOrphan : Word := oneBit 4
def evSubres : Word := oneBit 5
def evMissed : Word := oneBit 6
def evMeasRefused : Word := oneBit 7
def evTickStep : Word := oneBit 9
def evRateHigh : Word := oneBit 10

/-! ## Configuration fields (R247) -/

def MeasChan.startSrc (m : MeasChan) : Nat := fld m.cfg 0 8
def MeasChan.stopSrc (m : MeasChan) : Nat := fld m.cfg 8 8
def MeasChan.startPre (m : MeasChan) : Nat := fld m.cfg 16 3
def MeasChan.stopPre (m : MeasChan) : Nat := fld m.cfg 19 3
/-- 0 SINGLE, 1 REPEAT, 2 STREAM. -/
def MeasChan.mode (m : MeasChan) : Nat := fld m.cfg 24 2
def MeasChan.recEn (m : MeasChan) : Bool := bit m.cfg 26
def MeasChan.stopN (m : MeasChan) : Nat := max 1 (fld m.cfg2 0 8)
def MeasChan.queueNo (m : MeasChan) : Nat := fld m.cfg2 8 7
def MeasChan.decim (m : MeasChan) : Nat := 2 ^ fld m.cfg2 16 4
/-- The recalibration period in die ticks: 2^(RECAL + 16) counter periods (R242). -/
def MeasChan.recalTk (m : MeasChan) : Nat := 2 ^ (fld m.cfg2 20 4 + 15)

/-- Start and stop share source, prescale and edge (R234). -/
def MeasChan.shared (m : MeasChan) : Bool :=
  m.startSrc == m.stopSrc && m.startPre == m.stopPre && bit m.cfg 22 == bit m.cfg 23

/-- A source code names a source (R225). -/
def sourceOk (c : Nat) : Bool :=
  decide (c ≤ 0xD5) || (decide (0xD8 ≤ c) && decide (c ≤ 0xDB))

/-- Source 0xD1 needs a prescale of ÷4 at least (R226). -/
def preOk (src pre : Nat) : Bool := decide (pre ≤ 4) && (src != 0xD1 || decide (2 ≤ pre))

/-- A source that is a region has edges: not in OFF, and not while its clock has stopped (R225, R246). -/
def State.sourceRuns (s : State) (src : Nat) : Bool :=
  decide (208 ≤ src) || ((s.region src).racg.state != .off && !(s.region src).racg.stopped)

/-- A channel streams, or arms to stream, to the queue. Where two ARMs of one die tick name one queue the
lower-numbered channel has it (R246): an ARM of this tick on a higher-numbered channel does not count. -/
def State.streamsTo (s : State) (ch q : Nat) : Bool :=
  s.meas.any (fun e => e.1 != ch && e.2.state != .idle && e.2.mode == 2 && e.2.queueNo == q
    && !(decide (ch < e.1) && s.log.arms.any (fun a => a.1 == e.1)))

/-- An ARM is refused (R230). -/
def State.armRefused (s : State) (ch : Nat) : Bool :=
  let m := s.chan ch
  m.state != .idle || !sourceOk m.startSrc || !sourceOk m.stopSrc
    || !preOk m.startSrc m.startPre || !preOk m.stopSrc m.stopPre || m.mode == 3
    || ((m.recEn || m.mode == 2) && decide (95 < m.queueNo))
    || (m.mode == 2 && s.streamsTo ch m.queueNo)

/-! ## Completions (R238, R240) -/

/-- A coach of the channel goes to the queue its QUEUE names (R255). -/
def State.measCoach (s : State) (ch typ : Nat) (tick : DWord) (body : List DWord) : State :=
  s.offer (0x100 + ch) (s.chan ch).queueNo (coachOf typ (0x100 + ch) tick body)

/-- REF_EVT (R238): a switchover, a holdover entry or SLEW since the start. -/
def State.refEvt (s : State) (m : MeasChan) : Bool :=
  m.slewSeen || s.ref.refEvts != m.refMark || s.ref.activeRoot.state == .slew

/-- A result completes with a status; `bits` are the events beside DONE. The result it replaces is kept for
the rest of the die tick, in which a read comes before the completion (R246). -/
def State.measFinish (s : State) (ch status interval : Nat) (subres timed : Bool) (bits : Word) : State :=
  let m := s.chan ch
  let res : MeasResult :=
    { valid := true, alreadyRead := false, seq := (m.result.seq + 1) % 4096, status := status,
      subres := subres, refEvt := timed && s.refEvt m, extraStart := m.extraStart,
      rateHigh := m.rateHigh, interval := interval, tick := m.startTick }
  let s := s.setChan ch { m with
    prior := m.result, doneAt := some s.now, result := res, state := .idle, stopped := none,
    heldStop := none }
  let s := if m.recEn then
      s.measCoach ch 0x80 s.tick
        [packD [(0, 12, res.seq), (12, 3, status), (15, 1, b2n subres), (16, 1, b2n res.refEvt),
          (17, 1, b2n res.extraStart), (18, 1, b2n res.rateHigh)],
         packD [(0, 46, interval)], res.tick]
    else s
  s.raiseMeas ch (evDone ||| bits)

/-- A measurement starts: the time-base check (R231), then CALIBRATING, or a TB_FAIL result. -/
def State.measBegin (s : State) (ch : Nat) (tbOk : Bool) : State :=
  let s := s.updChan ch (fun m => { m with
    tbOk := tbOk, extraStart := false, rateHigh := false, slewSeen := false, stopCount := 0,
    heldStop := none, stopped := none, again := none })
  if tbOk then s.updChan ch (fun m => { m with state := .calibrating, calAt := s.now })
  else s.measFinish ch 2 0 false false evTbFail

/-- After a completion a REPEAT channel stays in TIMING to the end of the die tick and begins again in the
next (R238). DEDUCED, log entry 28. -/
def State.measAgain (s : State) (ch : Nat) (tbOk : Bool) : State :=
  s.updChan ch (fun m => if m.mode = 1 then { m with state := .timing, again := some tbOk } else m)

/-- The REPEAT channels begin again as a die tick begins. -/
def State.measTick (s : State) : State :=
  s.meas.foldl (fun s e => match e.2.again with
    | some tbOk => s.measBegin e.1 tbOk
    | none => s) s

/-- The stream coach in progress is closed and pushed (R243). -/
def State.pushStream (s : State) (ch : Nat) : State :=
  let m := s.chan ch
  if m.stream = [] then s
  else (s.setChan ch { m with stream := [] }).measCoach ch 0x82 m.streamTick m.stream

/-! ## Commands (R230) -/

def State.measRefuse (s : State) (ch : Nat) : State := s.raiseMeas ch evMeasRefused

/-- The ARM of an idle channel is carried out. -/
def State.measArmTake (s : State) (ch : Nat) (tbOk : Bool) : State :=
  (s.updChan ch (fun m => { m with
    doneAt := none, result := { m.result with valid := false, alreadyRead := false } })).measBegin ch tbOk

/-- The ARM of this die tick on a higher-numbered channel that streams to the same queue is refused after
all (R246). -/
def State.measYield (s : State) (ch : Nat) : State :=
  if (s.chan ch).mode = 2 ∧ (s.chan ch).state ≠ .idle then
    (s.log.arms.filter (fun e => decide (ch < e.1) && (s.chan e.1).mode == 2
        && (s.chan e.1).state != .idle && (s.chan e.1).queueNo == (s.chan ch).queueNo)).foldl
      (fun s e => (s.setChan e.1 e.2.1).measRefuse e.1) s
  else s

def State.measArmNow (s : State) (ch : Nat) (tbOk : Bool) : State :=
  if s.armRefused ch then s.measRefuse ch
  else
    let m := s.chan ch
    let s := s.measArmTake ch tbOk
    ({ s with log := { s.log with arms := tput s.log.arms ch (m, tbOk) } } : State).measYield ch

/-- DISARM (R230). A completion in the same die tick comes first (R246): one that is due, the die tick
being the last in which it may come (R238), and one that has just come in REPEAT, where no CANCELLED
result is made. -/
def State.measDisarmNow (s : State) (ch : Nat) : State :=
  match (s.chan ch).state with
  | .idle => s.measRefuse ch
  | .streaming => (s.pushStream ch).updChan ch (fun m => { m with state := .idle })
  | .timing =>
    if (s.chan ch).again.isSome then s.updChan ch (fun m => { m with state := .idle, again := none })
    else
      match (s.chan ch).stopped with
      | some (v, sub, t) =>
        if t + 4 ≤ s.now then
          let s := s.measFinish ch 0 v sub true (if sub then evSubres else 0)
          if (s.chan ch).mode = 1 then s else s.measRefuse ch
        else s.measFinish ch 4 0 false true 0
      | none => s.measFinish ch 4 0 false true 0
  | .calibrating => s.measFinish ch 4 0 false false 0
  | .waitStart => s.measFinish ch 4 0 false false 0

/-- A write of MEAS_CTL. DESIGN CHOICE, log entry 29. -/
def State.measCommand (s : State) (ch code : Nat) (tbOk : Bool) : State :=
  match code with
  | 0 => s
  | 1 => s.measArmNow ch tbOk
  | 2 => s.measDisarmNow ch
  | _ => s.measRefuse ch

def measWrite (s : State) (p : Path) (ch code : Nat) (tbOk : Bool) : Res :=
  act s (decide (ch < 64)) (fun s => s.gate p (chanPage ch + 0x08) (fun s => s.measCommand ch code tbOk))

/-- MEAS_ARM (R230, R231). -/
def execMeasArm (p : Path) (ch : Nat) (tbOk : Bool) (s : State) : Res := measWrite s p ch 1 tbOk

/-- MEAS_DISARM (R230). -/
def execMeasDisarm (p : Path) (ch : Nat) (s : State) : Res := measWrite s p ch 2 false

/-- MEAS_RESERVED_CMD (R230): codes 3 to 7. -/
def execMeasReservedCmd (p : Path) (ch code : Nat) (s : State) : Res :=
  if 3 ≤ code ∧ code ≤ 7 then measWrite s p ch code false else .next s

/-- A configuration register takes a value. -/
def MeasChan.putCfg (m : MeasChan) (reg : Nat) (v : Word) : MeasChan :=
  match reg with
  | 0 => { m with cfg := v &&& 0x07FFFFFF }
  | 1 => { m with cfg2 := v &&& 0x00FF7FFF }
  | _ => { m with tsOffset := v &&& 0xFFFF }

/-- A write of MEAS_CFG (0), MEAS_CFG2 (1) or TS_OFFSET (2), taken only in IDLE (R230). An ARM of the same die
tick comes after it and is judged on what it writes (R246). -/
def State.writeMeasCfg (s : State) (ch reg : Nat) (v : Word) : State :=
  if (s.chan ch).state = .idle then s.updChan ch (·.putCfg reg v)
  else
    match s.log.arms.find? (fun e => e.1 == ch) with
    | some (_, m, tbOk) =>
      let s := s.setChan ch (m.putCfg reg v)
      ({ s with log := { s.log with arms := s.log.arms.filter (fun e => e.1 != ch) } } : State).measArmNow ch tbOk
    | none => s.measRefuse ch

/-- The page offset of a configuration register. -/
def measCfgOff (reg : Nat) : Nat := if reg = 0 then 0x00 else if reg = 1 then 0x04 else 0x2C

/-- MEAS_CFG_WRITE (R230). -/
def execMeasCfgWrite (p : Path) (ch reg : Nat) (v : Word) (s : State) : Res :=
  act s (decide (ch < 64)) (fun s =>
    let m := s.chan ch
    s.gateRw p (chanPage ch + measCfgOff reg) (if reg = 0 then m.cfg else if reg = 1 then m.cfg2 else m.tsOffset)
      (fun s => s.writeMeasCfg ch reg v))

/-! ## Calibration (R232, R233) -/

/-- An interpolator's sums pass (R233). -/
def sumsOk (s1 s2 : Nat) : Bool :=
  decide (192 ≤ s1) && decide (s1 ≤ 320) && decide (s1 + 224 ≤ s2) && decide (s2 ≤ s1 + 288)

/-- MEAS_CAL_DONE (R229, R232, R233). -/
def execMeasCalDone (ch : Nat) (sums : CalSums) (s : State) : Res :=
  let m := s.chan ch
  actAt "measurement channel" 64 ch s
    (m.state == .calibrating && decide (m.calAt + 32 ≤ s.now)) (fun s =>
    let ok := sumsOk sums.a1 sums.a2 && sumsOk sums.b1 sums.b2
    let s := s.updChan ch (fun m => { m with
      calSum1 := sums.a1 % 2048, calSum2 := sums.a2 % 2048, calOk := ok,
      sums := if ok then sums else m.sums })
    if ok then
      s.updChan ch (fun m =>
        if m.mode = 2 then
          { m with state := .streaming, activeInt := false, edges := 0, recalAt := s.now, stream := [] }
        else { m with state := .waitStart })
    else s.measFinish ch 3 0 false false evCalFail)

/-! ## Intervals (R234 to R238) -/

/-- The start interpolator's gain times 8 (R232). -/
def MeasChan.gain8 (m : MeasChan) : Int := (m.sums.a2 : Int) - m.sums.a1

/-- The time in LSB of an edge `pos` LSB into the present die tick (R227). DEDUCED, log entry 28. -/
def State.edgeT (s : State) (pos : Nat) : Nat := 64 * s.now + pos % 64

/-- The coarse counter at the reference edge of an edge: 0 at the start's, a step each counter period (R235). An
edge's reference edge is the second counter edge after it (R228), so both lie as far behind their edge. -/
def MeasChan.coarse (m : MeasChan) (t : Nat) : Int := (t / 32 : Int) - (m.startT / 32 : Nat)

/-- An edge of an input, less than a counter period after the one before it: RATE_HIGH (R226). -/
def State.noteRate (s : State) (ch : Nat) (last : Option Nat) (t : Nat) : State :=
  match last with
  | some u =>
    if t < u + 32 then (s.updChan ch (fun m => { m with rateHigh := true })).raiseMeas ch evRateHigh else s
  | none => s

/-- The interpolator is dead: 4 counter periods after its last capture (R228). -/
def deadAt (cap : Option Nat) (t : Nat) : Bool := cap.any (fun u => decide (t < u + 128))

/-- An edge in an interpolator's dead time (R228). -/
def State.missEdge (s : State) (ch : Nat) : State :=
  (s.updChan ch (fun m => { m with missed := satAdd 0xFFFF m.missed 1 })).raiseMeas ch evMissed

/-- The held stop edge is an orphan (R236, R240): its coach carries its TICK and its place in that tick.
DEDUCED, log entry 28. -/
def State.orphanEdge (s : State) (ch tick t : Nat) : State :=
  let s := s.updChan ch (fun m => { m with heldStop := none, orphans := satAdd 0xFFFF m.orphans 1 })
  let s := if (s.chan ch).recEn then
      s.measCoach ch 0x81 (BitVec.ofNat 64 tick) [packD [(0, 6, t % 64)]]
    else s
  s.raiseMeas ch evOrphan

/-- The stop edge held since before a start at `t` lies less than 1 LSB before it, and is still held, 2 counter
periods on at the most (R235, R236). -/
def MeasChan.nearHeld (m : MeasChan) (raw t ip held : Nat) : Bool :=
  decide (t < held + 64)
    && decide (0 < 256 * ((raw : Int) - ip) - 32 * ((t / 32 : Int) - (held / 32 : Nat)) * m.gain8 + m.gain8)

/-- The interval in LSB and SUBRES (R235). -/
def MeasChan.intervalOf (m : MeasChan) (k : Int) (ip : Nat) : Nat × Bool :=
  let t := 32 * k * m.gain8 + 256 * ((m.startRaw : Int) - ip)
  if t < m.gain8 then (0, true) else ((roundDiv t m.gain8).toNat, false)

/-- The start is captured (R234). -/
def State.measStart (s : State) (ch raw t : Nat) : State :=
  s.updChan ch (fun m => { m with
    state := .timing, startRaw := raw, startTick := s.tick, startT := t, capA := some t,
    refMark := s.ref.refEvts, slewSeen := s.ref.activeRoot.state == .slew, stopCount := 0 })

/-- The channel sees edges of its inputs, in the order of their times (R232, R238). -/
def MeasChan.sees (m : MeasChan) (t : Nat) : Bool :=
  (m.state == .waitStart || (m.state == .timing && m.again.isNone)) && decide (m.seenAt ≤ t)

/-- START_EDGE (R225, R226, R228, R234, R236): a prescaled edge of the start input, `pos` LSB into the die
tick, with the raw code of its capture. DESIGN CHOICE, log entry 8; DEDUCED, log entry 28. -/
def execStartEdge (ch raw pos : Nat) (s : State) : Res :=
  let t := s.edgeT pos
  actAt "measurement channel" 64 ch s
    ((s.chan ch).sees t && s.sourceRuns (s.chan ch).startSrc) (fun s =>
    let m := s.chan ch
    let dead := deadAt m.capA t
    let s := s.noteRate ch m.lastStart t
    let s := s.updChan ch (fun m => { m with lastStart := some t, seenAt := t })
    let s := if dead then s.missEdge ch else s
    if m.state = .timing then
      s.updChan ch (fun m => { m with
        extraStart := true, extraStarts := satAdd 0xFFFF m.extraStarts 1 })
    else if dead then s
    else
      match m.heldStop with
      | some (ip, held, tick) =>
        if m.nearHeld raw t ip held then
          (s.measStart ch raw t).updChan ch (fun m => { m with
            heldStop := none, stopped := some (0, true, s.now) })
        else (s.orphanEdge ch tick held).measStart ch raw t
      | none => s.measStart ch raw t)

/-- A stop edge captured in WAIT_START is held; the one held before it is an orphan (R236). -/
def State.holdStop (s : State) (ch raw t : Nat) : State :=
  let s := match (s.chan ch).heldStop with
    | some (_, held, tick) => s.orphanEdge ch tick held
    | none => s
  s.updChan ch (fun m => { m with heldStop := some (raw, t, s.tk), capB := some t })

/-- STOP_EDGE (R225, R226, R228, R234 to R237): a prescaled edge of the stop input. DESIGN CHOICE, log entry 8;
DEDUCED, log entry 28. -/
def execStopEdge (ch raw pos : Nat) (s : State) : Res :=
  let t := s.edgeT pos
  actAt "measurement channel" 64 ch s
    ((s.chan ch).sees t && s.sourceRuns (s.chan ch).stopSrc) (fun s =>
    let m := s.chan ch
    let dead := deadAt m.capB t
    let s := s.noteRate ch m.lastStop t
    let s := s.updChan ch (fun m => { m with lastStop := some t, seenAt := t })
    let s := if dead then s.missEdge ch else s
    if m.state = .waitStart then
      if dead = true ∨ m.startSrc = m.stopSrc then s else s.holdStop ch raw t
    else if m.stopped.isSome ∨ (m.shared = true ∧ t ≤ m.startT) then s
    else
      let n := m.stopCount + 1
      let s := s.updChan ch (fun m => { m with stopCount := n })
      if dead then s
      else
        let s := s.updChan ch (fun m => { m with capB := some t })
        if n < m.stopN ∨ 2 ^ 40 ≤ m.coarse t then s
        else
          let (v, sub) := m.intervalOf (m.coarse t) raw
          s.updChan ch (fun m => { m with stopped := some (v, sub, s.now) }))

/-- RESULT_COMPLETE (R229, R231, R238, R240). -/
def execResultComplete (ch : Nat) (tbOk : Bool) (s : State) : Res :=
  actAt "measurement channel" 64 ch s ((s.chan ch).state == .timing && (s.chan ch).stopped.isSome)
    (fun s =>
    match (s.chan ch).stopped with
    | some (v, sub, _) =>
      (s.measFinish ch 0 v sub true (if sub then evSubres else 0)).measAgain ch tbOk
    | none => s)

/-- ORPHAN (R236): 2 counter periods on, the held stop edge has no start. DEDUCED, log entry 28. -/
def execOrphan (ch : Nat) (s : State) : Res :=
  actAt "measurement channel" 64 ch s ((s.chan ch).state == .waitStart
      && (s.chan ch).heldStop.any (fun h => decide (h.2.1 + 64 ≤ s.edgeT 63))) (fun s =>
    match (s.chan ch).heldStop with
    | some (_, held, tick) => s.orphanEdge ch tick held
    | none => s)

/-- OVERFLOW (R237): the coarse counter would pass 2^40 − 1. -/
def execOverflow (ch : Nat) (tbOk : Bool) (s : State) : Res :=
  let m := s.chan ch
  actAt "measurement channel" 64 ch s
    (m.state == .timing && m.again.isNone && m.stopped.isNone
      && decide (2 ^ 40 + m.startT / 32 + 2 ≤ 2 * s.now + 1)) (fun s =>
    (s.measFinish ch 1 0 false true evOverflow).measAgain ch tbOk)

/-! ## Reading a result (R239) -/

/-- RESULT_HEAD. -/
def MeasResult.head (x : MeasResult) : Word :=
  packW [(0, 1, b2n x.valid), (1, 1, b2n x.alreadyRead), (2, 12, x.seq), (14, 3, x.status),
    (17, 1, b2n x.subres), (18, 1, b2n x.refEvt), (19, 1, b2n x.extraStart), (20, 1, b2n x.rateHigh)]

/-- The data registers latched from a result (R239). -/
def MeasChan.latch (m : MeasChan) (x : MeasResult) : MeasChan := { m with
  latLo := BitVec.ofNat 32 x.interval, latHi := BitVec.ofNat 32 (x.interval / 2 ^ 32 % 2 ^ 14),
  latTick := loWord x.tick }

/-- The result a read in this die tick finds: a read comes before a completion (R246). -/
def MeasChan.shown (m : MeasChan) (now : Nat) : MeasResult :=
  if m.doneAt = some now then m.prior else m.result

/-- The side effects of a read of RESULT_HEAD. -/
def State.headRead (s : State) (ch : Nat) : State :=
  s.updChan ch (fun m =>
    if m.doneAt = some s.now then
      { m.latch m.prior with prior := { m.prior with alreadyRead := m.prior.valid } }
    else { m.latch m.result with result := { m.result with alreadyRead := m.result.valid } })

/-- RESULT_HEAD_READ (R239). -/
def execResultHeadRead (p : Path) (ch : Nat) (s : State) : Res :=
  readAct s p (chanPage ch + 0x18) (fun s =>
    if ch < 64 then
      let w := ((s.chan ch).shown s.now).head
      let s := s.headRead ch
      { s with out := { s.out with readData := some w } }
    else { s with out := { s.out with readData := some 0 } })

/-! ## Streams (R241 to R243) -/

/-- The stamp in LSB of an edge captured with TICK at `tick`, in the second half of the die tick or not (R241):
its reference edge lies as far into the next die tick (R228). -/
def MeasChan.stampOf (m : MeasChan) (tick raw : Nat) (half : Bool) : Int :=
  let (s1, s2) := if m.activeInt then (m.sums.b1, m.sums.b2) else (m.sums.a1, m.sums.a2)
  let g : Int := (s2 : Int) - s1
  roundDiv ((64 * ((tick : Int) + 1) + 32 * b2n half - 32 + sfld m.tsOffset 0 16) * g
    - 32 * (8 * (raw : Int) - s1)) g

/-- STREAM_STAMP (R226, R228, R241, R243). -/
def execStreamStamp (ch raw pos : Nat) (s : State) : Res :=
  let t := s.edgeT pos
  actAt "measurement channel" 64 ch s ((s.chan ch).state == .streaming && decide ((s.chan ch).seenAt ≤ t)
      && s.sourceRuns (s.chan ch).startSrc) (fun s =>
    let s := s.noteRate ch (s.chan ch).lastStart t
    let s := s.updChan ch (fun m => { m with lastStart := some t, seenAt := t })
    let m := s.chan ch
    let n := m.edges + 1
    if n < m.decim then s.setChan ch { m with edges := n }
    else if deadAt (if m.activeInt then m.capB else m.capA) t then
      (s.setChan ch { m with edges := 0 }).missEdge ch
    else
      let st := m.stampOf s.tk raw (decide (32 ≤ pos % 64))
      let tick := (st / 64).toNat % 2 ^ 58
      let word := packD [(0, 6, (st % 64).toNat), (6, 58, tick)]
      let first := m.stream = []
      let s := s.setChan ch { m with
        capA := if m.activeInt then m.capA else some t, capB := if m.activeInt then some t else m.capB,
        edges := 0, stream := m.stream ++ [word], stamps := (m.stamps + 1) % 2 ^ 32,
        streamAt := if first then s.now else m.streamAt,
        streamTick := if first then BitVec.ofNat 64 tick else m.streamTick }
      if 7 ≤ (s.chan ch).stream.length then s.pushStream ch else s)

/-- STREAM_RECAL (R231, R232, R242): sums of the standing interpolator, whose calibration ends 32 tk after the
period; a failed time-base check ends the stream as the period ends. DEDUCED, log entry 28. -/
def execStreamRecal (ch : Nat) (tbOk : Bool) (sum1 sum2 : Nat) (s : State) : Res :=
  let m := s.chan ch
  actAt "measurement channel" 64 ch s
    (m.state == .streaming && decide (m.recalAt + m.recalTk + (if tbOk then 32 else 0) ≤ s.now)) (fun s =>
    let s := s.updChan ch (fun m => { m with tbOk := tbOk, recalAt := m.recalAt + m.recalTk })
    if tbOk then
      let ok := sumsOk sum1 sum2
      let s := s.updChan ch (fun m =>
        let m := { m with calSum1 := sum1 % 2048, calSum2 := sum2 % 2048, calOk := ok }
        if ok then
          { m with
            activeInt := !m.activeInt,
            sums := if m.activeInt then { m.sums with a1 := sum1, a2 := sum2 }
              else { m.sums with b1 := sum1, b2 := sum2 } }
        else m)
      if ok then s else s.raiseMeas ch evCalFail
    else (s.pushStream ch).measFinish ch 2 0 false false evTbFail)

/-- STREAM_COACH_TIMEOUT (R243). -/
def execStreamCoachTimeout (ch : Nat) (s : State) : Res :=
  let m := s.chan ch
  actAt "measurement channel" 64 ch s
    (m.state == .streaming && !m.stream.isEmpty && decide (m.streamAt + 1024 ≤ s.now)) (fun s =>
    s.pushStream ch)

/-- TICK is written: every streaming channel closes its coach and tells (R243). -/
def State.measTickStep (s : State) : State :=
  ((s.meas.filter (fun e => e.2.state == .streaming)).map (·.1)).foldl
    (fun s ch => (s.pushStream ch).raiseMeas ch evTickStep) s

/-! ## The page (R247) -/

def State.chanRead (s : State) (ch off : Nat) : Word :=
  let m := s.chan ch
  match off with
  | 0x00 => m.cfg
  | 0x04 => m.cfg2
  | 0x0C => packW [(0, 3, m.state.code), (3, 1, b2n m.tbOk), (4, 1, b2n m.activeInt)]
  | 0x10 => m.event
  | 0x14 => m.eventEn
  | 0x18 => (m.shown s.now).head
  | 0x1C => m.latLo
  | 0x20 => m.latHi
  | 0x24 => m.latTick
  | 0x28 => packW [(0, 11, m.calSum1), (11, 11, m.calSum2), (22, 1, b2n m.calOk)]
  | 0x2C => m.tsOffset
  | 0x30 => packW [(0, 16, m.orphans), (16, 16, m.missed)]
  | 0x34 => packW [(0, 16, m.extraStarts), (16, 16, m.streamDrops)]
  | 0x38 => packW [(0, 32, m.stamps)]
  | _ => 0

end Sys2Proof.Machine
end

