-- ==== Sys2Proof/Machine/GroupTick.lean ====
section
/-! DEFINITION. The group tick unit (chapter 10): SYNC_IN and time of day, alignment words, exchanges and
steering, joining and the TICK step, compare slots, membership, outputs, registers. Times of edges are
in LSB, 64 to a tick (R227); an offset is exact in 1/42 of a picosecond, 1,250 of them to an LSB. -/

namespace Sys2Proof.Machine

open Sys2Proof

/-! ## Events and fields -/

def gtAlignedOn : Word := oneBit 0
def gtAlignedOff : Word := oneBit 1
def gtJoinDone : Word := oneBit 2
def gtJoinFail : Word := oneBit 3
def gtHoldover : Word := oneBit 4
def gtEjected : Word := oneBit 5
def gtSourceSwitch : Word := oneBit 6
def gtPeerLost : Word := oneBit 7
def gtPeerBack : Word := oneBit 8
def gtGenMismatch : Word := oneBit 9
def gtPpsDisagree : Word := oneBit 10
def gtFreqLimit : Word := oneBit 11
def gtTickStepped : Word := oneBit 12
def gtCommitDone : Word := oneBit 13
def gtToGap : Word := oneBit 14
def gtLoop : Word := oneBit 15
def gtSlotFired : Word := oneBit 16
def gtSlotMisaligned : Word := oneBit 17
def gtCmdRefused : Word := oneBit 18

/-- One second, 100 µs, 10 ms and 900 ms in die ticks. -/
def secTk : Nat := 525000000
def us100Tk : Nat := 52500

def GroupTick.deviceId (g : GroupTick) : Nat := fld g.id 0 12
def GroupTick.parentId (g : GroupTick) : Nat := fld g.id 16 12
def GroupTick.altId (g : GroupTick) : Nat := fld g.role 0 12
def GroupTick.isRoot (g : GroupTick) : Bool := bit g.role 12
def GroupTick.parentLink (g : GroupTick) : Nat := fld g.role 16 4
def GroupTick.altLink (g : GroupTick) : Nat := fld g.role 20 4
def GroupTick.depthMax (g : GroupTick) : Nat := fld g.role 24 4
/-- The period of alignment words in tk (R285, R307). -/
def GroupTick.periodTk (g : GroupTick) : Nat := 2 ^ max 10 (fld g.servo 8 4)
def GroupTick.missLimit (g : GroupTick) : Nat := max 1 (fld g.servo 12 4)
def GroupTick.steerMax (g : GroupTick) : Nat := min 10000 (fld g.servo 16 16)
def GroupTick.freqRange (g : GroupTick) : Nat := fld g.limits2 0 16
def GroupTick.holdMaxTk (g : GroupTick) : Nat := max 1 (fld g.limits2 16 8) * 2 ^ 24
/-- The source: its device and link (R284). -/
def GroupTick.sourceId (g : GroupTick) : Nat := if g.onAlt then g.altId else g.parentId
def GroupTick.sourceLink (g : GroupTick) : Nat := if g.onAlt then g.altLink else g.parentLink
def GroupTick.otherId (g : GroupTick) : Nat := if g.onAlt then g.parentId else g.altId
def GroupTick.otherLink (g : GroupTick) : Nat := if g.onAlt then g.parentLink else g.altLink
/-- A device is in the active membership table. -/
def GroupTick.member (g : GroupTick) (d : Nat) : Bool := bit (tget (0 : Word) g.active (d / 32)) (d % 32)
/-- The state steers on exchanges (R288). -/
def GtState.steers : GtState → Bool
  | .standalone => false
  | .joining => false
  | .pullIn => true
  | .aligned => true
  | .holdover => false

/-- The group count of the edge that marks second `sec`, in LSB (R283). -/
def GroupTick.count (g : GroupTick) (sec : Nat) : Int :=
  ((sec : Int) - (g.epoch.toNat : Int)) * 525000000 * 64

/-- A state entered: ALIGNED_ON and ALIGNED_OFF with it. -/
def State.gtEnter (s : State) (st : GtState) (bits : Word) (link : Nat) : State :=
  let old := s.gt.state
  let extra : Word :=
    if old ≠ .aligned ∧ st = .aligned then gtAlignedOn
    else if old = .aligned ∧ st ≠ .aligned then gtAlignedOff else 0
  ({ s with gt := { s.gt with state := st, winRun := 0, unRun := 0 } } : State).raiseGt (bits ||| extra) link

/-- STANDALONE is entered: no source, no steering (R289, R290). -/
def State.gtStandalone (s : State) (bits : Word) : State :=
  ({ s with gt := { s.gt with
    stepPend := none, steer := 0, depth := 15, rootId := 0xFFF, onAlt := false, joinEdge := none,
    srcLost := false } } : State).gtEnter .standalone bits noLink

/-! ## Steering (R288) -/

/-- A quotient by a power of two, truncated toward zero. -/
def tshift (v : Int) (k : Nat) : Int := Int.tdiv v (2 ^ k)

/-- One update of integ and STEER from theta over a period. DEDUCED, log entry 38. -/
def State.steerBy (s : State) (thetaN : Int) (perTk : Nat) : State :=
  let g := s.gt
  let rate := Int.tdiv (thetaN * 12500) perTk
  let i := clampI g.freqRange (g.integ + tshift rate (fld g.servo 4 4))
  let st := clampI g.steerMax (-(i + tshift rate (fld g.servo 0 4)))
  let s := { s with gt := { g with integ := i, steer := st } }
  if g.freqRange ≤ i.natAbs then s.raiseGt gtFreqLimit noLink else s

/-- The steering room in ppb: what a SLEW of the active root leaves of 10 ppm (R74). DEDUCED, log entry 38. -/
def State.steerRoom (s : State) : Nat :=
  if s.ref.activeRoot.state = .slew then 10000 - 1000 * s.ref.slewPpm else 10000

/-- The steering applied to the phase-offset input of the active root: STEER, as far as there is room (R74, R288). -/
def State.steerApplied (s : State) : Int := clampI s.steerRoom s.gt.steer

/-- Integ is frozen and STEER holds −integ (R289). -/
def GroupTick.freeze (g : GroupTick) : GroupTick := { g with steer := -g.integ }

/-- Picoseconds of an offset in 1/42 ps, rounded to nearest. -/
def psOf (n : Int) : Int := roundDiv n 42

/-! ## Joining (R291) -/

/-- The unit leaves JOINING for its steered state (R289). -/
def State.joined (s : State) (bits : Word) : State :=
  let root := s.gt.isRoot
  let s := { s with gt := { s.gt with
    stepPend := none, joinEdge := none, exchAt := s.now,
    depth := if root then 0 else s.gt.depth,
    rootId := if root then s.gt.deviceId else s.gt.rootId } }
  s.gtEnter (if root then .aligned else .pullIn) (bits ||| gtJoinDone) noLink

/-- JOIN_FAIL with its reason: 1 NO_TIME, 2 NO_SOURCE, 3 DISAGREE, 4 BACKWARD. -/
def State.joinFail (s : State) (reason : Nat) : State :=
  ({ s with gt := { s.gt with failReason := reason } } : State).gtStandalone gtJoinFail

/-- The step is formed from theta: −theta to the nearest multiple of 21 tk, halves upward. -/
def State.formStep (s : State) (thetaN : Int) : State :=
  let step := 21 * roundDiv (-thetaN) (21 * 64 * 1250)
  if step < 0 then
    if ((fld s.gt.limits 0 16 : Nat) : Int) * 80000 < thetaN.natAbs then s.joinFail 4
    else s.joined 0
  else if step = 0 then s.joined 0
  else { s with gt := { s.gt with stepPend := some step, stepAt := s.now } }

/-- A valid edge with a known second while JOINING waits for one. -/
def State.joinOnEdge (s : State) (stamp g : Int) : State :=
  if s.gt.isRoot then s.formStep ((stamp - g) * 1250)
  else { s with gt := { s.gt with joinEdge := some (stamp, g), joinAt := s.now, joinExch := 0 } }

/-! ## SYNC_IN and time of day (R282, R288, R295) -/

/-- PPS_OK falls; the root's integ is frozen as in HOLDOVER (R289). -/
def State.ppsFall (s : State) : State :=
  let g := { s.gt with ppsOk := false, ppsRun := 0 }
  { s with gt := if g.isRoot ∧ g.state = .aligned then { g with srcLost := true }.freeze else g }

/-- What a valid edge of a known group count does (R288, R289, R291, R295). -/
def State.onSecond (s : State) (stamp g : Int) : State :=
  let d := stamp - g
  let pps := max (-(2 ^ 31)) (min (2 ^ 31 - 1) (psOf (d * 1250)))
  let s := { s with gt := { s.gt with ppsErr := pps } }
  match s.gt.state with
  | .standalone => s
  | .joining =>
    if s.gt.todOk ∧ s.gt.joinEdge = none ∧ s.gt.stepPend = none then s.joinOnEdge stamp g else s
  | _ =>
    if s.gt.isRoot then
      if s.gt.srcLost ∧ 640 < d.natAbs then s.raiseGt gtPpsDisagree noLink
      else
        ({ s with gt := { s.gt with srcLost := false, thetaPs := psOf (d * 1250) } } : State).steerBy
          (d * 1250) secTk
    else if fld s.gt.limits 16 16 * 64 < d.natAbs then s.raiseGt gtPpsDisagree noLink
    else s

/-- The alignment coach (R305, type 0xA2). -/
def State.alignCoach (s : State) : State :=
  if bit s.gt.ctl 6 ∧ s.gt.state ≠ .standalone then
    s.form 0xA2 0x152 [packD [(0, 32, twos 32 s.gt.thetaPs), (32, 16, twos 16 s.gt.integ),
      (48, 16, twos 16 s.gt.steer)]]
  else s

/-- Where an edge stands to the previous valid one: early, valid, or late (R282). -/
inductive EdgeJudge where
  | first | early | valid | late
  deriving DecidableEq, Repr

def GroupTick.judge (g : GroupTick) (stamp : Int) : EdgeJudge :=
  match g.ppsStamp with
  | none => .first
  | some p =>
    let d := stamp - p - 525000000 * 64
    if d.natAbs ≤ 52500 * 64 then .valid else if d < 0 then .early else .late

/-- A capture's stamp on the device's own scale: TICK and the position in the die tick (R227, R241, R283). -/
def State.stampAt (s : State) (pos : Nat) : Int := 64 * (s.tk : Int) + ((pos % 64 : Nat) : Int)

/-- The second an edge marks: the one a trusted message has named since the last edge, else the one after the
last edge's (R281, R283). DEDUCED, log entry 38. -/
def GroupTick.nextSec (g : GroupTick) : Option Nat :=
  if g.todGot then some g.todSec else g.edgeSec.map (· + 1)

/-- A sequence of edges begins at an edge that follows none within its window (log entry 37). -/
def GroupTick.firstEdge (g : GroupTick) (stamp : Int) (now : Nat) : GroupTick :=
  { g with ppsStamp := some stamp, ppsAt := now, ppsRun := 0, edgeOk := false, edgeSec := none, todGot := false }

/-- A valid edge of a known second acts (R288, R291, R295). -/
def State.actOnSecond (s : State) (stamp : Int) : State :=
  match s.gt.edgeSec with
  | some sec => s.onSecond stamp (s.gt.count sec)
  | none => s

/-- SYNC_IN_EDGE (R282, R283, R288, R291, R295): the first edge, and one that comes late, only starts a
new sequence (log entry 37). -/
def execSyncInEdge (pos : Nat) (s : State) : Res :=
  act s true (fun s =>
    let stamp := s.stampAt pos
    match s.gt.judge stamp with
    | .first => { s with gt := s.gt.firstEdge stamp s.now }
    | .early => s.ppsFall
    | .late =>
      let s := s.ppsFall
      { s with gt := s.gt.firstEdge stamp s.now }
    | .valid =>
      let g := s.gt
      let s := { s with gt := { g with
        ppsStamp := some stamp, ppsAt := s.now, ppsRun := min 2 (g.ppsRun + 1), edgeOk := true,
        ppsOk := decide (1 ≤ g.ppsRun), edgeSec := g.nextSec, todGot := false } }
      (s.actOnSecond stamp).alignCoach)

/-- SYNC_IN_EDGE_MISSING (R282): 1 s and 100 µs have passed since the last valid edge. -/
def execSyncInEdgeMissing (s : State) : Res :=
  act s (s.gt.ppsStamp.isSome && decide (s.gt.ppsAt + secTk + us100Tk < s.now)) (fun s =>
    let s := s.ppsFall
    { s with gt := { s.gt with ppsStamp := none, edgeOk := false, edgeSec := none, todGot := false } })

/-- A time-of-day message (R281): seconds, flags and sequence number, where its form and CRC are right. -/
def parseTod (bytes : List Byte) : Option (Nat × Nat × Nat) :=
  match bytes with
  | [b0, b1, a, b, c, d, e, f, fl, sq, crc, nl] =>
    if b0 = 0x47 ∧ b1 = 0x54 ∧ nl = 0x0A ∧ crc8 [b0, b1, a, b, c, d, e, f, fl, sq] = crc.toNat then
      some (beNat [a, b, c, d, e, f], fl.toNat, sq.toNat)
    else none
  | _ => none

/-- The sequence after a message: a message that continues it is valid, any other begins a new one.
DEDUCED, log entry 38. -/
def TodSeq.next (t : TodSeq) (sec sq : Nat) (inTime : Bool) : TodSeq × Bool :=
  let ok := inTime && t.seq == some ((sq + 255) % 256) && t.seconds + 1 == sec
  ({ seq := some sq, seconds := sec, run := if ok then min 2 (t.run + 1) else 0 }, ok)

/-- The last byte comes between 10 ms and 900 ms after a valid edge. -/
def GroupTick.todInTime (g : GroupTick) (now : Nat) : Bool :=
  g.edgeOk && decide (g.ppsAt + 5250000 ≤ now) && decide (now ≤ g.ppsAt + 472500000)

/-- TOD_MESSAGE (R281, R282): the first two after a break only establish the sequence. -/
def execTodMessage (bytes : List Byte) (s : State) : Res :=
  act s true (fun s => match parseTod bytes with
    | none => { s with gt := { s.gt with tod := {}, todOk := false, todGot := false } }
    | some (sec, fl, sq) =>
      match s.gt.tod.next sec sq (s.gt.todInTime s.now) with
      | (t, true) =>
        { s with gt := { s.gt with
          tod := t, todOk := decide (2 ≤ t.run), todGot := decide (2 ≤ t.run), todSec := sec, todFlags := fl,
          todSeqNo := sq, todAt := s.now } }
      | (t, false) => { s with gt := { s.gt with tod := t, todOk := false, todGot := false, todAt := s.now } })

/-- The latest edge, come or due a whole number of seconds after the last one that came, whose message is overdue:
900 ms have passed since it (R282). -/
def GroupTick.todDue (g : GroupTick) (now : Nat) : Nat := g.ppsAt + (now - g.ppsAt - 472500001) / secTk * secTk

/-- TOD_MESSAGE_MISSING (R282): no message came since an edge whose message is overdue. -/
def execTodMessageMissing (s : State) : Res :=
  act s (s.gt.tod.seq.isSome && decide (s.gt.ppsAt + 472500000 < s.now)
      && decide (s.gt.todAt < s.gt.todDue s.now)) (fun s =>
    { s with gt := { s.gt with tod := {}, todOk := false, todGot := false } })

/-! ## Alignment words and exchanges (R285 to R287, R294, R299, R301) -/

/-- Link `l` is usable here (R286). -/
def State.linkUsable (s : State) (l : Nat) : Bool :=
  let x := s.region (188 + l)
  x.racg.state == .locked && x.racg.shutter && !x.walking s.now && !s.ref.resync

/-- LINK_CFG.USE. -/
def GtLink.used (l : GtLink) : Bool := bit l.cfg 0

/-- The word a link sends (R285). -/
def State.alignWords (s : State) (l : Nat) : DWord × DWord :=
  (packD [(52, 12, s.gt.deviceId), (44, 8, s.gt.gen), (41, 3, s.gt.state.code),
      (40, 1, b2n (s.linkUsable l)), (0, 40, s.tk)],
   packD [(60, 4, s.gt.depth), (48, 12, s.gt.rootId), (32, 16, (Config.linkTxrx l).toNat),
      (0, 32, (s.link l).rxLast.toNat)])

/-- ALIGN_WORD_SEND (R285). -/
def execAlignWordSend (link : Nat) (s : State) : Res :=
  actAt "link" 16 link s
    ((s.link link).used && s.ref.tickValid && s.reached s.gt.periodTk 0) (fun s =>
    let w := s.alignWords link
    let s := s.updLink link (fun l => { l with launch := some s.tk, launchOld := l.launch })
    { s with out := { s.out with alignWord := some (link, w.1, w.2) } })

/-- The value with these low `n` bits that lies nearest an estimate (R287). -/
def nearest (n : Nat) (est : Int) (bits : Nat) : Int := est + (BitVec.ofInt n ((bits : Int) - est)).toInt

/-- The device's estimate of group TICK now, in LSB: its own count, corrected while it is joining. -/
def State.groupEst (s : State) : Int :=
  let own : Int := 64 * (s.tk : Int)
  match s.gt.state, s.gt.joinEdge with
  | .joining, some (stamp, g) => own - (stamp - g)
  | _, _ => own

/-- The launch of the local word that B's RX_LAST `b2` answers: the latest one not after it, within the microsecond of
the coarse layer, on B's scale (R287). DEDUCED, log entry 38. -/
def State.answered (s : State) (x : GtLink) (launch : Nat) (b2 : Int) : Nat :=
  if 64 * (launch : Int) + (s.groupEst - 64 * (s.tk : Int)) ≤ b2 + 64 * 525 then launch else x.launchOld.getD launch

/-- Theta in 1/42 ps and the delay in LSB of an exchange (R287). DEDUCED, log entry 38. -/
def State.exchange (s : State) (l launch : Nat) (w0 w1 : DWord) (stamp : Int) : Int × Int :=
  let b3 := 64 * nearest 40 (s.groupEst / 64) (fld w0 0 40)
  let b2 := nearest 32 b3 (fld w1 0 32)
  let a1 : Int := 64 * (s.answered (s.link l) launch b2 : Nat)
  let alpha := sfld w1 32 16 - (Config.linkTxrx l).toInt + sfld (s.link l).cfg 16 16
  ((stamp - b3 - (b2 - a1)) * 625 - 21 * alpha, (stamp - b3 + (b2 - a1)) / 2)

/-- A member loses its source (R294): it moves to the other one where that one serves, else HOLDOVER. -/
def State.sourceLost (s : State) (bits : Word) : State :=
  let g := s.gt
  if g.state.steers = false ∨ g.isRoot = true then s.raiseGt bits noLink
  else
    let l := s.link g.otherLink
    if l.heard ∧ l.peerId = g.otherId ∧ l.usable ∧ s.linkUsable g.otherLink ∧ g.member g.otherId
        ∧ l.peerRoot = g.rootId ∧ l.peerDepth + 1 ≤ g.depthMax then
      let s := { s with gt := { g with
        onAlt := !g.onAlt, srcSwitch := satAdd 0xFFFF g.srcSwitch 1, depth := l.peerDepth + 1,
        exchAt := s.now } }
      let far := decide (fld g.win 10 10 * 42 < l.thetaN.natAbs)
      s.gtEnter (if far then .pullIn else g.state) (bits ||| gtSourceSwitch) g.otherLink
    else
      ({ s with gt := { g.freeze with holdAt := s.now } } : State).gtEnter .holdover (bits ||| gtHoldover)
        g.sourceLink

/-- An exchange with the source while PULL_IN, ALIGNED or HOLDOVER (R288, R289). -/
def State.servo (s : State) (thetaN : Int) : State :=
  let g := s.gt
  match g.state with
  | .pullIn =>
    let s := s.steerBy thetaN g.periodTk
    let run := if thetaN.natAbs ≤ 42 * fld g.win 0 10 then g.winRun + 1 else 0
    if 8 ≤ run then s.gtEnter .aligned 0 noLink else { s with gt := { s.gt with winRun := run } }
  | .aligned =>
    let s := s.steerBy thetaN g.periodTk
    let run := if 42 * fld g.win 10 10 < thetaN.natAbs then g.unRun + 1 else 0
    if 2 ≤ run then s.gtEnter .pullIn 0 noLink else { s with gt := { s.gt with unRun := run } }
  | .holdover =>
    if thetaN.natAbs ≤ 800000 then s.gtEnter .pullIn 0 noLink else s.gtStandalone gtEjected
  | .standalone => s
  | .joining => s

/-- An exchange with the parent while JOINING: the second one forms the step (R291). -/
def State.joinExchange (s : State) (thetaN : Int) : State :=
  match s.gt.joinEdge with
  | some (stamp, g) =>
    if s.gt.stepPend.isSome then s
    else if s.gt.joinExch = 0 then { s with gt := { s.gt with joinExch := 1 } }
    else if fld s.gt.limits 16 16 * 80000 < (thetaN - (stamp - g) * 1250).natAbs then s.joinFail 3
    else s.formStep thetaN
  | none => s

/-- LINK_MEAS takes an exchange over link `l` (R287). -/
def State.measureLink (s : State) (l : Nat) (thetaN delay : Int) : State :=
  s.updLink l (fun x => { x with theta := psOf thetaN, thetaN := thetaN, delay := (delay % 65536).toNat })

/-- What an exchange with the source does (R288 to R291). -/
def State.onExchange (s : State) (l : Nat) (thetaN : Int) : State :=
  let g := s.gt
  let x := s.link l
  if g.isRoot = false ∧ l = g.sourceLink ∧ x.peerId = g.sourceId ∧ g.state ≠ .standalone then
    let s := { s with gt := { g with thetaPs := psOf thetaN, exchAt := s.now } }
    if g.state = .joining then
      let s := { s with gt := { s.gt with
        depth := min 15 (x.peerDepth + 1), rootId := x.peerRoot } }
      s.joinExchange thetaN
    else
      let s := { s with gt := { s.gt with depth := min 15 (x.peerDepth + 1) } }
      s.servo thetaN
  else s

/-- The source's word ends its service (R294): a ROOT that differs, or DEPTH 14 or 15. -/
def State.sourceFails (s : State) (l : Nat) : Option Word :=
  let g := s.gt
  let x := s.link l
  if g.isRoot = false ∧ l = g.sourceLink ∧ x.peerId = g.sourceId ∧
      (g.state = .pullIn ∨ g.state = .aligned ∨ g.state = .holdover) then
    if 14 ≤ x.peerDepth then some gtLoop else if x.peerRoot ≠ g.rootId then some 0 else none
  else none

/-- A word that membership accepts is recorded (R299, R301). -/
def State.hearWord (s : State) (l : Nat) (w0 w1 : DWord) (stamp : Int) : State :=
  let back := !(s.link l).heard && (s.link l).lost
  let s := s.updLink l (fun x => { x with
    peerId := fld w0 52 12, peerState := fld w0 41 3, usable := bit w0 40, heard := true, lost := false,
    peerDepth := fld w1 60 4, peerRoot := fld w1 48 12, lastOk := s.now,
    rxLast := BitVec.ofInt 32 stamp })
  if back then s.raiseGt gtPeerBack l else s

/-- The generation a word may carry (R299). -/
def State.genOk (s : State) (gen : Nat) : Bool :=
  gen == s.gt.gen % 256 || (match s.gt.commitAt with
    | some t => decide (s.now ≤ t + s.gt.periodTk) && gen == s.gt.prevGen % 256
    | none => false)

/-- ALIGN_WORD_RECEIVE (R286, R287, R294, R299, R301): a word that ends its source's service steers nothing.
DEDUCED, log entry 38. -/
def execAlignWordReceive (link : Nat) (w0 w1 : DWord) (pos : Nat) (s : State) : Res :=
  actAt "link" 16 link s (s.link link).used (fun s =>
    let stamp := s.stampAt pos
    if s.gt.member (fld w0 52 12) = false then
      { s with gt := { s.gt with nonMember := satAdd 0xFFFF s.gt.nonMember 1 } }
    else if s.genOk (fld w0 44 8) = false then
      ({ s with gt := { s.gt with genMism := satAdd 0xFFFF s.gt.genMism 1 } } : State).raiseGt
        gtGenMismatch link
    else
      let s := s.hearWord link w0 w1 stamp
      let theta := if bit w0 40 && s.linkUsable link then
          (s.link link).launch.map (fun a1 => s.exchange link a1 w0 w1 stamp) else none
      let s := match theta with
        | some e => s.measureLink link e.1 e.2
        | none => { s with gt := { s.gt with skips := satAdd 0xFFFF s.gt.skips 1 } }
      match s.sourceFails link, theta with
      | some b, _ => if s.gt.state = .holdover then s.raiseGt b noLink else s.sourceLost b
      | none, some e => s.onExchange link e.1
      | none, none => s)

/-- SOURCE_LOST (R294): MISS_LIMIT periods without an exchange. -/
def execSourceLost (s : State) : Res :=
  act s (s.gt.state.steers && !s.gt.isRoot
      && decide (s.gt.exchAt + s.gt.missLimit * s.gt.periodTk ≤ s.now)) (fun s => s.sourceLost 0)

/-- EJECTED (R289, R294): a member has been in HOLDOVER for HOLD_MAX. -/
def execEjected (s : State) : Res :=
  act s (s.gt.state == .holdover && decide (s.gt.holdAt + s.gt.holdMaxTk ≤ s.now)) (fun s =>
    s.gtStandalone gtEjected)

/-- PEER_LOST (R301). -/
def execPeerLost (link : Nat) (s : State) : Res :=
  actAt "link" 16 link s ((s.link link).heard
      && decide ((s.link link).lastOk + s.gt.missLimit * s.gt.periodTk ≤ s.now)) (fun s =>
    (s.updLink link (fun l => { l with heard := false, lost := true })).raiseGt gtPeerLost link)

/-! ## JOIN, LEAVE and the TICK step (R290 to R293) -/

/-- A JOIN is accepted (R290). -/
def State.joinOk (s : State) : Bool :=
  let g := s.gt
  g.state == .standalone && g.gen != 0 && g.member g.deviceId
    && (g.isRoot || (g.member g.parentId && (s.link g.parentLink).used))

/-- JOIN written. -/
def State.joinGt (s : State) : State :=
  if s.joinOk then
    ({ s with gt := { s.gt with joinAt := s.now, joinEdge := none, joinExch := 0, failReason := 0 } }
      : State).gtEnter .joining 0 noLink
  else s.raiseGt gtCmdRefused noLink

/-- LEAVE written. -/
def State.leaveGt (s : State) : State :=
  if s.gt.state = .standalone then s.raiseGt gtCmdRefused noLink
  else ({ s with gt := { s.gt with integ := 0 } } : State).gtStandalone 0

/-- JOIN (R290). -/
def execJoin (p : Path) (s : State) : Res := writeAct s p 0x05000 State.joinGt

/-- LEAVE (R290). -/
def execLeave (p : Path) (s : State) : Res := writeAct s p 0x05000 State.leaveGt

/-- JOIN_TIMEOUT (R291): a wait of JOINING exceeds 3 s. -/
def execJoinTimeout (s : State) : Res :=
  act s (s.gt.state == .joining && s.gt.stepPend.isNone
      && decide (s.gt.joinAt + 3 * secTk < s.now)) (fun s =>
    s.joinFail (if s.gt.joinEdge.isNone then 1 else 2))

/-- TO_DIV (R304, R307). -/
def GroupTick.toDiv (g : GroupTick) : Nat :=
  match fld g.ctl 4 2 with
  | 1 => 525
  | 2 => 5250
  | _ => 21

/-- A step of TICK passes a value (R293). DEDUCED, log entry 38. -/
def passes (before after v : Nat) : Bool := decide (before < v) && decide (v ≤ after)

/-- What a link keeps on the device's own scale moves with the step. -/
def GtLink.shift (x : GtLink) (step : Nat) : GtLink :=
  { x with
    launch := x.launch.map (· + step), launchOld := x.launchOld.map (· + step),
    rxLast := x.rxLast + BitVec.ofNat 32 (64 * step) }

/-- A compare slot or a commit that the step passes is due in the die tick of the step. -/
def CmpSlot.shift (c : CmpSlot) (before after now : Nat) : CmpSlot :=
  if c.armed ∧ passes before after c.cmp.toNat then { c with late := true, armAt := now - 1 } else c

/-- The unit's own part of a step (R293): what keeps TICK values moves, what waits for one that is passed is due. -/
def GroupTick.shift (g : GroupTick) (before after step now : Nat) : GroupTick :=
  let due := g.comArmed && passes before after g.commitTick.toNat
  { g with
    ppsStamp := g.ppsStamp.map (· + 64 * (step : Int)),
    links := g.links.map (fun e => (e.1, e.2.shift step)),
    cmps := g.cmps.map (fun e => (e.1, e.2.shift before after now)),
    comLate := g.comLate || due, comAt := if due then now - 1 else g.comAt }

/-- A timed wait whose target the step passes ends with code 2 (R356, R357). -/
def Task.shift (before after : Nat) (k : Task) : Task :=
  match k.state with
  | .waiting (.timed target _) => if passes before after target then { k with stepped := true } else k
  | _ => k

/-- No door slot is ARMING, ARMED, CANCELLING or OPEN (R292). -/
def State.slotsClear (s : State) : Bool := (List.range 4).all (fun k => !(s.slot k).state.busy)

/-- TICK_STEP (R292): in the die tick whose TICK is a multiple of 21 the unit takes the snapshots, and the step follows
at the edge that ends it, after all that this die tick brings (R306). DEDUCED, log entry 38. -/
def execTickStep (s : State) : Res :=
  act s (s.gt.stepPend.isSome && decide (s.gt.stepAt < s.now) && s.tk % 21 == 0 && s.slotsClear) (fun s =>
    let s := (List.range 208).foldl (fun s r =>
      if (s.region r).racg.refLost then s else s.snapshotNext r causeSnap) s
    { s with log := { s.log with step := true } })

/-- What waits for TICK values and keeps them, after a step from `before` to `after` (R293). -/
def State.shiftTick (s : State) (before after step : Nat) : State :=
  { s with
    tick := BitVec.ofNat 64 after,
    log := { s.log with stepFrom := some before },
    gt := { s.gt.shift before after step s.now with lastStep := BitVec.ofNat 64 step },
    seq := { s.seq with tasks := s.seq.tasks.map (fun (e : Nat × Task) => (e.1, e.2.shift before after)) } }

/-- TICK_OUT is held low from a step until a multiple of its divisor at least one divisor later (R304). -/
def State.tickGap (s : State) : State :=
  { s with gt := { s.gt with gapUntil := s.gt.toDiv * ceilDiv (s.tk + s.gt.toDiv) s.gt.toDiv } }

/-- The step of TICK at a die-tick edge (R82, R292, R293, R304): a LEAVE or a slot in ARMING in the die tick that ends
has come first (R306). -/
def State.stepNow (s : State) : State :=
  match s.gt.stepPend with
  | none => s
  | some st =>
    if s.slotsClear = false ∨ st ≤ 0 then s
    else
      let step := st.toNat
      let before := s.tk - 1
      let s := s.shiftTick before (s.tk + step) step
      let gap := bit s.gt.ctl 3 && s.gt.toDiv != 21
      let s := if gap then s.tickGap else s
      let s := s.form 0xA1 0x152 [BitVec.ofNat 64 before, BitVec.ofNat 64 step]
      (s.joined (gtTickStepped ||| (if gap then gtToGap else 0))).measTickStep

/-! ## Compare slots (R298) -/

def State.cmpAt (s : State) (k : Nat) : CmpSlot := tget {} s.gt.cmps k
def State.setCmp (s : State) (k : Nat) (c : CmpSlot) : State :=
  { s with gt := { s.gt with cmps := tput s.gt.cmps k c } }

/-- ARM written. -/
def State.armCmp (s : State) (k : Nat) : State :=
  let c := s.cmpAt k
  s.setCmp k { c with armed := true, armAt := s.now, late := decide (c.cmp.toNat ≤ s.tk) }

/-- CMP_ARM (R298). -/
def execCmpArm (p : Path) (k : Nat) (s : State) : Res :=
  act s (decide (k < 8)) (fun s => s.gate p (0x05208 + 16 * k) (fun s => s.armCmp k))

/-- An armed slot fires in this die tick: TICK is at its CMP, or it was armed late or passed by a step (R293, R298). -/
def CmpSlot.fires (c : CmpSlot) (tk now : Nat) : Bool :=
  c.armed && decide (c.armAt < now) && (if c.late then c.armAt + 1 == now else c.cmp.toNat == tk)

/-- SLOT_FIRED (R293, R298). -/
def execSlotFired (k : Nat) (s : State) : Res :=
  let c := s.cmpAt k
  actAt "compare slot" 8 k s (c.fires s.tk s.now) (fun s =>
    let mis := c.late || !s.gt.aligned
    let s := s.setCmp k { c with armed := false, late := false }
    let s := s.raiseGt (gtSlotFired ||| (if mis then gtSlotMisaligned else 0)) noLink
    let s := s.form 0xA4 0x152 [packD [(0, 3, k), (3, 1, b2n mis), (8, 56, c.cmp.toNat)]]
    let s := if bit c.ctl 8 then s.raiseEvtLine (fld c.ctl 2 6) else s
    if bit c.ctl 9 then { s with out := { s.out with groupMark := some k } } else s)

/-! ## Membership (R300) -/

/-- COMMIT_ARM written. -/
def State.armCommit (s : State) : State :=
  { s with gt := { s.gt with
    comArmed := true, comAt := s.now, comLate := decide (s.gt.commitTick.toNat ≤ s.tk) } }

/-- COPY written. -/
def State.copyTable (s : State) : State := { s with gt := { s.gt with staged := s.gt.active } }

/-- COMMIT_ARM (R300). -/
def execCommitArm (p : Path) (s : State) : Res := writeAct s p 0x0505C State.armCommit

/-- COPY (R300). -/
def execCopy (p : Path) (s : State) : Res := writeAct s p 0x0505C State.copyTable

/-- An armed commit is due in this die tick: TICK is at COMMIT_TICK, or it was armed late or passed by a step
(R293, R300). -/
def GroupTick.commits (g : GroupTick) (tk now : Nat) : Bool :=
  g.comArmed && decide (g.comAt < now) && (if g.comLate then g.comAt + 1 == now else g.commitTick.toNat == tk)

/-- COMMIT (R300). -/
def execCommit (s : State) : Res :=
  act s (s.gt.commits s.tk s.now) (fun s =>
    let s := { s with gt := { s.gt with
      active := s.gt.staged, prevGen := s.gt.gen, gen := s.gt.nextGen, comArmed := false, comLate := false,
      commitAt := some s.now } }
    let s := s.raiseGt gtCommitDone noLink
    s.form 0xA3 0x152 [packD [(0, 16, s.gt.gen), (16, 16, s.gt.prevGen)]])

/-! ## Outputs (R303, R304) -/

/-- The state lets SYNC_OUT rise. -/
def GroupTick.syncState (g : GroupTick) : Bool :=
  bit g.ctl 2 && (g.state == .pullIn || g.state == .aligned || g.state == .holdover)

/-- SYNC_OUT_PULSE (R303). -/
def execSyncOutPulse (s : State) : Res :=
  act s (s.gt.syncState && s.ref.tickValid && s.reached secTk 0) (fun s =>
    { s with gt := { s.gt with syncOutAt := some s.now } })

/-- The level of SYNC_OUT. -/
def State.syncOut (s : State) : Bool :=
  s.gt.syncState && (match s.gt.syncOutAt with
    | some t => decide (s.now < t + us100Tk)
    | none => false)

/-- Enabling and disabling TICK_OUT take effect at a falling edge: the unit's part of a die tick. -/
def State.gtTick (s : State) : State :=
  if s.reached s.gt.toDiv (s.gt.toDiv / 2) then { s with gt := { s.gt with toOn := bit s.gt.ctl 3 } } else s

/-- The level of TICK_OUT. -/
def State.tickOut (s : State) : Bool :=
  s.gt.toOn && decide (s.gt.gapUntil ≤ s.tk) && decide (s.tk % s.gt.toDiv < s.gt.toDiv / 2)

/-! ## Registers (R307, R308) -/

/-- A register that is written only in STANDALONE (R308). -/
def State.gtConfig (s : State) (f : GroupTick → GroupTick) : State :=
  if s.gt.state = .standalone then { s with gt := f s.gt } else s.raiseGt gtCmdRefused noLink

/-- A write of GT_CTL: a change of TO_DIV only in STANDALONE (R308), then JOIN and LEAVE.
DEDUCED, log entry 38. -/
def State.writeGtCtl (s : State) (v : Word) : State :=
  let s := if fld v 4 2 = fld s.gt.ctl 4 2 then s
    else s.gtConfig (fun g => { g with ctl := rwBits 0x30 g.ctl v })
  let s := { s with gt := { s.gt with ctl := rwBits 0x4C s.gt.ctl v } }
  let s := if bit v 0 then s.joinGt else s
  if bit v 1 then s.leaveGt else s

/-- A write of a link register: only LINK_CFG. -/
def State.writeLink (s : State) (l off : Nat) (v : Word) : State :=
  if off = 0 then
    s.gtConfig (fun g => { g with
      links := tput g.links l { tget {} g.links l with cfg := v &&& 0xFFFF0001 } })
  else s

/-- A write of a compare slot register; ARM last. -/
def State.writeCmp (s : State) (k off : Nat) (v : Word) : State :=
  let c := s.cmpAt k
  match off with
  | 0x0 => s.setCmp k { c with cmp := joinWords v (hiWord c.cmp) }
  | 0x4 => s.setCmp k { c with cmp := joinWords (loWord c.cmp) v }
  | 0x8 =>
    let s := s.setCmp k { c with ctl := v &&& 0x3FC }
    if bit v 0 then s.armCmp k else s
  | _ => s

/-- A write of MEMB_CTL. -/
def State.writeMembCtl (s : State) (v : Word) : State :=
  let s := if bit v 2 then s.copyTable else s
  if bit v 0 then s.armCommit else s

/-- A write of a register of the block at 0x05000 to 0x06FFF. -/
def State.writeGt (s : State) (off : Nat) (v : Word) : State :=
  if 0x05100 ≤ off ∧ off < 0x05200 then s.writeLink ((off - 0x05100) / 16) (off % 16) v
  else if 0x05200 ≤ off ∧ off < 0x05280 then s.writeCmp ((off - 0x05200) / 16) (off % 16) v
  else if 0x06400 ≤ off ∧ off < 0x06600 then
    { s with gt := { s.gt with staged := mput 0 s.gt.staged ((off - 0x06400) / 4) v } }
  else match off with
  | 0x05000 => s.writeGtCtl v
  | 0x05008 => { s with gt := { s.gt with event := s.w1c 0x05008 s.gt.event v } }
  | 0x0500C => { s with gt := { s.gt with eventEn := v &&& 0x7FFFF } }
  | 0x05010 => s.gtConfig (fun g => { g with id := v &&& 0x0FFF0FFF })
  | 0x05014 => s.gtConfig (fun g => { g with role := v &&& 0x0FFF1FFF })
  | 0x05018 => s.gtConfig (fun g => { g with epoch := v })
  | 0x0501C => s.gtConfig (fun g => { g with servo := v })
  | 0x05020 => { s with gt := { s.gt with win := v &&& 0xFFFFF } }
  | 0x05024 => { s with gt := { s.gt with limits := v } }
  | 0x0502C => { s with gt := { s.gt with limits2 := v &&& 0xFFFFFF } }
  | 0x05050 => { s with gt := { s.gt with nextGen := fld v 16 16 } }
  | 0x05054 => { s with gt := { s.gt with commitTick := joinWords v (hiWord s.gt.commitTick) } }
  | 0x05058 => { s with gt := { s.gt with commitTick := joinWords (loWord s.gt.commitTick) v } }
  | 0x0505C => s.writeMembCtl v
  | _ => s

/-- The registers R308 names. -/
def gtConfigOff (off : Nat) : Bool :=
  off == 0x05000 || off == 0x05010 || off == 0x05014 || off == 0x05018 || off == 0x0501C
    || (decide (0x05100 ≤ off) && decide (off < 0x05200) && off % 16 == 0)

/-- GT_STATUS. -/
def State.gtStatus (s : State) : Word :=
  let g := s.gt
  packW [(0, 3, g.state.code), (3, 1, b2n g.aligned), (4, 1, b2n g.stepPend.isSome),
    (5, 1, b2n (s.steerApplied != g.steer)), (6, 4, g.depth), (10, 1, b2n g.onAlt),
    (11, 1, b2n g.ppsOk), (12, 1, b2n g.todOk), (13, 3, g.failReason), (16, 12, g.rootId)]

/-- A link register. -/
def State.linkRead (s : State) (l off : Nat) : Word :=
  let x := s.link l
  match off with
  | 0x0 => x.cfg
  | 0x4 => packW [(0, 12, x.peerId), (12, 3, x.peerState), (15, 1, b2n x.heard), (16, 4, x.peerDepth),
      (20, 12, x.peerRoot)]
  | 0x8 => packW [(0, 16, twos 16 x.theta), (16, 16, x.delay)]
  | 0xC => packW [(0, 16, (Config.linkTxrx l).toNat)]
  | _ => 0

/-- A compare slot register. -/
def State.cmpRead (s : State) (k off : Nat) : Word :=
  let c := s.cmpAt k
  match off with
  | 0x0 => loWord c.cmp
  | 0x4 => hiWord c.cmp
  | 0x8 => c.ctl ||| (if c.armed then 2 else 0)
  | _ => 0

/-- A register of the block at 0x05000 to 0x06FFF. -/
def State.gtRead (s : State) (off : Nat) : Word :=
  let g := s.gt
  if 0x05100 ≤ off ∧ off < 0x05200 then s.linkRead ((off - 0x05100) / 16) (off % 16)
  else if 0x05200 ≤ off ∧ off < 0x05280 then s.cmpRead ((off - 0x05200) / 16) (off % 16)
  else if 0x06000 ≤ off ∧ off < 0x06200 then tget 0 g.active ((off - 0x06000) / 4)
  else if 0x06400 ≤ off ∧ off < 0x06600 then tget 0 g.staged ((off - 0x06400) / 4)
  else match off with
  | 0x05000 => g.ctl
  | 0x05004 => s.gtStatus
  | 0x05008 => g.event
  | 0x0500C => g.eventEn
  | 0x05010 => g.id
  | 0x05014 => g.role
  | 0x05018 => g.epoch
  | 0x0501C => g.servo
  | 0x05020 => g.win
  | 0x05024 => g.limits
  | 0x05028 => packW [(0, 16, twos 16 g.integ), (16, 16, twos 16 g.steer)]
  | 0x0502C => g.limits2
  | 0x05030 => packW [(0, 32, twos 32 g.thetaPs)]
  | 0x05034 => packW [(0, 32, twos 32 g.ppsErr)]
  | 0x05038 => BitVec.ofNat 32 g.todSec
  | 0x0503C => packW [(0, 16, g.todSec / 2 ^ 32), (16, 8, g.todFlags), (24, 8, g.todSeqNo)]
  | 0x05040 => loWord g.lastStep
  | 0x05044 => hiWord g.lastStep
  | 0x05048 => packW [(0, 16, g.skips), (16, 16, g.genMism)]
  | 0x0504C => packW [(0, 16, g.nonMember), (16, 16, g.srcSwitch)]
  | 0x05050 => packW [(0, 16, g.gen), (16, 16, g.nextGen)]
  | 0x05054 => loWord g.commitTick
  | 0x05058 => hiWord g.commitTick
  | 0x0505C => if g.comArmed then 2 else 0
  | _ => 0

/-- GT_CONFIG_WRITE (R308). -/
def execGtConfigWrite (p : Path) (off : Nat) (v : Word) (s : State) : Res :=
  act s (gtConfigOff off) (fun s => s.gateRw p off (s.gtRead off) (fun s => s.writeGt off v))

end Sys2Proof.Machine
end

