-- ==== Sys2Proof/Machine/Hazard.lean ====
section
/-! DEFINITION. The hazard monitor, the logical core map, fencing and adoption, feed events, snapshot
requests and stamps (chapter 11). -/

namespace Sys2Proof.Machine

open Sys2Proof

/-! ## Scores and indices (R311, R312) -/

/-- A knee pair. -/
def State.knee (s : State) (k : Nat) : Word := tget (kneeReset k) s.hz.knees k

/-- The knee pair of an update: as the die tick found it (R333). -/
def State.kneeWas (s : State) (k : Nat) : Word := s.began (0x04020 + 4 * k) (s.knee k)

/-- The score of an input (R311). -/
def kneeScore (k : Word) (x : Nat) : Nat :=
  let lo := fld k 0 16
  let hi := fld k 16 16
  if hi ≤ lo then 0 else if x ≤ lo then 0 else if hi ≤ x then 255 else 255 * (x - lo) / (hi - lo)

/-- The inverted score of MARGIN (R311). -/
def kneeScoreInv (k : Word) (x : Nat) : Nat :=
  let lo := fld k 0 16
  let hi := fld k 16 16
  if hi ≤ lo then 0 else if x ≤ lo then 255 else if hi ≤ x then 0 else 255 * (hi - x) / (hi - lo)

/-- The filter of R312. -/
def hzFilter (rise fall r h : Nat) : Nat :=
  if h < r then h + ceilDiv (r - h) (2 ^ rise)
  else if r < h then h - ceilDiv (h - r) (2 ^ fall) else h

def Hazard.rise (z : Hazard) : Nat := fld z.ctl 4 4
def Hazard.fall (z : Hazard) : Nat := fld z.ctl 8 4
def Hazard.deepBin (z : Hazard) : Nat := max 1 (min 8 (fld z.ctl 16 4))

/-- The episodes of an update, all bins and from DEEP_BIN up (R310). -/
def HzRegion.episodes (h : HzRegion) (deep : Nat) : Nat × Nat :=
  (sumL h.bins, sumL (h.bins.drop (deep - 1)))

/-- The inputs of an update: a stale one keeps its value of the last update in which it was not (R310).
DEDUCED, log entry 40. -/
def State.gather (s : State) (r : Nat) (h : HzRegion) : HzRegion × Nat :=
  let x := s.region r
  let lost := h.refLost || x.racg.refLost
  let ran := h.ran || x.racg.running
  let h' := { h with
    lastDroop := if lost then h.lastDroop else some (h.episodes s.hz.deepBin),
    lastCal := if x.cal.valid then some (x.cal.drift, x.cal.age s.now) else h.lastCal,
    lastMargin := if ran then some (x.margin.avg s.now) else h.lastMargin,
    lastTherm := if h.conv then some x.thermal.slope.toNat else h.lastTherm }
  (h', b2n lost + b2n (!x.cal.valid) + b2n (!ran) + b2n (!h.conv))

/-- The six scores of R310. DEDUCED, log entry 40. -/
def State.scores (s : State) (h : HzRegion) (stale : Nat) : List Nat :=
  let droop := match h.lastDroop with
    | some (n, d) => (kneeScore (s.kneeWas 0) n, kneeScore (s.kneeWas 1) d)
    | none => (0, 0)
  let cal := match h.lastCal with
    | some (d, a) => max (kneeScore (s.kneeWas 2) d) (kneeScore (s.kneeWas 3) a)
    | none => 0
  let margin := match h.lastMargin with
    | some v => kneeScoreInv (s.kneeWas 4) v
    | none => 0
  let therm := match h.lastTherm with
    | some v => kneeScore (s.kneeWas 5) v
    | none => 0
  [droop.1, droop.2, cal, margin, therm, min 255 (64 * stale)]

/-- R of a region (R312). -/
def weigh (wt : Word) (scores : List Nat) : Nat :=
  min 1023 (sumL ((List.range 6).map (fun i => fld wt (4 * i) 4 * nth scores i)) / 4)

/-- A region is scored (R309, R333). -/
def State.isScored (s : State) (r : Nat) : Bool :=
  (s.region r).racg.state != .off && !(s.hzr r).fenced && s.hz.fence.target != some r

/-- The weights of a region in an update: as the die tick found them (R312, R333). -/
def State.weights (s : State) (r : Nat) : Word :=
  if isCore r then s.began 0x04010 s.hz.wtCore else s.began 0x04014 s.hz.wtOther

/-- The latch of one region: its new values wait for the effect, and gathering begins again. -/
def State.latchRegion (s : State) (r : Nat) : State :=
  let h := s.hzr r
  let g := (s.region r).racg
  let h' := if s.isScored r then
      let (k, stale) := s.gather r h
      let sc := s.scores k stale
      let raw := weigh (s.weights r) sc
      { k with next := some (hzFilter s.hz.rise s.hz.fall raw h.h, raw, stale, sc) }
    else { h with next := none }
  s.setHzr r { h' with
    bins := [0, 0, 0, 0, 0, 0, 0, 0], refLost := g.refLost, ran := g.running, conv := false }

/-! ## The die index (R314, R315) -/

/-- A region and its H put into the list of the highest four, highest first. -/
def top4Put (e : Nat × Nat) : List (Nat × Nat) → List (Nat × Nat)
  | [] => [e]
  | x :: l => if x.2 < e.2 then e :: x :: l else x :: top4Put e l

/-- The four highest new H of the regions scored; a missing one is region 0xFF with H 0.
DEDUCED, log entry 40. -/
def State.topFour (s : State) : List (Nat × Nat) :=
  let l := (List.range 208).foldl (fun l r => match (s.hzr r).next with
    | some (h, _) => (top4Put (r, h) l).take 4
    | none => l) []
  l ++ List.replicate (4 - l.length) (0xFF, 0)

/-- The accumulators at an update: HOLDOVER or SLEW raises A_REF; each falls by 1 in every 2^DECAY
updates. DEDUCED, log entry 40. -/
def Hazard.accumulate (z : Hazard) : Hazard :=
  let n := z.updates + 1
  let z := { z with updates := n, aRef := if z.rootBad then satAdd 65535 z.aRef 16 else z.aRef }
  if n % 2 ^ fld z.ctl 12 4 = 0 then
    { z with aRef := z.aRef - 1, aRoot := z.aRoot - 1, aFeed := z.aFeed - 1 }
  else z

/-- SHARES of a partner: valid, with the device's own Feed ID (R328, R330). -/
def Hazard.feedId (z : Hazard) : Nat := 16 * z.feedCfg + z.feedStrap
def Hazard.shares (z : Hazard) (k : Nat) : Bool :=
  let p := tget (0 : Word) z.partners k
  bit p 12 && fld p 16 12 == z.feedId
def Hazard.sharesAny (z : Hazard) : Bool := (List.range 4).any z.shares

/-- The die's new values from the scores of the update and the highest four H (R315). -/
def State.dieNext (s : State) : State :=
  let z := s.hz
  let wt := s.began 0x04018 z.wtDie
  let top4 := s.topFour
  let top := (sumL (top4.map (·.2))) / 4
  let f := if z.sharesAny then 2 else 1
  let raw := min 1023 (top
    + (fld wt 0 4 * z.scoreRef + fld wt 4 4 * z.scoreRoot + f * fld wt 8 4 * z.scoreFeed) / 4)
  { s with hz := { z with dNext := some (hzFilter z.rise z.fall raw z.d, raw, top), top4 := top4 } }

/-- The die part of a latch. -/
def State.latchDie (s : State) : State :=
  let z := s.hz.accumulate
  let bad := s.ref.tickValid
    && (s.ref.activeRoot.state == .holdover || s.ref.activeRoot.state == .slew)
  ({ s with hz := { z with
    scoreRef := kneeScore (s.kneeWas 6) z.aRef, scoreRoot := kneeScore (s.kneeWas 7) z.aRoot,
    scoreFeed := kneeScore (s.kneeWas 8) z.aFeed, rootBad := bad, latchAt := some s.now,
    lmap := z.lmap.map (fun e => (e.1, { e.2 with told := false })) } } : State).dieNext

/-- A region that a FENCE takes in the die tick of a latch is not scored in that update (R333). -/
def State.unscore (s : State) (r : Nat) : State :=
  if s.hz.latchAt = some s.now then (s.updHzr r (fun h => { h with next := none })).dieNext else s

/-- HAZARD_UPDATE (R309 to R315): the spans of the update end first. -/
def execHazardUpdate (s : State) : Res :=
  act s (bit s.hz.ctl 0 && s.ref.tickValid && s.reached 65536 0 && s.hz.latchAt != some s.now) (fun s =>
    ((List.range 208).foldl State.latchRegion s.endSpans).latchDie)

/-! ## The effect: thresholds (R316, R317) -/

/-- HZ_REGION. -/
def State.hzRegionWord (s : State) (r : Nat) : Word :=
  let h := s.hzr r
  packW [(0, 10, h.h), (10, 10, h.fenceTh), (20, 1, b2n h.fenceReq), (21, 1, b2n h.fenced),
    (22, 1, b2n h.scored), (23, 3, h.staleN)]

/-- A region's new index and what it says of FENCE_REQ, judged on the thresholds the die tick found (R333). -/
def State.effectRegion (s : State) (r : Nat) : State :=
  let h := s.hzr r
  let lost := (s.region r).racg.refLost
  let th := fld (s.began (0x04400 + 4 * r) (s.hzRegionWord r)) 10 10
  let cfg := s.began 0x04054 s.hz.fenceCfg
  let hyst := fld cfg 0 10
  let need := max 1 (fld cfg 10 4)
  let k := match h.next with
    | some (v, raw, stale, sc) =>
      if h.fenced then { h with scored := true, next := none }
      else { h with h := v, raw := raw, staleN := stale, scores := sc, scored := true, next := none }
    | none => { h with
        h := if ((s.region r).racg.state == RacgState.off && !h.fenced) = true then 0 else h.h,
        raw := 0, staleN := 0, scores := [0, 0, 0, 0, 0, 0], scored := false }
  let dwell := if k.scored ∧ !k.fenced ∧ th ≠ 0 ∧ th ≤ k.h then k.dwell + 1 else 0
  let holds := decide (th ≤ k.h + hyst)
  let byRef := k.byRef && lost
  let keep := if k.byRef then byRef || (decide (th ≠ 0) && holds) else holds
  let s := s.setHzr r { k with dwell := dwell, byRef := byRef, fenceReq := k.fenceReq && keep }
  if need ≤ dwell ∧ (s.hzr r).fenceReq = false then s.requestFence r false else s

/-- The threshold cause of R317: armed again first, then judged. -/
def State.judgeThreshold (s : State) : State :=
  let z := s.hz
  let cfg := s.began 0x04050 z.snapCfg
  let th := fld cfg 0 10
  let armed := z.threshArmed || decide (z.d + fld cfg 10 10 < th)
    || decide (z.dLast + fld cfg 24 8 ≤ z.d)
  let dwell := if th ≠ 0 ∧ th ≤ z.d then z.snapDwell + 1 else 0
  let s := { s with hz := { z with threshArmed := armed, snapDwell := dwell } }
  if armed ∧ max 1 (fld cfg 20 4) ≤ dwell then
    ({ s with hz := { s.hz with threshArmed := false, dLast := z.d } } : State).raiseCause 0 0xFF
  else s

/-- The summary coach (R332, type 0xB6). -/
def Hazard.summary (z : Hazard) : List DWord :=
  let e := fun i => z.top4.getD i (0xFF, 0)
  [packD [(0, 10, z.d), (10, 10, z.dRaw), (20, 10, z.top), (30, 8, z.scoreRef), (38, 8, z.scoreRoot),
      (46, 8, z.scoreFeed)],
   packD [(0, 8, (e 0).1), (8, 10, (e 0).2), (18, 8, (e 1).1), (26, 10, (e 1).2)],
   packD [(0, 8, (e 2).1), (8, 10, (e 2).2), (18, 8, (e 3).1), (26, 10, (e 3).2)]]

/-- HAZARD_UPDATE_EFFECT (R309, R312, R315 to R318): 256 tk after the latch. -/
def execHazardUpdateEffect (s : State) : Res :=
  act s (bit s.hz.ctl 0 && (match s.hz.latchAt with
      | some t => decide (t + 256 ≤ s.now)
      | none => false)) (fun s =>
    let s := { s with log := { s.log with dWas := some s.hz.d } }
    let s := match s.hz.dNext with
      | some (d, raw, top) =>
        { s with hz := { s.hz with d := d, dRaw := raw, top := top, dNext := none, latchAt := none } }
      | none => { s with hz := { s.hz with latchAt := none } }
    let s := ((List.range 208).foldl State.effectRegion s).judgeThreshold
    let s := if bit s.hz.ctl 1 then s.form 0xB6 0x153 s.hz.summary else s
    s)

/-! ## The logical core map (R319, R320) -/

/-- The age of an entry. -/
def State.entryAge (s : State) (l : Nat) : Nat := (s.hz.mapGen + 65536 - (s.lmapAt l).gen) % 65536

/-- Ages stop at 32,767. -/
def State.capAge (s : State) (l : Nat) : State :=
  if 32767 < s.entryAge l then
    s.setLmap l { s.lmapAt l with gen := (s.hz.mapGen + 65536 - 32767) % 65536 }
  else s

/-- How the map port judges a message (R320). -/
inductive MapVerdict where
  | deliver (r : Nat)
  | stale
  | unmapped
  deriving DecidableEq, Repr

def State.judge (s : State) (l gen : Nat) : MapVerdict :=
  if 143 < l then .unmapped
  else if s.entryAge l < (s.hz.mapGen + 65536 - gen % 65536) % 65536 then .stale
  else match (s.lmapAt l).slot with
    | some k => .deliver (10 * (l / 9) + k)
    | none => .unmapped

/-- A drop: its event and count, and the coach of the first drop of the update for this ID. -/
def State.mapDrop (s : State) (l gen origin : Nat) (unmapped : Bool) : State :=
  let b : Word := if unmapped then 0x40 else 0x20
  let s := ({ s with hz := { s.hz with
    event := s.hz.event ||| b,
    stale := if unmapped then s.hz.stale else satAdd 0xFFFF s.hz.stale 1,
    unmapped := if unmapped then satAdd 0xFFFF s.hz.unmapped 1 else s.hz.unmapped } } : State).mark 0x04008 b
  let e := s.lmapAt l
  if e.told then s
  else
    (s.setLmap l { e with told := true }).form 0xB4 0x153
      [packD [(0, 8, l), (8, 16, gen), (24, 16, if l < 144 then e.gen else 0), (40, 16, s.hz.mapGen),
        (56, 2, origin), (58, 1, b2n unmapped)]]

/-- A message or command judged on the map, origin 0 map port, 1 command port. -/
def State.mapJudge (s : State) (l gen origin : Nat) : State × MapVerdict :=
  match s.judge l gen with
  | .deliver r => (s, .deliver r)
  | .stale => (s.mapDrop l gen origin false, .stale)
  | .unmapped => (s.mapDrop l gen origin true, .unmapped)

/-- A message is judged and delivered or dropped; a delivered one is kept for a map change later in its die tick. -/
def State.mapMessage (s : State) (l gen : Nat) : State :=
  match s.mapJudge l gen 0 with
  | (s', .deliver r) =>
    { s' with out := { s'.out with delivered := some r }, log := { s'.log with msgs := s'.log.msgs ++ [(l, gen)] } }
  | (s', _) => { s' with out := { s'.out with delivered := none } }

/-- MAP_PORT_MESSAGE (R320): an ID is a byte, a generation 16 bits. -/
def execMapPortMessage (logical gen : Nat) (s : State) : Res :=
  act s true (fun s => s.mapMessage (logical % 256) (gen % 65536))

/-- Carriage 1 of a command with the bits the port writes (R383): STALE, UNMAPPED, REGION. -/
def portBits (c : DWord) (stale unmapped : Bool) (region : Nat) : DWord :=
  (c &&& 0x00F9FFFFFFFFFFFF) ||| packD [(49, 1, b2n stale), (50, 1, b2n unmapped), (56, 8, region)]

/-- The port judges a command by logical ID (R382): its carriage 1, and whether it names a region. -/
def State.portJudge (s : State) (c : DWord) : State × DWord × Bool :=
  match s.mapJudge (fld c 40 8) (fld c 24 16) 1 with
  | (s, .deliver r) => (s, portBits c false false r, true)
  | (s, .stale) => (s, portBits c true false 0xFF, false)
  | (s, .unmapped) => (s, portBits c false true 0xFF, false)

/-- A command by logical ID that the port formed in this die tick is judged again. -/
def State.portAgain (s : State) : State :=
  match s.cmd.busy, s.log.byLogical with
  | some (h :: c :: rest), true =>
    let (s, c, ok) := s.portJudge c
    { s with cmd := { s.cmd with busy := some (h :: c :: rest) }, log := { s.log with byLogical := ok } }
  | _, _ => s

/-- The messages, and the command, of this die tick that the old map delivered are judged on the new one (R333, R387).
DEDUCED, log entry 40. -/
def State.mapAgain (s : State) : State :=
  (s.log.msgs.foldl (fun (s : State) m => s.mapMessage m.1 m.2)
    { s with log := { s.log with msgs := [] } }).portAgain

/-- A change of the map: the entry, MAP_GEN, MAP_CHANGE and its coach (R319). -/
def State.mapChange (s : State) (l : Nat) (slot : Option Nat) : State :=
  let old := (s.lmapAt l).slot
  let gen := (s.hz.mapGen + 1) % 65536
  let s := ({ s with hz := { s.hz with
    mapGen := gen, lastLogical := l, event := s.hz.event ||| 0x100 } } : State).mark 0x04008 0x100
  let s := s.setLmap l { s.lmapAt l with slot := slot, gen := gen }
  let s := (List.range 144).foldl State.capAge s
  (s.form 0xB5 0x153
    [packD [(0, 16, gen), (16, 8, l), (24, 4, slot.getD 0xF), (28, 4, old.getD 0xF)]]).mapAgain

/-! ## Fencing and adoption (R322 to R326, R467) -/

/-- The logical ID a region maps. -/
def State.logicalOf (s : State) (r : Nat) : Option Nat :=
  ((List.range 9).map (9 * (r / 10) + ·)).find? (fun l => (s.lmapAt l).slot == some (r % 10))

/-- A command is refused: its reason, and the coach. DEDUCED, log entry 40. -/
def State.fenceRefuse (s : State) (r : Nat) (l : Option Nat) (reason : Nat) : State :=
  ({ s with hz := { s.hz with reason := reason } } : State).raiseFence 3 r (l.getD 0xFF) 0xFF reason

/-- Why an ADOPT would be refused, 0 for not. DEDUCED, log entry 40. -/
def State.adoptReason (s : State) (l : Option Nat) : Nat :=
  match l with
  | none => 10
  | some l =>
    if 143 < l then 9
    else if (s.lmapAt l).slot.isSome then 6
    else match s.clusterSpare (l / 9) with
      | none => 7
      | some k =>
        let x := s.region (10 * (l / 9) + k)
        if x.racg.state = .locked ∧ x.racg.shutter = false ∧ x.cal.valid = true then 0 else 8

/-- The couplers with an end in a region. -/
def couplersOf (r : Nat) : List Nat := (List.range 832).filter (fun i => cplTouches i r)

/-- The state takes a DRAIN. -/
def CplState.drains : CplState → Bool
  | .flowing => true
  | .holding => true
  | .held => true
  | .disabled => false
  | .draining => false
  | .drained => false

/-- DRAIN written to couplers of a region, SIDE naming it (R323). -/
def State.drainAll (s : State) (r : Nat) (l : List Nat) : State :=
  (l.filter (fun i => (s.cpl i).state.drains)).foldl
    (fun s i => s.cplCommand i 2 (cplOwner i != r)) s

/-- An ADOPT is accepted: ENABLE to the spare's couplers (R324, +0). -/
def State.startAdopt (s : State) (r l : Nat) : State :=
  match s.clusterSpare (l / 9) with
  | none => s
  | some k =>
    let sp := 10 * (l / 9) + k
    let on := (couplersOf sp).filter (fun i =>
      (s.cpl i).state == .disabled || (s.cpl i).state == .drained)
    let s := on.foldl (fun s i => s.cplCommand i 1 false) s
    { s with hz := { s.hz with fence := .adopting r sp l s.now 0 on } }

/-- FENCE written. -/
def State.fenceCmd (s : State) (r : Nat) (adopt : Bool) : State :=
  if s.hz.fence ≠ .idle then s.fenceRefuse r none 4
  else if 159 < r then s.fenceRefuse r none 1
  else if (s.region r).racg.state = .off then s.fenceRefuse r none 2
  else if (s.hzr r).fenced then s.fenceRefuse r none 3
  else
    let l := s.logicalOf r
    let s := ({ s with hz := { s.hz with fence := .fencing r l adopt s.now 0, lastRegion := r } } : State).unscore r
    match l with
    | some l => s.mapChange l none
    | none => s

/-- ADOPT written. -/
def State.adoptCmd (s : State) (l : Nat) : State :=
  let why := if s.hz.fence ≠ .idle then 4 else s.adoptReason (some l)
  if why = 0 then s.startAdopt 0xFF l else s.fenceRefuse 0xFF (some l) why

/-- UNFENCE written (R326). -/
def State.unfenceCmd (s : State) (r : Nat) : State :=
  if s.hz.fence ≠ .idle then s.fenceRefuse r none 4
  else if 159 < r then s.fenceRefuse r none 1
  else if (s.hzr r).fenced = false then s.fenceRefuse r none 5
  else
    let s := s.updHzr r (fun h => { h with fenced := false, h := 0, dwell := 0, next := none })
    ({ s with hz := { s.hz with lastRegion := r } } : State).raiseFence 2 r 0xFF 0xFF 0

/-- A write of FENCE_CMD (R322). -/
def State.writeFenceCmd (s : State) (cmd target : Nat) (adopt : Bool) : State :=
  match cmd with
  | 1 => s.fenceCmd target adopt
  | 2 => s.adoptCmd target
  | 3 => s.unfenceCmd target
  | _ => s

/-- FENCE (R322, R323): the map at once; CLOSE and DRAIN at their ticks. The host's is without effect while the
sequencer is halted (R30). -/
def execFence (p : Path) (target : Nat) (adopt : Bool) (s : State) : Res :=
  writeAct s p 0x04074 (fun s => if s.frozen p then s else s.fenceCmd (target % 256) adopt)

/-- ADOPT (R322, R324). The host's is without effect while the sequencer is halted (R30). -/
def execAdopt (p : Path) (logical : Nat) (s : State) : Res :=
  writeAct s p 0x04074 (fun s => if s.frozen p then s else s.adoptCmd (logical % 256))

/-- UNFENCE (R322, R326). -/
def execUnfence (p : Path) (target : Nat) (s : State) : Res :=
  writeAct s p 0x04074 (fun s => s.unfenceCmd (target % 256))

/-- FENCE_RESERVED_CMD (R322): CMD 0 names no command. -/
def execFenceReservedCmd (p : Path) (target : Nat) (s : State) : Res :=
  writeAct s p 0x04074 (fun s => s.writeFenceCmd 0 (target % 256) false)

/-- What the fence unit does at its ticks (R323, R324, R467): +1 CLOSE, +4 DRAIN; +13 the map, +14 OPEN;
after a refused OPEN +15 the map, +16 DRAIN. It runs without the sequencer (R325). DEDUCED, log entry 40. -/
def State.fenceTick (s : State) : State :=
  match s.hz.fence with
  | .idle => s
  | .fencing r l a t 0 =>
    if t + 1 ≤ s.now then
      ({ s with hz := { s.hz with fence := .fencing r l a t 1 } } : State).racgCommand r 8 0
    else s
  | .fencing r l a t 1 =>
    if t + 4 ≤ s.now ∧ (s.region r).racg.shutter = false then
      ({ s with hz := { s.hz with fence := .fencing r l a t 2 } } : State).drainAll r (couplersOf r)
    else s
  | .fencing _ _ _ _ _ => s
  | .adopting r sp l t 0 on =>
    if t + 13 ≤ s.now ∧ on.all (fun i => (s.cpl i).enableAt.isNone) then
      ({ s with hz := { s.hz with fence := .adopting r sp l t 1 on } } : State).mapChange l (some (sp % 10))
    else s
  | .adopting r sp l t 1 on =>
    if t + 14 ≤ s.now then
      let s := s.racgCommand sp 7 0
      let ok := (s.region sp).racg.shutterTo == some true
      { s with hz := { s.hz with
        fence := if ok then .adopting r sp l t 2 on else .undoing r sp l t 0 on } }
    else s
  | .adopting _ _ _ _ _ _ => s
  | .undoing r sp l t 0 on =>
    if t + 15 ≤ s.now then
      ({ s with hz := { s.hz with fence := .undoing r sp l t 1 on } } : State).mapChange l none
    else s
  | .undoing r sp l t 1 on =>
    if t + 16 ≤ s.now then
      ({ s with hz := { s.hz with fence := .undoing r sp l t 2 on } } : State).drainAll sp on
    else s
  | .undoing _ _ _ _ _ _ => s

/-- The fence unit's command ends: the host command that waits for it has its REASON (R386). -/
def State.fenceEnds (s : State) (reason : Nat) : State :=
  { s with seq := { s.seq with jobs := s.seq.jobs.map (fun j =>
      if (j.kind = .fence ∨ j.kind = .adopt) ∧ j.result = none then { j with result := some reason } else j) } }

/-- No coupler of a list is DRAINING. -/
def State.drainsDone (s : State) (l : List Nat) : Bool := l.all (fun i => (s.cpl i).state != .draining)

/-- The fence is complete: +17 of R323, and the ADOPT part. -/
def State.fenced (s : State) (r : Nat) (l : Option Nat) (adopt : Bool) : State :=
  let s := s.updHzr r (fun h => { h with fenced := true, fenceReq := false, byRef := false, dwell := 0 })
  let s := ({ s with hz := { s.hz with fence := .idle } } : State).raiseFence 0 r (l.getD 0xFF) 0xFF 0
  if adopt then
    let why := s.adoptReason l
    if why = 0 then s.startAdopt r (l.getD 0)
    else
      let s := (s.fenceRefuse r l why).fenceEnds why
      (if why = 7 then s.raiseCause 1 r else s)
  else s.fenceEnds 0

/-- FENCE_DONE (R323). -/
def execFenceDone (s : State) : Res :=
  match s.hz.fence with
  | .fencing r l a t 2 =>
    act s (decide (t + 17 ≤ s.now) && s.drainsDone (couplersOf r)) (fun s => s.fenced r l a)
  | _ => act s false id

/-- ADOPTED (R324): the spare's shutter has opened. -/
def execAdopted (s : State) : Res :=
  match s.hz.fence with
  | .adopting r sp l _ 2 _ =>
    act s (s.region sp).racg.shutter (fun s =>
      (({ s with hz := { s.hz with fence := .idle, lastSpare := sp } } : State).raiseFence 1 r l sp 0).fenceEnds 0)
  | _ => act s false id

/-- ADOPT_UNDO (R467): the couplers enabled at +0 are DRAINED. -/
def execAdoptUndo (s : State) : Res :=
  match s.hz.fence with
  | .undoing r _ l _ 2 on =>
    act s (s.drainsDone on) (fun s =>
      (({ s with hz := { s.hz with fence := .idle } } : State).fenceRefuse r (some l) 8).fenceEnds 8)
  | _ => act s false id

/-- SPARE_USE.CORE_SPARES (R327). -/
def State.coreSpares (s : State) : Nat := (List.range 16).countP (fun c => s.slotMapped c 9)

/-! ## Feed and partners (R328 to R330) -/

/-- A write of FEED_NOTE; the host's is no feed event. DEDUCED, log entry 40. -/
def State.writeFeedNote (s : State) (p : Path) (code : Nat) : State :=
  match p with
  | .host => s
  | .smbus => s.feedEvent (code % 16) 1 0
  | .seq => s.feedEvent (code % 16) 1 0

/-- FEED_NOTE (R329). -/
def execFeedNote (p : Path) (code : Nat) (s : State) : Res :=
  writeAct s p 0x04080 (fun s => s.writeFeedNote p code)

/-- A change of partners or of the Feed ID: SHARES_FEED when PARTNER_SHARES_FEED becomes 1 (R330). -/
def State.partnersTo (s : State) (z : Hazard) : State :=
  let was := s.hz.sharesAny
  let s := { s with hz := z }
  if z.sharesAny && !was then s.raiseHz 0x80 0xFF 0 0 0 else s

/-- A write of PARTNER[k]. -/
def State.writePartner (s : State) (k : Nat) (v : Word) : State :=
  s.partnersTo { s.hz with partners := tput s.hz.partners k (v &&& 0x0FFF1FFF) }

/-- A write of FEED_ID: CFG until the seal, FEED_SRC always. -/
def State.writeFeedId (s : State) (v : Word) : State :=
  s.partnersTo { s.hz with
    feedSrc := fld v 16 4, feedCfg := if s.lc.sealed then s.hz.feedCfg else fld v 4 8 }

/-- PARTNER_WRITE (R330). -/
def execPartnerWrite (p : Path) (k : Nat) (v : Word) (s : State) : Res :=
  act s (decide (k < 4)) (fun s =>
    s.gateRw p (0x04090 + 4 * k) (tget 0 s.hz.partners k) (fun s => s.writePartner k v))

/-! ## Snapshot requests and stamps (R318, R331) -/

/-- No snapshot-request coach of this die tick waits: those of causes that are raised anew. -/
def State.unraise (s : State) : State :=
  let w := tget [] s.pool.waiting 0x153
  { s with pool := { s.pool with
    waiting := tput s.pool.waiting 0x153
      (w.filter (fun f => f.at_ != s.now || coachType f.words != 0xB1)) } }

/-- SNAP_PENDING falls; the causes of this die tick come after (R333). DEDUCED, log entry 40. -/
def State.endRequest (s : State) : State :=
  if s.log.causes = [] then { s with hz := { s.hz with snapPend := false } }
  else if s.log.asked then
    let l := s.log.causes
    let s := s.unraise
    l.foldl (fun s e => s.raiseCause e.1 e.2)
      { s with hz := { s.hz with snapPend := false }, log := { s.log with causes := [] } }
  else s

/-- SNAP_ACK written. -/
def State.snapAck (s : State) : State := s.endRequest

/-- STAMP written: latched at the next die-tick edge, D before an update of this die tick (R331, R333).
DEDUCED, log entry 39. -/
def State.takeStamp (s : State) (answer : Bool) (req : Nat) : State :=
  let ans := answer && req % 65536 == s.hz.reqNum
  let s := { s with hz := { s.hz with
    stampTick := if s.ref.tickValid then s.tick + 1 else s.tick,
    stampMemb := s.gt.gen, stampMap := s.hz.mapGen, stampD := s.log.dWas.getD s.hz.d,
    stampGt := s.gt.state.code, stampAl := s.gt.aligned, stampValid := true, stampReq := req % 65536,
    stampAns := ans } }
  (if ans then s.endRequest else s)

/-- A write of SNAP_CTL. -/
def State.writeSnapCtl (s : State) (v : Word) : State :=
  let s := if bit v 0 then s.snapAck else s
  if bit v 1 then s.takeStamp (bit v 2) (fld v 16 16) else s

/-- SNAP_ACK (R318). -/
def execSnapAck (p : Path) (s : State) : Res := writeAct s p 0x04058 State.snapAck

/-- STAMP (R331). -/
def execStamp (p : Path) (answer : Bool) (req : Nat) (s : State) : Res :=
  writeAct s p 0x04058 (fun s => s.takeStamp answer req)

/-- The stamp coach's body (R332, type 0xB3). -/
def Hazard.stampBody (z : Hazard) : List DWord :=
  [packD [(0, 32, z.stampId.toNat), (32, 16, z.stampReq), (48, 1, b2n z.stampAns), (49, 3, z.stampGt),
      (52, 1, b2n z.stampAl)],
   z.stampTick, packD [(0, 16, z.stampMemb), (16, 16, z.stampMap), (32, 10, z.stampD)]]

/-! ## Registers (R334) -/

/-- A write of a register of the block at 0x04000. -/
def State.writeHz (s : State) (p : Path) (off : Nat) (v : Word) : State :=
  if 0x04020 ≤ off ∧ off < 0x04044 then
    { s with hz := { s.hz with knees := tput s.hz.knees ((off - 0x04020) / 4) v } }
  else if 0x04090 ≤ off ∧ off < 0x040A0 then s.writePartner ((off - 0x04090) / 4) v
  else if 0x04400 ≤ off ∧ off < 0x04740 then
    s.updHzr ((off - 0x04400) / 4) (fun h => { h with fenceTh := fld v 10 10 })
  else match off with
  | 0x04000 => ({ s with hz := { s.hz with ctl := v &&& 0x000FFFF7 } } : State)
  | 0x04008 => { s with hz := { s.hz with event := s.w1c 0x04008 s.hz.event v } }
  | 0x0400C => { s with hz := { s.hz with eventEn := v &&& 0x7FF } }
  | 0x04010 => { s with hz := { s.hz with wtCore := v &&& 0xFFFFFF } }
  | 0x04014 => { s with hz := { s.hz with wtOther := v &&& 0xFFFFFF } }
  | 0x04018 => { s with hz := { s.hz with wtDie := v &&& 0xFFF } }
  | 0x04050 => { s with hz := { s.hz with snapCfg := v } }
  | 0x04054 => { s with hz := { s.hz with fenceCfg := v &&& 0x3FFF } }
  | 0x04058 => s.writeSnapCtl v
  | 0x0405C => { s with hz := { s.hz with stampId := v } }
  | 0x04074 => if s.frozen p = true ∧ fld v 8 2 ≠ 3 then s else s.writeFenceCmd (fld v 8 2) (fld v 0 8) (bit v 10)
  | 0x0407C => s.writeFeedId v
  | 0x04080 => s.writeFeedNote p (fld v 0 4)
  | 0x040A4 => if 208 ≤ fld v 0 8 ∧ fld v 0 8 ≤ 254 then s else { s with hz := { s.hz with probeSel := fld v 0 8 } }
  | _ => s

/-- FENCE_STATUS. -/
def Hazard.fenceStatus (z : Hazard) : Word :=
  let adopting := match z.fence with
    | .adopting _ _ _ _ _ _ => true
    | .undoing _ _ _ _ _ _ => true
    | _ => false
  packW [(0, 1, b2n (decide (z.fence ≠ .idle))), (1, 1, b2n adopting), (2, 4, z.reason),
    (8, 8, z.lastRegion), (16, 8, z.lastSpare), (24, 8, z.lastLogical)]

/-- LMAP. -/
def State.lmapWord (s : State) (l : Nat) : Word :=
  let e := s.lmapAt l
  packW [(0, 4, e.slot.getD 0xF), (4, 1, b2n e.slot.isSome), (16, 16, e.gen)]

/-- A register of the block at 0x04000. -/
def State.hzRead (s : State) (off : Nat) : Word :=
  let z := s.hz
  if 0x04020 ≤ off ∧ off < 0x04044 then s.knee ((off - 0x04020) / 4)
  else if 0x04090 ≤ off ∧ off < 0x040A0 then
    let k := (off - 0x04090) / 4
    tget 0 z.partners k ||| (if z.shares k then 0x10000000 else 0)
  else if 0x04400 ≤ off ∧ off < 0x04740 then s.hzRegionWord ((off - 0x04400) / 4)
  else if 0x04800 ≤ off ∧ off < 0x04A40 then s.lmapWord ((off - 0x04800) / 4)
  else match off with
  | 0x04000 => z.ctl
  | 0x04004 => packW [(0, 10, z.d), (10, 10, z.dRaw), (20, 10, z.top), (30, 1, b2n z.sharesAny),
      (31, 1, b2n z.snapPend)]
  | 0x04008 => z.event
  | 0x0400C => z.eventEn
  | 0x04010 => z.wtCore
  | 0x04014 => z.wtOther
  | 0x04018 => z.wtDie
  | 0x04050 => z.snapCfg
  | 0x04054 => z.fenceCfg
  | 0x0405C => z.stampId
  | 0x04060 => packW [(0, 16, z.reqNum), (16, 4, z.causes), (20, 10, z.dLast), (30, 1, b2n z.threshArmed)]
  | 0x04064 => packW [(0, 16, z.mapGen)]
  | 0x04068 => loWord z.stampTick
  | 0x0406C => hiWord z.stampTick
  | 0x04070 => packW [(0, 16, z.stampMemb), (16, 16, z.stampMap)]
  | 0x04078 => z.fenceStatus
  | 0x0407C => packW [(0, 4, z.feedStrap), (4, 8, z.feedCfg), (16, 4, z.feedSrc)]
  | 0x04084 => packW [(0, 16, z.feedCount)]
  | 0x04088 => packW [(0, 16, z.aRef), (16, 16, z.aRoot)]
  | 0x0408C => packW [(0, 16, z.aFeed)]
  | 0x040A0 => packW [(0, 16, z.stale), (16, 16, z.unmapped)]
  | 0x040A4 => packW [(0, 8, z.probeSel)]
  | 0x040A8 => let sc := (s.hzr z.probeSel).scores
    packW [(0, 8, nth sc 0), (8, 8, nth sc 1), (16, 8, nth sc 2), (24, 8, nth sc 3)]
  | 0x040AC => let h := s.hzr z.probeSel
    packW [(0, 8, nth h.scores 4), (8, 8, nth h.scores 5), (16, 10, h.raw)]
  | 0x040B0 => packW [(0, 10, z.stampD), (10, 3, z.stampGt), (13, 1, b2n z.stampAl),
      (14, 1, b2n z.stampValid)]
  | _ => 0

end Sys2Proof.Machine
end

