-- ==== Sys2Proof/Machine/Island.lean ====
section
/-! DEFINITION. The sealed metrology island and the mailbox (chapter 14). The island goes on through a cold
reset of the KTC (R424), so its events are not held back by one. -/

namespace Sys2Proof.Machine

open Sys2Proof

/-! ## The calendar goes on (R388, R390, R391, R393) -/

/-- The calendar runs: on the standby supply, or on VBAT with the crystal (R388, R393). -/
def Island.calRuns (x : Island) : Bool := x.up || (x.vbat && x.xtalOk)

/-- How far the calendar's rate may be off, in ppm: by the slew of R391, or by the widest of R393's sources.
DESIGN CHOICE, log entry 45. -/
def Island.calBound (x : Island) : Nat := if x.discip then 100 else 20000

/-- The calendar in units of 2^−32 s. -/
def Island.calUnits (x : Island) : Nat := x.calSec * 2 ^ 32 + x.calFrac

/-- The calendar goes on to the present: by the island's time, its rate off by a free value within the bound.
DESIGN CHOICE, log entry 45. -/
def Island.calTo (x : Island) : Island :=
  if x.time = x.calAt then x
  else if x.calRuns = false then { x with calAt := x.time }
  else
    let rate := 1000000 - x.calBound + Config.calDrift x.time % (2 * x.calBound + 1)
    let u := x.calUnits + (x.time - x.calAt) * 2 ^ 32 * rate / (525000000 * 1000000)
    { x with calSec := u / 2 ^ 32 % 2 ^ 64, calFrac := u % 2 ^ 32, calAt := x.time }

/-- An event of the island takes place when `b` holds; the calendar has gone on. -/
def actIsland (s : State) (b : Bool) (f : State → State) : Res :=
  .next (if b then f { s with island := s.island.calTo } else s)

/-- One second, 1 ms and 100 µs in the island's time units. -/
def islandSec : Nat := 525000000

def State.updIsland (s : State) (f : Island → Island) : State := { s with island := f s.island }

/-! ## Coaches, log, handover (R400, R403, R411) -/

/-- An island coach: the mailbox stamps its TICK (R412); carriage 1 begins with COACH_SEQ. -/
def islandCoach (typ seq : Nat) (c1 : List (Nat × Nat × Nat)) (rest : List DWord) : IslandCoach :=
  { seq := seq, words := coachOf typ 0x170 0 (packD ((0, 30, seq) :: c1) :: rest) }

/-- A coach enters the log, where the newest replaces the oldest of 4,096 (R404). -/
def Island.keep (x : Island) (c : IslandCoach) : Island :=
  { x with coachSeq := c.seq, log := (x.log ++ [c]).drop (x.log.length + 1 - 4096) }

/-- Live coaches are handed over only with mailbox power good, and never in ENDED (R411). -/
def Island.live (x : Island) : Bool := x.powerGood && x.up && x.lcSeen != 4

/-- A coach is handed over. -/
def Island.handOver (x : Island) (c : IslandCoach) (replayed : Bool) : Island :=
  { x with wire := x.wire ++ [(c, replayed)], handedHi := max x.handedHi c.seq }

/-- A notice (R403). -/
def Island.notice (x : Island) (kind : Nat) (rest : List DWord) : Island :=
  let c := islandCoach 0x09 (x.coachSeq + 1) [(32, 8, kind)] rest
  let x := x.keep c
  if x.live then x.handOver c false else x

/-- ABSENT (R393, R396). -/
def Island.absent (x : Island) (mref adc again xtal : Bool) : Island :=
  x.notice 4 [packD [(0, 1, b2n mref), (1, 1, b2n adc), (2, 1, b2n again), (3, 1, b2n xtal)]]

/-- TIME, cause 1 set, 2 DISAGREE, 3 discipline gained, 4 lost, 5 calendar reset. -/
def Island.timeNotice (x : Island) (cause : Nat) : Island := x.notice 7 [packD [(0, 4, cause)]]

/-- Eight bytes, most significant first, as a carriage (R400). -/
def beDword (l : List Byte) (k : Nat) : DWord := BitVec.ofNat 64 (beNat ((l.drop (8 * k)).take 8))

/-- 48 bytes as six carriages. -/
def beBlock (l : List Byte) : List DWord := (List.range 6).map (beDword l)

/-- START, then the public key where there is one, NO_KEY in BLANK (R403, R410). -/
def Island.startNotices (x : Island) (lost : Bool) : Island :=
  let x := x.notice 1 [Config.islandId,
    packD [(0, 1, b2n x.calValid), (1, 1, b2n lost), (2, 1, b2n x.up), (3, 1, b2n x.xtalOk),
      (8, 3, x.lcSeen)]]
  let x := { x with sinceKeys := 0 }
  if x.hasKey then
    let pub := Config.islandPub x.keyGen
    (x.notice 2 (beBlock (pub.take 48))).notice 3 (beBlock (pub.drop 48))
  else if x.lcSeen = 0 then x.notice 8 [] else x

/-! ## Intervals and records (R397 to R402) -/

/-- The island produces billing records (R410). -/
def Island.bills (x : Island) : Bool := x.lcSeen == 1 || x.lcSeen == 2 || x.lcSeen == 3

/-- A new interval opens where R396 and R410 allow one. -/
def Island.openInterval (x : Island) : Island :=
  if x.up ∧ x.bills ∧ x.mrefOk ∧ x.adcOk ∧ x.interval = none then
    { x with interval := some { flags := if x.xtalOk then 0 else 256 } }
  else x

/-- 10^9 + MREF_CORR. -/
def Params.scale (p : Params) : Nat := (1000000000 + p.mrefCorr).toNat

/-- ELAPSED_US (R398). -/
def elapsedUs (p : Params) (cycles : Nat) : Nat :=
  (roundDiv ((cycles : Int) * 100000000) (p.scale : Int)).toNat

/-- ENERGY in mJ and the part carried on (R398), from the sum in pW samples. -/
def energyOf (p : Params) (sum carried : Nat) : Nat × Nat :=
  let n := sum * 1000000000 + carried
  let d := p.scale * 8000000000000
  (n / d, n % d)

/-- The three coaches of a record (R400, R401). DESIGN CHOICE, log entry 45. -/
def Island.recordCoaches (x : Island) (i : Interval) (cycles flags energy : Nat) : List IslandCoach :=
  let head := fun part => [(30, 2, part), (32, 32, x.recordSeq)]
  let p0 := islandCoach 0x08 (x.coachSeq + 1) (head 0)
    [packD [(0, 32, x.audit), (32, 10, flags), (48, 16, x.params.ver)],
     BitVec.ofNat 64 x.calSec,
     packD [(0, 32, x.calFrac), (32, 32, elapsedUs x.params cycles)],
     BitVec.ofNat 64 x.energyCum,
     packD [(0, 32, energy), (32, 32, i.active)],
     packD [(0, 32, x.params.crc), (32, 16, i.missed)]]
  let sig := Config.islandSign x.keyGen
    (dwordBytes Config.islandId ++ p0.words.flatMap dwordBytes)
  [p0, islandCoach 0x08 (x.coachSeq + 2) (head 1) (beBlock (sig.take 48)),
   islandCoach 0x08 (x.coachSeq + 3) (head 2) (beBlock (sig.drop 48))]

/-- The flags of a record but for the cause of its close (R400). -/
def Island.restFlags (x : Island) (i : Interval) : Nat :=
  i.flags ||| b2n x.first ||| (if x.calValid then 0 else 32) ||| (if x.discip then 0 else 64)

/-- An interval closes: the record is computed, signed and logged, and waits for its handover. -/
def Island.closeWith (x : Island) (i : Interval) (cycles flags : Nat) : Island :=
  let (energy, rest) := energyOf x.params i.sum x.remainder
  let x := { x with
    interval := none, remainder := rest, energyCum := (x.energyCum + energy) % 2 ^ 64,
    recordSeq := (x.recordSeq + 1) % 2 ^ 32,
    closed := some {
      interval := i, cycles := cycles, cause := flags, flags := x.restFlags i, energy := energy,
      seq := x.coachSeq + 1, at_ := x.time } }
  let cs := x.recordCoaches i cycles (x.restFlags i ||| flags) energy
  let x := cs.foldl Island.keep { x with first := false, sinceKeys := x.sinceKeys + 1 }
  let x := if x.live then { x with outbox := x.outbox ++ cs } else x
  if 60 ≤ x.sinceKeys then x.startNotices false else x

/-- A coach of the log, or one that waits, is replaced by one of the same number. -/
def replaceCoach (cs l : List IslandCoach) : List IslandCoach :=
  l.map (fun c => (cs.find? (fun d => d.seq == c.seq)).getD c)

/-- The last record is formed again, as an event of its own die tick changes it (R415). DEDUCED, log entry 45. -/
def Island.reform (x : Island) (r : ClosedRec) : Island :=
  let cs := ({ x with coachSeq := r.seq - 1 } : Island).recordCoaches r.interval r.cycles (r.flags ||| r.cause) r.energy
  { x with closed := some r, log := replaceCoach cs x.log, outbox := replaceCoach cs x.outbox }

/-- The last record, where it was closed in this die tick. -/
def Island.justClosed (x : Island) : Option ClosedRec := x.closed.filter (fun r => r.at_ == x.time)

/-- A second cause of the close of the last interval: at the same MREF cycle both flags stand, at an earlier one the
interval closes there (R415). -/
def Island.alsoClosed (x : Island) (cycles flags : Nat) : Island :=
  match x.justClosed with
  | some r =>
    if r.cause ≠ 4 ∧ r.cause ≠ 8 then x
    else if cycles = r.cycles then x.reform { r with cause := r.cause ||| flags }
    else if cycles < r.cycles then x.reform { r with cause := flags, cycles := cycles }
    else x
  | none => x

/-- The open interval, if any, closes at a count of MREF cycles. -/
def Island.close (x : Island) (cycles flags : Nat) : Island :=
  match x.interval with
  | some i => x.closeWith i cycles flags
  | none => x

/-- A count of MREF cycles agrees with the samples of the open interval: one in every 1,250, and one on its way
(R394, R397). DEDUCED, log entry 45. -/
def Island.countFits (x : Island) (cycles : Nat) : Bool :=
  match x.interval with
  | some i => decide (i.cycles ≤ cycles + 1250) && decide (cycles ≤ i.cycles + 2500)
  | none => true

/-- The MREF cycles counted where no row tells them: those of the samples, and a free number short of the next.
DESIGN CHOICE, log entry 45. -/
def Island.cyclesNow (x : Island) (i : Interval) : Nat := i.cycles + Config.mrefPhase x.time % 1250

/-! ## Life-cycle, start and supplies (R388, R399, R409, R410) -/

/-- The island reads the life-cycle fuses: the key made at entry to PROVISIONED, erased at entry to ENDED
after the open interval is closed and signed. -/
def Island.readLc (x : Island) (lc : Nat) : Island :=
  if lc = x.lcSeen then x
  else if lc = 4 then
    let x := match x.interval with
      | some i => x.closeWith i (x.cyclesNow i) 0
      | none => x
    { x with lcSeen := 4, hasKey := false, interval := none }
  else
    let fresh := lc == 1 || (lc != 0 && !x.hasKey)
    let x := { x with
      lcSeen := lc, hasKey := x.hasKey || fresh, keyGen := if fresh then x.keyGen + 1 else x.keyGen }
    x.openInterval

/-- ISLAND_START (R388, R390, R396, R399, R403, R409, R410). -/
def execIslandStart (xtal mref adc : Bool) (s : State) : Res :=
  actIsland s (!s.island.up) (fun s => s.updIsland (fun x =>
    let cal := x.calValid && x.vbat && x.xtalOk
    let x := { x with
      up := true, first := true, calValid := cal, xtalOk := xtal, mrefOk := mref, adcOk := adc,
      mrefAt := x.time, adcAt := x.time, xtalAt := x.time, mirrorAt := x.time,
      mrefTold := !mref, adcTold := !adc, missRun := 0, goodRun := 0,
      discip := false, edgeAt := none, edgeRun := 0, tod := {}, todNext := none, interval := none }
    let lost := x.lost
    let x := x.readLc s.lc.state.code
    let x := match x.kept with
      | some i => if x.bills then { x with kept := none }.closeWith i i.cycles 2 else { x with kept := none }
      | none => x
    let x := ({ x with lost := false } : Island).startNotices lost
    let x := if mref && adc then x else x.absent (!mref) (!adc) false false
    x.openInterval))

/-- STANDBY_LOSS (R388, R399): with VBAT the open interval is kept, else it and the calendar are lost. -/
def execStandbyLoss (vbat : Bool) (s : State) : Res :=
  actIsland s s.island.up (fun s => s.updIsland (fun x => { x with
    up := false, vbat := vbat,
    kept := if vbat then x.interval.map (fun i => { i with cycles := x.cyclesNow i }) else none,
    lost := !vbat && x.interval.isSome, interval := none,
    calValid := x.calValid && vbat, discip := false, edgeAt := none, edgeRun := 0, tod := {}, todNext := none,
    outbox := [], replay := none }))

/-- XTAL_OK_CHANGE (R393): present again after 1 s of good periods; on VBAT alone an absent crystal stops the
calendar. -/
def execXtalOkChange (ok : Bool) (s : State) : Res :=
  actIsland s (s.island.xtalOk != ok && (!ok || decide (s.island.xtalAt + islandSec ≤ s.island.time)))
    (fun s => s.updIsland (fun x =>
    let x := { x with
      xtalOk := ok, xtalAt := x.time, calValid := x.calValid && (ok || x.up),
      interval := x.interval.map (fun i => if ok then i else { i with flags := i.flags ||| 256 }) }
    if x.up then x.absent false false ok true else x))

/-! ## Calendar (R390 to R393) -/

/-- Seconds of the boundary nearest the calendar. -/
def Island.nearestSec (x : Island) : Nat := x.calSec + (if 2 ^ 31 ≤ x.calFrac then 1 else 0)

/-- The edge's window: ±100 µs, or ±20 ms with neither crystal nor MREF (R391, R393). -/
def Island.edgeWindowUs (x : Island) : Nat := if x.xtalOk || x.mrefOk then 100 else 20000

/-- A record closed in this die tick carries the calendar as set, with CAL_INVALID not set (R415). -/
def Island.calSet (x : Island) : Island :=
  match x.justClosed with
  | some r => x.reform { r with flags := if r.flags.testBit 5 then r.flags - 32 else r.flags }
  | none => x

/-- A valid edge: discipline, and what the message that names it does (R390 to R393). -/
def Island.validEdge (x : Island) : Island :=
  let x := if x.discip then x else ({ x with discip := true } : Island).timeNotice 3
  let x := if x.xtalOk || x.mrefOk then x else { x with calSec := x.nearestSec, calFrac := 0 }
  let x := match x.todNext with
    | some sec =>
      if x.calValid then (if x.nearestSec = sec then x else x.timeNotice 2)
      else if 2 ≤ x.tod.run then
        ({ x with calValid := true, calSec := sec, calFrac := 0 } : Island).calSet.timeNotice 1
      else x
    | none => x
  { x with todNext := none, edgeAt := some x.time, edgeRun := min 2 (x.edgeRun + 1) }

/-- Discipline is lost. -/
def Island.undiscipline (x : Island) : Island :=
  if x.discip then ({ x with discip := false } : Island).timeNotice 4 else x

/-- ISLAND_SYNC_EDGE (R390 to R393): `deltaUs` is what the island counts since the last valid edge. -/
def execIslandSyncEdge (deltaUs : Nat) (s : State) : Res :=
  actIsland s s.island.up (fun s => s.updIsland (fun x =>
    match x.edgeAt with
    | none => { x with edgeAt := some x.time, edgeRun := 0 }
    | some _ =>
      if 1000000 ≤ deltaUs + x.edgeWindowUs ∧ deltaUs ≤ 1000000 + x.edgeWindowUs then x.validEdge
      else if deltaUs < 1000000 then { x.undiscipline with edgeRun := 0 }
      else { x.undiscipline with edgeAt := some x.time, edgeRun := 0 }))

/-- ISLAND_SYNC_EDGE_MISSING (R391). -/
def execIslandSyncEdgeMissing (s : State) : Res :=
  actIsland s (s.island.up && (match s.island.edgeAt with
      | some t => decide (t + 525 * (1000000 + s.island.edgeWindowUs) < s.island.time)
      | none => false)) (fun s => s.updIsland (fun x =>
    { x.undiscipline with edgeAt := none, edgeRun := 0 }))

/-- The last byte of a message comes 10 ms to 900 ms after a valid edge (R282). -/
def Island.todInTime (x : Island) : Bool :=
  match x.edgeAt with
  | some t => decide (1 ≤ x.edgeRun) && decide (t + 5250000 ≤ x.time) && decide (x.time ≤ t + 472500000)
  | none => false

/-- ISLAND_TOD_MESSAGE (R390, R392): judged as R281 and R282 state, applied at the edge it names. -/
def execIslandTodMessage (bytes : List Byte) (s : State) : Res :=
  actIsland s s.island.up (fun s => s.updIsland (fun x =>
    match parseTod bytes with
    | none => { x with tod := {}, todNext := none }
    | some (sec, _, sq) =>
      match x.tod.next sec sq x.todInTime with
      | (t, ok) => { x with tod := t, todNext := if ok then some sec else none }))

/-! ## Samples (R394 to R396) -/

/-- A frame is good: CRC, FRAME_MARK, status bits 2 to 6. -/
def frameGood (f : DWord) : Bool :=
  crc8 ((dwordBytes f).reverse.take 7) == fld f 0 8 && bit f 15 && fld f 10 5 == 0

/-- p of a good frame, in pW (R395). -/
def Params.power (p : Params) (f : DWord) : Nat :=
  let v := sfld f 40 24 * (p.vGain : Int) / 65536 + p.vOfs
  let i := sfld f 16 24 * (p.iGain : Int) / 65536 + p.iOfs
  (v * i).toNat

/-- A sample is counted into the open interval. -/
def Interval.add (i : Interval) (p : Nat) (act missed ovr : Bool) : Interval :=
  { sum := i.sum + p, samples := i.samples + 1, active := i.active + b2n act,
    missed := i.missed + b2n missed, flags := i.flags ||| (if ovr then 128 else 0),
    cycles := i.cycles + 1250 }

/-- ACT: a core region's shutter is open (R389). -/
def State.coreAct (s : State) : Bool := s.regions.any (fun e => isCore e.1 && e.2.racg.shutter)

/-- ADC_FRAME (R394 to R396): `none` is a frame that does not arrive. DESIGN CHOICE, log entry 8. -/
def execAdcFrame (frame : Option DWord) (s : State) : Res :=
  actIsland s (s.island.up && s.island.mrefOk) (fun s =>
    let act := s.coreAct
    s.updIsland (fun x =>
      let good := match frame with
        | some f => if frameGood f then some f else none
        | none => none
      match good with
      | some f =>
        let p := x.params.power f
        { x with
          lastP := p, missRun := 0, goodRun := x.goodRun + 1,
          interval := x.interval.map (·.add p act false (fld f 8 2 != 0)) }
      | none => { x with
          missRun := x.missRun + 1, goodRun := 0,
          interval := x.interval.map (·.add x.lastP act true false) }))

/-- The open interval closes for a cause; none is open where another cause of this die tick has closed it (R415). -/
def Island.endFor (x : Island) (cycles flags : Nat) : Island :=
  if x.interval.isSome then x.close cycles flags else x.alsoClosed cycles flags

/-- ADC_FAULT (R396, R415): 16 samples in a row are missed. -/
def execAdcFault (cycles : Nat) (s : State) : Res :=
  actIsland s (s.island.up && s.island.adcOk && decide (16 ≤ s.island.missRun) && s.island.countFits cycles) (fun s =>
    s.updIsland (fun x =>
      ({ x with adcOk := false, adcAt := x.time, adcTold := false } : Island).endFor cycles 8))

/-- ADC_RECOVERY (R396): 8 consecutive good frames. -/
def execAdcRecovery (s : State) : Res :=
  actIsland s (s.island.up && !s.island.adcOk && decide (8 ≤ s.island.goodRun)) (fun s =>
    s.updIsland (fun x =>
      let told := x.adcTold
      let x := { x with adcOk := true, adcTold := false }
      (if told then x.absent false true true false else x).openInterval))

/-- MREF_LOST (R396, R415). -/
def execMrefLost (cycles : Nat) (s : State) : Res :=
  actIsland s (s.island.up && s.island.mrefOk && s.island.countFits cycles) (fun s =>
    s.updIsland (fun x =>
      ({ x with mrefOk := false, mrefAt := x.time, mrefTold := false } : Island).endFor cycles 4))

/-- MREF_RETURN (R396): MREF has been present for 1 s. -/
def execMrefReturn (s : State) : Res :=
  actIsland s (s.island.up && !s.island.mrefOk && decide (s.island.mrefAt + islandSec ≤ s.island.time)) (fun s =>
    s.updIsland (fun x =>
      let told := x.mrefTold
      let x := { x with mrefOk := true, mrefTold := false }
      (if told then x.absent true false true false else x).openInterval))

/-- ISLAND_ABSENCE_TIMEOUT (R396): absent for more than 1 s. -/
def execIslandAbsenceTimeout (a : Absent) (s : State) : Res :=
  let x := s.island
  match a with
  | .adc =>
    actIsland s (x.up && !x.adcOk && !x.adcTold && decide (x.adcAt + islandSec < x.time)) (fun s =>
      s.updIsland (fun x => ({ x with adcTold := true } : Island).absent false true false false))
  | .mref =>
    actIsland s (x.up && !x.mrefOk && !x.mrefTold && decide (x.mrefAt + islandSec < x.time)) (fun s =>
      s.updIsland (fun x => ({ x with mrefTold := true } : Island).absent true false false false))

/-- INTERVAL_CLOSE (R397, R398): the 600,000,000th MREF cycle; the next interval opens. -/
def execIntervalClose (cycles : Nat) (s : State) : Res :=
  actIsland s (s.island.up && s.island.interval.isSome && cycles == 600000000 && s.island.countFits cycles) (fun s =>
    s.updIsland (fun x => (x.close cycles 0).openInterval))

/-! ## Sealed parameters (R405 to R407) -/

/-- `n` little-endian bytes at an offset of a block. -/
def blockNat (b : List Byte) (o n : Nat) : Nat := leNat ((b.drop o).take n)
def blockInt (b : List Byte) (o : Nat) : Int := (BitVec.ofNat 32 (blockNat b o 4)).toInt

/-- The parameter set of a block. -/
def paramsOf (b : List Byte) : Params :=
  { vGain := blockNat b 4 4, vOfs := blockInt b 8, iGain := blockNat b 12 4, iOfs := blockInt b 16,
    mrefCorr := blockInt b 20, xtalTrim := blockInt b 24, ver := blockNat b 28 4, crc := blockNat b 60 4 }

/-- FORMAT of R406: MAGIC, FORMAT, reserved bytes, ranges. -/
def blockFormat (b : List Byte) : Bool :=
  b.length == 64 && blockNat b 0 2 == 0x504D && blockNat b 2 2 == 1 && blockNat b 32 1 / 2 == 0
    && blockNat b 33 27 == 0 && decide ((blockInt b 20).natAbs ≤ 100000)
    && decide ((blockInt b 24).natAbs ≤ 200000)

/-- The reason a block is refused, 0 for accepted (R406). -/
def Island.blockReason (x : Island) (b : List Byte) (unsealLow : Bool) : Nat :=
  if !unsealLow then 1
  else if !blockFormat b then 2
  else if crc32 (b.take 60) ≠ blockNat b 60 4 then 3
  else if blockNat b 28 4 ≤ x.params.ver then 4
  else if x.lcSeen = 4 then 5
  else if 0xFFFFFFFF ≤ x.audit then 6
  else 0

/-- PARAMETER_BLOCK (R406, R407, R415): at the cycle that closes a full interval PARAM_CHANGE is not
set. DESIGN CHOICE, log entry 45. -/
def execParameterBlock (bytes : List Byte) (unsealLow : Bool) (cycles : Nat) (s : State) : Res :=
  actIsland s (s.island.up && s.island.countFits cycles) (fun s => s.updIsland (fun x =>
    let x := { x with unsealed := unsealLow }
    let why := x.blockReason bytes unsealLow
    if why ≠ 0 then x.notice 6 [packD [(0, 4, why)]]
    else
      let x := x.close cycles (if cycles = 600000000 then 0 else 16)
      let x := { x with audit := x.audit + 1, params := paramsOf bytes, closed := none }
      let x := if blockNat bytes 32 1 = 1 then ({ x with calValid := false } : Island).timeNotice 5 else x
      let x := x.notice 5 [packD [(0, 32, x.audit), (32, 32, x.params.ver)],
        packD [(0, 32, x.params.crc)], BitVec.ofNat 64 x.calSec]
      x.openInterval))

/-- PARAM_BLOCK_TIMEOUT (R406): the bytes received so far are discarded, without a notice; the model
receives a block whole. DESIGN CHOICE, log entry 45. -/
def execParamBlockTimeout (s : State) : Res := actIsland s s.island.up id

/-! ## Handover and mailbox (R402, R411, R412, R414) -/

/-- RECORD_HANDOVER (R402): the coaches that wait, in order. -/
def execRecordHandover (s : State) : Res :=
  actIsland s (s.island.live && !s.island.outbox.isEmpty) (fun s => s.updIsland (fun x =>
    { x.outbox.foldl (fun x c => x.handOver c false) x with outbox := [] }))

/-- MAILBOX_POWER_GOOD (R411): replay starts 96 coaches before the first not handed over, or at the
oldest in the log; in ENDED it covers the whole log. -/
def execMailboxPowerGood (s : State) : Res :=
  actIsland s s.island.up (fun s => s.updIsland (fun x =>
    let oldest := match x.log with
      | c :: _ => c.seq
      | [] => x.coachSeq + 1
    let start := if x.lcSeen = 4 then oldest else max oldest (x.handedHi + 1 - 96)
    { x with
      powerGood := true, outbox := [], replayAt := x.time, replayEnd := x.coachSeq,
      replay := if start ≤ x.coachSeq then some start else none }))

/-- The replay has handed over all it was to. -/
def Island.replayNext (x : Island) (n : Nat) : Island :=
  { x with replay := if n < x.replayEnd then some (n + 1) else none, replayAt := x.time + 7560000 }

/-- REPLAY_HANDOVER (R411): one replayed coach in 16 ms ± 10%, after the live coaches that wait. -/
def execReplayHandover (s : State) : Res :=
  actIsland s (s.island.up && s.island.powerGood && s.island.replay.isSome
      && decide (s.island.replayAt ≤ s.island.time)) (fun s => s.updIsland (fun x =>
    let x := { x.outbox.foldl (fun x c => x.handOver c false) x with outbox := [] }
    match x.replay with
    | some n =>
      let x := match x.log.find? (fun c => c.seq == n) with
        | some c => x.handOver c true
        | none => x
      x.replayNext n
    | none => x))

/-- A coach with the TICK that the mailbox stamps (R412). -/
def stampTick (words : List DWord) (tick : DWord) : List DWord :=
  match words with
  | h :: rest => ((h &&& 0xFFFFFF0000000000) ||| (tick &&& 0xFFFFFFFFFF)) :: rest
  | [] => []

/-- MAILBOX_COACH (R412): a coach handed over becomes readable in its slot. -/
def execMailboxCoach (s : State) : Res :=
  act s (!s.island.wire.isEmpty) (fun s =>
    match s.island.wire with
    | (c, re) :: rest =>
      (s.updIsland (fun x => { x with wire := rest })).setMbSlot (c.seq % 32)
        { full := true, read := false, replay := re, words := stampTick c.words s.tick }
    | [] => s)

/-- The high word of a slot's last carriage is read (R412). -/
def State.slotLastRead (s : State) (k : Nat) : State :=
  let m := s.mbSlot k
  if m.full then s.setMbSlot k { m with read := true } else s

/-- The calendar may have gone on to a value since it was last known: never back, within 2% of the island's time.
DESIGN CHOICE, log entry 45. -/
def Island.calFits (x : Island) (sec frac : Nat) : Bool :=
  let u := sec * 2 ^ 32 + frac
  let n := (x.time - x.calAt) * 2 ^ 32 / 525000000
  !x.calValid || (decide (x.calUnits ≤ u) && decide (x.calUnits + n ≤ u + n / 50 + 1)
    && decide (u ≤ x.calUnits + n + n / 50 + 1))

/-- 2^−10 s, the period of the mirrors (R414). -/
def mirrorPeriod : Nat := 512695

/-- MAILBOX_MIRROR_UPDATE (R414): with the calendar as it then stands. DESIGN CHOICE, log entry 45. -/
def execMailboxMirrorUpdate (seconds fraction : Nat) (s : State) : Res :=
  actIsland s (s.island.up && decide (s.island.mirrorAt + mirrorPeriod ≤ s.island.time)
      && s.island.calFits (seconds % 2 ^ 64) (fraction % 2 ^ 32)) (fun s =>
    let s := s.updIsland (fun x => { x with
      calSec := seconds % 2 ^ 64, calFrac := fraction % 2 ^ 32, mirrorAt := x.time })
    if s.sb.inReset then s
    else
      let x := s.island
      { s with mb := { s.mb with
        newest := packW [(0, 30, x.handedHi)], audit := BitVec.ofNat 32 x.audit,
        record := BitVec.ofNat 32 x.recordSeq, calSec := BitVec.ofNat 64 x.calSec,
        calFrac := BitVec.ofNat 32 x.calFrac, energy := BitVec.ofNat 64 x.energyCum,
        id := Config.islandId } })

/-- The island's part of a die tick: its time. DESIGN CHOICE, log entry 45. -/
def State.islandTick (s : State) : State := s.updIsland (fun x => { x with time := x.time + 1 })

/-- MB_STATUS. -/
def State.mbStatus (s : State) : Word :=
  let x := s.island
  packW [(0, 1, b2n x.up), (1, 1, b2n x.interval.isSome), (2, 1, b2n x.calValid), (3, 1, b2n x.discip),
    (4, 1, b2n x.unsealed), (5, 1, b2n x.replay.isSome), (6, 1, b2n x.mrefOk), (7, 1, b2n x.adcOk),
    (8, 3, x.lcSeen), (11, 1, b2n x.xtalOk),
    (16, 6, s.mb.slots.countP (fun e => e.2.full && !e.2.read))]

/-- A register of the mailbox; reads that change state are in Machine/Window. -/
def State.mbRead (s : State) (off : Nat) : Word :=
  let m := s.mb
  if 0x80080 ≤ off ∧ off < 0x80100 then
    let k := s.mbSlot ((off - 0x80080) / 4)
    packW [(0, 1, b2n k.full), (1, 1, b2n k.read), (2, 1, b2n k.replay)]
  else if 0x80100 ≤ off ∧ off < 0x80900 then
    let a := off - 0x80100
    let d := (s.mbSlot (a / 64)).words.getD (a % 64 / 8) 0
    if a % 8 < 4 then loWord d else hiWord d
  else match off with
  | 0x80000 => s.mbStatus
  | 0x80004 => m.newest
  | 0x80008 => m.audit
  | 0x8000C => m.record
  | 0x80010 => loWord m.calSec
  | 0x80014 => hiWord m.calSec
  | 0x80018 => m.fracLatch.getD m.calFrac
  | 0x8001C => loWord m.energy
  | 0x80020 => hiWord m.energy
  | 0x80024 => loWord m.id
  | 0x80028 => hiWord m.id
  | _ => 0

end Sys2Proof.Machine
end

