-- ==== Sys2Proof/Machine/Lifecycle.lean ====
section
/-! DEFINITION. Life-cycle states, keys, tokens, transitions, unlock, key commands and the configuration
seal (chapter 16). -/

namespace Sys2Proof.Machine

open Sys2Proof

/-! ## Events, keys and slots (R438, R439) -/

def lcStateChange : Word := oneBit 0
def lcTokenOk : Word := oneBit 1
def lcTokenFail : Word := oneBit 2
def lcUnlockEnd : Word := oneBit 3
def lcSealed : Word := oneBit 4
def lcKeyChange : Word := oneBit 5
def lcCmdRefused : Word := oneBit 6

/-- The firmware slots a state lists (R438). -/
def LcState.slots : LcState → List Nat
  | .blank => [0, 1]
  | .provisioned => [0, 2, 3]
  | .field => [0, 2, 3]
  | .return_ => [0, 1]
  | .ended => []

/-- Slot `k` holds a key, and firmware slot `k` is revoked. -/
def Lifecycle.hasSlot (l : Lifecycle) (k : Nat) : Bool := l.populated.testBit k
def Lifecycle.isRevoked (l : Lifecycle) (k : Nat) : Bool := l.revoked.testBit k

/-- A firmware slot is accepted now (R438). -/
def Lifecycle.accepts (l : Lifecycle) (k : Nat) : Bool :=
  l.state.slots.contains k && l.hasSlot k && !l.isRevoked k

/-- The bytes of words in the layout of TOKEN_BUF (R453). -/
def bufBytes (t : Tbl Word) (n : Nat) : List Byte :=
  (List.range n).flatMap (fun w => wordBytes (tget 0 t w))

/-- The public key of a slot, x then y. -/
def Lifecycle.slotKey (l : Lifecycle) (k : Nat) : List Byte :=
  if k < 2 then Config.fusedKey k else (tget [] l.keys k).flatMap wordBytes

/-! ## Results of commands (R448) -/

/-- A command completes with a result; 6, 9 and 10 set CMD_REFUSED. -/
def State.lcResult (s : State) (r : Nat) (bits : Word) : State :=
  let b := if r = 6 ∨ r = 9 ∨ r = 10 then bits ||| lcCmdRefused else bits
  ({ s with lc := { s.lc with result := r } } : State).raiseLc b

/-- The unlock in force ends; the bit it sets. -/
def State.endUnlock (s : State) : State × Word :=
  if s.lc.unlock.isSome then ({ s with lc := { s.lc with unlock := none } }, lcUnlockEnd) else (s, 0)

/-- A transition begins (R444). -/
def State.startMove (s : State) (to_ : LcState) (reissue : Bool) : State :=
  { s with lc := { s.lc with busy := .moving to_ reissue s.now } }

/-! ## Tokens (R440, R441, R443, R447) -/

def tokNat (b : List Byte) (o n : Nat) : Nat := leNat ((b.drop o).take n)

def tokKind (b : List Byte) : Nat := tokNat b 4 1
def tokScope (b : List Byte) : Nat := tokNat b 5 1
def tokDuration (b : List Byte) : Nat := tokNat b 24 2

/-- FORMAT: MAGIC, KIND, SCOPE, reserved bytes. DEDUCED, log entry 48. -/
def tokFormat (b : List Byte) : Bool :=
  tokNat b 0 4 == 0x4B544C31 && decide (1 ≤ tokKind b) && decide (tokKind b ≤ 5)
    && (if tokKind b = 2 then decide (1 ≤ tokScope b) && decide (tokScope b ≤ 3)
        else tokScope b == 0)
    && tokNat b 6 2 == 0 && tokNat b 26 6 == 0

/-- The kinds legal in a state (R443, R447). -/
def LcState.kinds : LcState → List Nat
  | .blank => [1, 5]
  | .provisioned => [2, 3]
  | .field => [2, 3]
  | .return_ => [4, 5]
  | .ended => []

/-- The keys that may have signed a token. DEDUCED, log entry 48. -/
def Lifecycle.tokenKeys (l : Lifecycle) (kind : Nat) : List (List Byte) :=
  let life := if l.lcKey then [Config.lifeCycleKey] else []
  let unlock := if l.hasSlot 4 then [l.slotKey 4] else []
  if kind = 2 then (match l.state with
    | .field => unlock
    | _ => life ++ unlock)
  else life

/-- RESULT of a verification against the nonce of the VERIFY write: the first check that fails (R441). -/
def Lifecycle.verifyResult (l : Lifecycle) (b : List Byte) (nonce : DWord) : Nat :=
  let keys := l.tokenKeys (tokKind b)
  if !tokFormat b then 2
  else if !l.state.kinds.contains (tokKind b) then 6
  else if tokNat b 8 8 ≠ l.uid.toNat then 4
  else if tokNat b 16 8 ≠ nonce.toNat then 5
  else if keys.isEmpty then 8
  else if !keys.any (fun k => Config.ecdsaVerify k (b.take 32) (b.drop 32)) then 3
  else if tokKind b = 4 ∧ 3 ≤ l.reissues then 7
  else 1

/-- What a passing token does (R443, R447). -/
def State.applyToken (s : State) (b : List Byte) : State :=
  match tokKind b with
  | 1 => s.startMove .provisioned false
  | 2 => { s with lc := { s.lc with
      unlock := some (tokScope b), unlockAt := s.now, unlockDur := tokDuration b } }
  | 3 => s.startMove .return_ false
  | 4 => s.startMove .provisioned true
  | 5 => s.startMove .ended false
  | _ => s

/-- VERIFY_DONE (R441, R442). DEDUCED, log entry 48. -/
def execVerifyDone (s : State) : Res :=
  match s.lc.busy with
  | .verifying b nonce at_ =>
    act s (decide (s.now ≤ at_ + 2100000)) (fun s =>
      let r := s.lc.verifyResult b nonce
      let s := { s with lc := { s.lc with
        busy := .none, nonce := Config.nonce s.freeIdx, lastKind := tokKind b % 8,
        lastScope := tokScope b % 4 } }
      let s := s.fresh
      let s := if r = 1 then s.applyToken b else s
      s.lcResult r (if r = 1 then lcTokenOk else lcTokenFail))
  | _ => act s false id

/-! ## Commands (R443, R448) -/

/-- VERIFY accepted in any state but ENDED. -/
def State.lcVerify (s : State) : State :=
  if s.lc.state = .ended then s.lcResult 6 0
  else { s with lc := { s.lc with busy := .verifying (bufBytes s.lc.token 32) s.lc.nonce s.now } }

def State.lcEnterField (s : State) : State :=
  let l := s.lc
  if l.state = .provisioned ∧ ((l.hasSlot 2 && !l.isRevoked 2) || (l.hasSlot 3 && !l.isRevoked 3)) then
    s.startMove .field false
  else s.lcResult 6 0

def State.lcEnd (s : State) (arg : Nat) : State :=
  if s.lc.state = .provisioned ∨ s.lc.state = .field then
    if arg = 0x0ED0 then s.startMove .ended false else s.lcResult 10 0
  else s.lcResult 6 0

def State.lcKeyInstall (s : State) (arg : Nat) : State :=
  if s.lc.state = .provisioned then
    if 2 ≤ arg ∧ arg ≤ 4 ∧ s.lc.hasSlot arg = false ∧ Config.onCurve (bufBytes s.lc.keyBuf 24) = true then
      ({ s with lc := { s.lc with
        populated := s.lc.populated + 2 ^ arg,
        keys := tput s.lc.keys arg ((List.range 24).map (tget 0 s.lc.keyBuf)) } } : State).lcResult 1 lcKeyChange
    else s.lcResult 10 0
  else s.lcResult 6 0

def State.lcRevoke (s : State) (arg : Nat) : State :=
  if s.lc.state = .provisioned ∨ s.lc.state = .field then
    let l := { s.lc with revoked := s.lc.revoked ||| 2 ^ arg }
    if arg < 4 ∧ l.state.slots.any l.accepts then
      ({ s with lc := l } : State).lcResult 1 lcKeyChange
    else s.lcResult 10 0
  else s.lcResult 6 0

def State.lcRaiseFloor (s : State) (arg : Nat) : State :=
  if s.lc.state = .provisioned ∨ s.lc.state = .field ∨ s.lc.state = .return_ then
    if s.lc.minSecVer < arg ∧ arg ≤ 64 ∧ (s.seqImage = true → arg ≤ s.seq.secVer.toNat) then
      ({ s with lc := { s.lc with minSecVer := arg } } : State).lcResult 1 0
    else s.lcResult 10 0
  else s.lcResult 6 0

def State.lcRelock (s : State) : State :=
  let (s, b) := s.endUnlock
  s.lcResult 1 b

/-- A write of LC_CTL.CMD; while BUSY a command completes with BUSY. -/
def State.lcCommand (s : State) (cmd arg : Nat) : State :=
  if cmd = 0 ∨ 7 < cmd then s
  else if s.lc.busy ≠ .none then s.lcResult 9 0
  else match cmd with
    | 1 => s.lcVerify
    | 2 => s.lcEnterField
    | 3 => s.lcEnd arg
    | 4 => s.lcKeyInstall arg
    | 5 => s.lcRevoke arg
    | 6 => s.lcRaiseFloor arg
    | _ => s.lcRelock

/-- A write of LC_CTL with a command, ARG being 16 bits. -/
def lcWrite (s : State) (p : Path) (cmd arg : Nat) : Res :=
  writeAct s p 0x90004 (fun s => s.lcCommand cmd (arg % 65536))

/-- VERIFY (R441, R448). -/
def execVerify (p : Path) (s : State) : Res := lcWrite s p 1 0

/-- ENTER_FIELD (R443, R448). DEDUCED, log entry 48. -/
def execEnterField (p : Path) (s : State) : Res := lcWrite s p 2 0

/-- END (R443, R448). DEDUCED, log entry 48. -/
def execLcEnd (p : Path) (arg : Nat) (s : State) : Res := lcWrite s p 3 arg

/-- KEY_INSTALL (R448). -/
def execKeyInstall (p : Path) (arg : Nat) (s : State) : Res := lcWrite s p 4 arg

/-- REVOKE (R448). -/
def execRevoke (p : Path) (arg : Nat) (s : State) : Res := lcWrite s p 5 arg

/-- RAISE_FLOOR (R448). -/
def execRaiseFloor (p : Path) (arg : Nat) (s : State) : Res := lcWrite s p 6 arg

/-- RELOCK (R447, R448). -/
def execRelock (p : Path) (s : State) : Res := lcWrite s p 7 0

/-- LC_RESERVED_CMD (R448): a code the table does not hold. -/
def execLcReservedCmd (p : Path) (code : Nat) (s : State) : Res :=
  lcWrite s p (if code = 0 ∨ 7 < code then code else 0) 0

/-! ## The seal (R449) -/

/-- The seal is set. -/
def State.setSeal (s : State) : State :=
  if s.lc.sealed then s
  else ({ s with lc := { s.lc with sealed := true } } : State).raiseLc lcSealed

/-- AUTO_SEAL (R449): 2^34 tk after the end of cold reset. -/
def execAutoSeal (s : State) : Res :=
  act s ((s.lc.state == .field || s.lc.state == .ended) && !s.lc.sealed && decide (2 ^ 34 ≤ s.now))
    State.setSeal

/-! ## Transitions and unlock (R444, R445, R447) -/

/-- The key store is erased: slots 2, 3 and 4 (R445). -/
def Lifecycle.erase (l : Lifecycle) : Lifecycle :=
  { l with populated := l.populated % 4, keys := [], erasePend := false }

/-- TRANSITION_COMMIT (R409, R443 to R445): within 50 ms, and before the accesses to P blocks of its die tick (R452). -/
def execTransitionCommit (s : State) : Res :=
  match s.lc.busy with
  | .moving to_ reissue at_ =>
    act s (decide (s.now ≤ at_ + 26250000) && !s.log.priv) (fun s =>
      let l := { s.lc with
        state := to_, busy := .none, reissues := s.lc.reissues + (if reissue then 1 else 0) }
      let l := if to_ = .return_ ∨ to_ = .ended then l.erase else l
      let s := { s with lc := l }
      let (s, b) := s.endUnlock
      let s := if s.island.up then s.updIsland (·.calTo.readLc to_.code) else s
      s.lcResult 1 (lcStateChange ||| b))
  | _ => act s false id

/-- UNLOCK_LEFT (R453): units of 2^20 tk. -/
def State.unlockLeft (s : State) : Nat :=
  match s.lc.unlock with
  | some _ =>
    if s.lc.unlockDur = 0 then 0x3FFFFFF
    else s.lc.unlockDur * 1024 - (s.now - s.lc.unlockAt) / 2 ^ 20
  | none => 0

/-- UNLOCK_EXPIRY (R447). -/
def execUnlockExpiry (s : State) : Res :=
  act s (s.lc.unlock.isSome && decide (s.lc.unlockDur ≠ 0) && s.unlockLeft == 0) (fun s =>
    let (s, b) := s.endUnlock
    s.raiseLc b)

/-! ## Registers (R453) -/

/-- A write of a register of the block at 0x90000: the seal, then the command; TOKEN_BUF and KEY_BUF by
the host only, TOKEN_BUF not during a verification (R451, R452). -/
def State.writeLc (s : State) (p : Path) (off : Nat) (v : Word) : State :=
  let verifying : Bool := match s.lc.busy with
    | .verifying _ _ _ => true
    | _ => false
  if 0x90100 ≤ off ∧ off < 0x90180 then
    if verifying = true ∨ p ≠ .host then s
    else { s with lc := { s.lc with token := tput s.lc.token ((off - 0x90100) / 4) v } }
  else if 0x90200 ≤ off ∧ off < 0x90260 then
    if p ≠ .host then s
    else { s with lc := { s.lc with keyBuf := tput s.lc.keyBuf ((off - 0x90200) / 4) v } }
  else match off with
  | 0x90004 =>
    let s := if bit v 4 then s.setSeal else s
    s.lcCommand (fld v 0 4) (fld v 16 16)
  | 0x90024 => { s with lc := { s.lc with event := s.w1c 0x90024 s.lc.event v } }
  | 0x90028 => { s with lc := { s.lc with eventEn := v &&& 0x7F } }
  | _ => s

/-- A register of the block. -/
def State.lcRead (s : State) (off : Nat) : Word :=
  let l := s.lc
  if 0x90100 ≤ off ∧ off < 0x90180 then tget 0 l.token ((off - 0x90100) / 4)
  else if 0x90200 ≤ off ∧ off < 0x90260 then tget 0 l.keyBuf ((off - 0x90200) / 4)
  else match off with
  | 0x90000 => packW [(0, 3, l.state.code), (3, 1, b2n s.debugOpen), (4, 1, b2n s.privOpen),
      (5, 1, b2n s.unlocked), (6, 1, b2n (decide (l.busy ≠ .none))), (7, 1, b2n l.sealed),
      (8, 4, l.result), (12, 2, l.reissues), (14, 1, b2n l.erasePend)]
  | 0x90008 => loWord l.uid
  | 0x9000C => hiWord l.uid
  | 0x90010 => loWord l.nonce
  | 0x90014 => hiWord l.nonce
  | 0x90018 => packW [(0, 5, l.populated), (8, 4, l.revoked),
      (16, 4, sumL (((List.range 4).filter l.accepts).map (2 ^ ·)))]
  | 0x9001C => packW [(0, 7, l.minSecVer)]
  | 0x90020 => packW [(0, 26, s.unlockLeft)]
  | 0x90024 => l.event
  | 0x90028 => l.eventEn
  | _ => 0

end Sys2Proof.Machine
end

