-- ==== Sys2Proof/Machine/Sideband.lean ====
section
/-! DEFINITION. Cold reset, the EVT_IN pins, the registers of the sideband block (chapter 15). The
SMBus transactions stand in Machine/Smbus. -/

namespace Sys2Proof.Machine

open Sys2Proof

/-! ## Cold reset (R423 to R425) -/

/-- A transition that a cold reset cuts short is found in its old state or its new one (R444): a free value; one that
has begun in the die tick of the reset has not taken effect (R452). DEDUCED, log entry 46. -/
def State.cutMove (s : State) : State :=
  match s.lc.busy with
  | .moving to_ reissue at_ =>
    let s' := s.fresh
    if at_ < s.now ∧ Config.cutCommits s.freeIdx = true then
      let s' := { s' with lc := { s'.lc with
        state := to_, reissues := s'.lc.reissues + (if reissue then 1 else 0),
        erasePend := to_ == LcState.return_ || to_ == LcState.ended } }
      if s'.island.up then s'.updIsland (·.calTo.readLc to_.code) else s'
    else s'
  | _ => s

/-- A cold reset comes into force: mailbox power-good falls and the mailbox slots are cleared (R412,
R424, R425). DEDUCED, log entry 46. -/
def State.enterReset (s : State) (c : ResetCause) : State :=
  let s := s.cutMove
  { s with
    sb := { s.sb with inReset := true, resetAt := s.now, causes := c :: s.sb.causes },
    mb := { s.mb with slots := [] },
    island := { s.island with powerGood := false, replay := none, outbox := [], wire := [] },
    lc := { s.lc with busy := .none } }

/-- COLD_RESET (R423). DESIGN CHOICE, log entry 2. -/
def execColdReset (c : ResetCause) (s : State) : Res :=
  .next (if s.sb.inReset then { s with sb := { s.sb with resetAt := s.now, causes := c :: s.sb.causes } }
    else s.enterReset c)

/-- What a cold reset leaves of the life-cycle block: its fuses and its key store, a pending erase
carried out (R442, R446). DEDUCED, log entry 46. -/
def Lifecycle.afterReset (l : Lifecycle) (nonce : DWord) : Lifecycle :=
  let l : Lifecycle := {
    state := l.state, reissues := l.reissues, erasePend := l.erasePend, uid := l.uid, lcKey := l.lcKey,
    populated := l.populated, keys := l.keys, revoked := l.revoked, minSecVer := l.minSecVer,
    nonce := nonce }
  if l.erasePend then l.erase else l

/-- The state in which a cold reset ends (R424): every register at its reset value, the straps sampled;
the island, the fuses and the model's queue of commands stay. -/
def State.leaveReset (s : State) (smbAddr feedStrap : Nat) : State :=
  { State.reset with
    pending := s.pending,
    freeIdx := s.freeIdx + 1,
    island := s.island,
    lc := s.lc.afterReset (Config.nonce s.freeIdx),
    hz := { State.reset.hz with feedStrap := feedStrap % 16 },
    sb := { State.reset.sb with smbAddr := smbAddr % 8 } }

/-- COLD_RESET_END (R423 to R425, R442, R446): 1 ms after the last cause at the earliest. DESIGN CHOICE, log entry 2. -/
def execColdResetEnd (smbAddr feedStrap : Nat) (s : State) : Res :=
  .next (if s.sb.inReset ∧ s.sb.resetAt + 525000 ≤ s.now then s.leaveReset smbAddr feedStrap else s)

/-! ## EVT_IN (R426, R329) -/

/-- FILTER (R426, R436): 0 is taken as 1. -/
def Sideband.filter (x : Sideband) : Nat := max 1 (fld x.evtCfg 8 8)

/-- FILTER has passed since the line's last judgement, the least time for another (R426). -/
def State.evtSettled (s : State) (i : Nat) : Bool :=
  s.ref.tickValid && decide (tget 0 s.sb.evtAt i + s.sb.filter ≤ s.now)

/-- EVT_IN line `i` is asserted: SB_EVENT; whether it is a feed event FEED_SRC says as the die tick ends. -/
def State.evtAssert (s : State) (i : Nat) : State :=
  let s := ({ s with sb := { s.sb with
    evtLevel := s.sb.evtLevel ||| 2 ^ i, evtAt := tput s.sb.evtAt i s.now } } : State).raiseSb (oneBit i)
  { s with log := { s.log with evts := s.log.evts ++ [i] } }

/-- The assertions of this die tick that are feed events, on FEED_SRC as written in it (R329, R435). -/
def State.evtEnds (s : State) : State :=
  (s.log.evts.filter s.hz.feedSrc.testBit).foldl (fun s i => s.feedEvent 0 0 (2 ^ i)) s

/-- EVT_IN_ASSERT (R426). DEDUCED, log entry 51. -/
def execEvtInAssert (i : Nat) (s : State) : Res :=
  actAt "EVT_IN line" 4 i s (s.evtSettled i && !s.sb.evtLevel.testBit i) (fun s => s.evtAssert i)

/-- EVT_IN_DEASSERT (R426). DEDUCED, log entry 51. -/
def execEvtInDeassert (i : Nat) (s : State) : Res :=
  actAt "EVT_IN line" 4 i s (s.evtSettled i && s.sb.evtLevel.testBit i) (fun s =>
    { s with sb := { s.sb with evtLevel := s.sb.evtLevel - 2 ^ i, evtAt := tput s.sb.evtAt i s.now } })

/-! ## The output pins (R418, R419, R427) -/

/-- An output pin. -/
inductive OutPin where
  | avsClk | avsMdata | ldwarn (n : Nat) | syncOut | tickOut | alarm | smbus | madc
  deriving DecidableEq, Repr

/-- The pin is driven, or may be pulled low; otherwise it is Hi-Z (R419). -/
def State.drives (s : State) : OutPin → Bool
  | .alarm => !s.sb.inReset
  | .smbus => !s.sb.inReset
  | .madc => s.island.up
  | _ => !s.sb.inReset && s.ref.tickValid

/-- The level of a pin that is a level of this model's State; none where it is Hi-Z. ALARM# is low active and
released otherwise. -/
def State.pinLevel (s : State) (p : OutPin) : Option Bool :=
  if s.drives p = false then none
  else match p with
    | .ldwarn n => some (s.ldwarn n)
    | .syncOut => some s.syncOut
    | .tickOut => some s.tickOut
    | .alarm => if s.sb.alarm then some false else none
    | _ => none

/-! ## Registers (R436) -/

/-- A write of a register of the block at 0xA0000. -/
def State.writeSb (s : State) (off : Nat) (v : Word) : State :=
  match off with
  | 0xA0008 => { s with sb := { s.sb with evtCfg := v &&& 0xFF0F } }
  | 0xA000C => ({ s with sb := { s.sb with alarmCfg := v &&& 0x1F } } : State)
  | 0xA0014 => if s.lc.sealed then s else { s with sb := { s.sb with smbCfg := v &&& 1 } }
  | 0xA0020 => { s with sb := { s.sb with avsDiv := fld v 0 6 } }
  | 0xA0028 => { s with sb := { s.sb with event := s.w1c 0xA0028 s.sb.event v } }
  | 0xA002C => { s with sb := { s.sb with eventEn := v &&& 0x1FF } }
  | _ => s

/-- The LDWARN pins as driven. -/
def State.ldwarnPins (s : State) : Nat := sumL ((List.range 4).map (fun n => b2n (s.ldwarn n) * 2 ^ n))

/-- SB_PINS. -/
def State.sbPins (s : State) : Word :=
  packW [(0, 4, s.sb.evtLevel), (4, 4, s.ldwarnPins), (8, 1, b2n s.sb.alarm), (9, 1, b2n s.syncOut),
    (10, 1, b2n (Config.avsSdata s.now))]

/-- A register of the block. -/
def State.sbRead (s : State) (off : Nat) : Word :=
  let x := s.sb
  match off with
  | 0xA0000 => packW [(0, 3, x.smbAddr), (8, 4, s.hz.feedStrap)]
  | 0xA0004 => s.sbPins
  | 0xA0008 => x.evtCfg
  | 0xA000C => x.alarmCfg
  | 0xA0010 => s.alarmStatus
  | 0xA0014 => x.smbCfg
  | 0xA0018 => packW [(0, 16, x.refused), (16, 8, x.pecErrs), (24, 8, x.timeouts)]
  | 0xA001C => packW [(0, 20, x.lastOff)]
  | 0xA0020 => packW [(0, 6, x.avsDiv), (8, 1, b2n s.avsOnBus.isSome), (16, 16, x.busErrs)]
  | 0xA0028 => x.event
  | 0xA002C => x.eventEn
  | _ => 0

end Sys2Proof.Machine
end

