-- ==== Sys2Proof/Machine/Firmware.lean ====
section
/-! DEFINITION. Tasks started and stopped (R336, R338, R367), the ROM program's bring-up (R373, R468), the
loader (R374 to R378), the sequencer control block (R380), the host command port (R381, R382). -/

namespace Sys2Proof.Machine

open Sys2Proof

/-! ## Tasks (R336, R338, R366, R367) -/

/-- SEQ_HALT is a matter of the tasks' states: HALTED when it becomes 1, and ALARM# (R338, R427). -/
def State.haltEdge (s : State) (was : Bool) : State :=
  (if s.halted && !was then s.raiseSeq 2 0 else s)

/-- The task stops: what it waited for is abandoned, host commands it has not completed are never
completed (R367, R385); with T0 the ROM program's bring-up ends. -/
def State.stopNow (s : State) (t : Nat) : State :=
  let s := s.updTask t (fun k => { k with state := .stopped, stopDue := 0 })
  { s with seq := { s.seq with
    jobs := s.seq.jobs.filter (fun j => j.task != t),
    pushes := s.seq.pushes.filter (fun p => p.task != t),
    bring := if t = 0 then none else s.seq.bring } }

/-- TSTOP of a task by another: did it run? A WAITING task stops with this die tick, unless its wait ends in it;
a READY one at the end of its instruction in progress, or of its next one where its wait ended in this die tick
(R367, R370). DEDUCED, log entry 43. -/
def State.stopTask (s : State) (t : Nat) : State × Bool :=
  match (s.task t).state with
  | .stopped => (s, false)
  | .faulted => (s, false)
  | .waiting _ => (s.updTask t (fun k => { k with stopDue := 3 }), true)
  | .ready =>
    let k := s.task t
    if k.wokeAt = some s.now then (s.setTask t { k with stopDue := 2 }, true)
    else if s.now < k.readyAt then (s.setTask t { k with stopDue := max 1 k.stopDue }, true)
    else (s.stopNow t, true)

/-- A task starts READY at an address; it may issue in the next cycle. -/
def State.startTask (s : State) (t pc : Nat) (g : Tbl Word) : State :=
  s.updTask t (fun k => { k with
    state := .ready, pc := pc % 16384, g := g, readyAt := s.cycleAfter, wokeAt := none,
    stepped := false, stopDue := 0 })

/-- Registers of a started task: G1, all others 0. -/
def startRegs (g1 : Word) : Tbl Word := if g1 = 0 then [] else [(1, g1)]

/-- A stop that waited for the end of an instruction (R367): the sequencer's part of a die tick. -/
def State.stopsDue (s : State) : State :=
  let was := s.halted
  let l := [0, 1, 2, 3].filter (fun t =>
    (s.task t).stopDue == 1 && decide ((s.task t).readyAt ≤ s.now) && (s.task t).state == .ready)
  if l = [] then s else (l.foldl State.stopNow s).haltEdge was

/-- The waits that a TSTOP of this die tick abandons. -/
def State.stopsEnd (s : State) : State :=
  let was := s.halted
  let l := [0, 1, 2, 3].filter (fun t => (s.task t).stopDue == 3)
  if l = [] then s else (l.foldl State.stopNow s).haltEdge was

/-! ## The ROM program's bring-up (R373, R468) -/

/-- Slot 9 of a cluster (R8). -/
def isSpareCore (r : Nat) : Bool := decide (r < 160) && r % 10 == 9

/-- A write by the ROM program to a region's page, which does nothing while the die tick is lost. -/
def State.romWrite (s : State) (r : Nat) (f : State → State) : State :=
  if (s.region r).racg.refLost then s else f s

/-- DCO1's code for 535.5 MHz, from the counts at two codes, by interpolation: 535.5 MHz is 4,177.92
cycles in 4,096 tk. None where the frequency does not rise with the code, or the code lies outside
0 to 16,255 (R468). DESIGN CHOICE, log entry 7. -/
def romCeiling (c1 n1 c2 n2 : Nat) : Option Nat :=
  let lo := if c1 ≤ c2 then (c1, n1) else (c2, n2)
  let hi := if c1 ≤ c2 then (c2, n2) else (c1, n1)
  if lo.1 < hi.1 ∧ lo.2 < hi.2 then
    let code : Int := lo.1 + (417792 - 100 * (lo.2 : Int)) * ((hi.1 : Int) - lo.1)
      / (100 * ((hi.2 : Int) - lo.2))
    if 0 ≤ code ∧ code ≤ 16255 then some code.toNat else none
  else none

/-- The codes as DCO_MEAS_CTL holds them. -/
def romCode (second : Bool) : Nat := (if second then Config.romCode2 else Config.romCode1) % 16384

/-- The target reading of an ADV at gear N (chapter 13, periodic calibration). DESIGN CHOICE, log entry 7. -/
def calTarget (n adv : Nat) : Nat := (adv * ((243810 + n / 2) / n) + 2048) / 4096

/-- A PATH window starts. -/
def State.romProbe (s : State) (r adv : Nat) : State := s.romWrite r (fun s => s.writeProbe r adv false true)

/-- A trim moved by one code for each tap of its reading's difference from the target, within 0 to 63. -/
def trimTo (trim reading target : Nat) : Nat := min 63 (trim + reading - target)

/-- The two detectors of a pair are trimmed; were any off target? -/
def State.trimPair (s : State) (r pair target : Nat) : State × Bool :=
  let d := (s.region r).droop
  let w := pair / 2
  let want (i : Nat) : Nat :=
    if i / 2 = pair then trimTo (tget 0 d.trims i) (d.shown i) target else tget 0 d.trims i
  let off := d.shown (2 * pair) != target || d.shown (2 * pair + 1) != target
  (s.romWrite r (fun s => s.writeTrim r w (detWord r w want)), off)

/-- The next pair is selected and its window starts; after the last, CAL_DONE. -/
def State.nextPair (s : State) (r target pair : Nat) : State × BringStage :=
  if 2 * pair < detCount r then
    let s := s.romWrite r (fun s => s.writeCalSel r (BitVec.ofNat 32 (3 * 4 ^ pair)))
    (s.romProbe r 0, .trimming target pair 4)
  else (s.romWrite r (fun s => s.writeCalDone r), .ended)

/-- A region's bring-up goes on as far as it can. DESIGN CHOICE, log entry 7. -/
def State.bringRegion (s : State) (r : Nat) (st : BringStage) : State × BringStage :=
  let x := s.region r
  match st with
  | .measuring second n1 since =>
    if x.regs.measValid = true then
      if second then
        (match romCeiling (romCode false) n1 (romCode true) x.regs.measCount with
          | some c => s.romWrite r (fun s =>
              s.writeCeil r 0 (packW [(0, 14, c + 128), (16, 14, c)]))
          | none => s, .coded)
      else
        (s.romWrite r (fun s => s.writeMeasCtl r (romCode true) true),
          .measuring true x.regs.measCount s.now)
    else if since + 8192 ≤ s.now then (s, .coded)
    else (s, st)
  | .coded => (s, st)
  | .locking =>
    if x.racg.state = .acquire then (s, st)
    else if x.racg.state = .locked then (s.romProbe r 32, .search 0 32)
    else (s, .ended)
  | .search adv b =>
    if x.cal.probeRun.isSome then (s, st)
    else
      let adv := if x.cal.prValid = true ∧ x.cal.prFail = false then adv + b else adv
      if 1 < b then (s.romProbe r (adv + b / 2), .search adv (b / 2))
      else s.nextPair r (calTarget (s.gearN x.racg.gear) adv) 0
  | .trimming target pair left =>
    if x.cal.probeRun.isSome then (s, st)
    else
      let (s, off) := s.trimPair r pair target
      if off = true ∧ 1 < left then (s.romProbe r 0, .trimming target pair (left - 1))
      else (s.romWrite r (fun s => s.writeCalSel r 0)).nextPair r target (pair + 1)
  | .ended => (s, st)

/-- Step 4's couplers: neither region is a cluster's slot 9 or stayed in OFF, and both shutters are
closed. -/
def State.romCouplers (s : State) : List Nat :=
  (List.range 832).filter (fun i => [cplOwner i, cplFarRegion i].all (fun r =>
    !isSpareCore r && (s.region r).racg.state != .off && !(s.region r).racg.shutter))

/-- The bring-up's part of a die tick: every region goes on; where all have ended a step, the next. -/
def State.bringTick (s : State) : State :=
  match s.seq.bring with
  | none => s
  | some (.regions l) =>
    let (s, l) := l.foldl (fun (a : State × Tbl BringStage) e =>
      let (s, st) := a.1.bringRegion e.1 e.2
      (s, a.2 ++ [(e.1, st)])) (s, [])
    if l.all (fun e => e.2 == .coded) then
      let s := l.foldl (fun s e => s.romWrite e.1 (fun s => s.racgCommand e.1 1 0)) s
      { s with seq := { s.seq with bring := some (.regions (l.map (fun e => (e.1, .locking)))) } }
    else if l.all (fun e => e.2 == .ended) then
      let on := s.romCouplers
      let s := on.foldl (fun s i => s.cplCommand i 1 false) s
      { s with seq := { s.seq with bring := some (.opening on) } }
    else { s with seq := { s.seq with bring := some (.regions l) } }
  | some (.opening on) =>
    if on.all (fun i => (s.cpl i).enableAt.isNone) then
      let s := ((List.range 208).filter (fun r => !isSpareCore r)).foldl
        (fun s r => s.romWrite r (fun s => s.racgCommand r 7 0)) s
      { s with seq := { s.seq with bring := none } }
    else s

/-- The ROM program starts in ROM mode as T0; with every RACG in OFF it brings the die up (R371, R373). -/
def State.romStart (s : State) : State :=
  let s := ({ s with seq := { s.seq with mode := .rom, ready := true } } : State).startTask 0 Config.romModeEntry []
  if s.regions.all (fun e => e.2.racg.state == .off) then
    let s := (List.range 208).foldl
      (fun s r => s.romWrite r (fun s => s.writeMeasCtl r (romCode false) true)) s
    { s with seq := { s.seq with
      bring := some (.regions ((List.range 208).map (fun r => (r, .measuring false 0 s.now)))) } }
  else s

/-! ## Loading (R372 to R378) -/

/-- Word `k` of the image received so far. -/
def Seq.hdr (q : Seq) (k : Nat) : Word := q.words.getD (q.received - 1 - k) 0

def Seq.keySlot (q : Seq) : Nat := fld (q.hdr 1) 16 16
def Seq.iwords (q : Seq) : Nat := fld (q.hdr 3) 0 16
def Seq.dwords (q : Seq) : Nat := fld (q.hdr 3) 16 16
def Seq.entryOf (q : Seq) (t : Nat) : Nat := fld (q.hdr (4 + t / 2)) (16 * (t % 2)) 16

/-- Code of the first check made at the 16th word that fails, 0 for none (R375). DEDUCED, log entry 42. -/
def State.headerFails (s : State) : Nat :=
  let q := s.seq
  let entries := (List.range 4).map q.entryOf |>.filter (fun e => e != 0xFFFF)
  if q.hdr 0 ≠ 0x4C595331 ∨ fld (q.hdr 1) 0 16 ≠ 1
      ∨ (List.range 9).any (fun k => q.hdr (7 + k) != 0) = true ∨ entries = []
      ∨ entries.any (fun e => decide (q.iwords ≤ e)) = true then 2
  else if q.iwords = 0 ∨ 16384 < q.iwords ∨ 8192 < q.dwords then 3
  else if s.lc.accepts q.keySlot = false then 5
  else if (q.hdr 2).toNat < s.lc.minSecVer then 6
  else 0

/-- A load fails: both memories zeroed, LOAD_FAIL, ROM mode (R377). DEDUCED, log entry 42. -/
def State.loadFail (s : State) (code : Nat) : State :=
  let s := { s with seq := { s.seq with
    imem := [], dmem := [], eccBad := [], eccSoft := [], loadRes := code, verifyAt := none } }
  (s.raiseSeq 8 0).romStart

/-- Word `i` of the image is put into its place. -/
def State.placeWord (s : State) (i : Nat) (v : Word) : State :=
  let q := s.seq
  if i < 16 then s
  else if i - 16 < q.iwords then { s with seq := { q with imem := mput 0 q.imem (i - 16) v } }
  else if i - 16 < q.iwords + q.dwords then
    { s with seq := { q with dmem := writeWord q.dmem (4 * (i - 16 - q.iwords)) v } }
  else s

/-- A write of IMG_DATA (R378): ignored outside LOADING and after the die tick of LOAD_END; a write with 64 words waiting
is lost; at the 16th word the header is checked. -/
def State.imgWord (s : State) (v : Word) : State :=
  if s.seq.mode ≠ .loading ∨ (s.seq.verifyAt.isSome = true ∧ s.seq.verifyAt ≠ some s.now) then s
  else if 64 ≤ s.seq.port then s.loadFail 7
  else
    let i := s.seq.received
    let s := { s with seq := { s.seq with
      words := v :: s.seq.words, received := i + 1, wordsAt := s.now, port := s.seq.port + 1 } }
    if i = 15 then (let c := s.headerFails; if c = 0 then s else s.loadFail c)
    else s.placeWord i v

/-- Instructions in progress (R376): an ARMD, an LDK, posted writes, a POP, or any whose cycles have not elapsed. -/
def State.seqBusy (s : State) : Bool :=
  [0, 1, 2, 3].any (fun t =>
    (s.task t).armd.isSome || (s.task t).ldk.isSome
      || ((s.task t).state == .ready && decide (s.now < (s.task t).readyAt)))
    || s.seq.popMove.isSome || !s.seq.posted.isEmpty

/-- An accepted LOAD_BEGIN enters LOADING once what was in progress has ended, 64 tk after it at the latest (R376). -/
def State.loadStep (s : State) : State :=
  match s.seq.begin_ with
  | some t =>
    if s.seqBusy = false ∨ t + 64 ≤ s.now then
      (({ s with seq := { s.seq with
        imem := [], dmem := [], eccBad := [], eccSoft := [], popMove := none, posted := [], imgVer := 0,
        secVer := 0, loads := (s.seq.loads + 1) % 65536, cold := false } } : State).enterLoading)
    else s
  | none => s

/-- A task that a LOAD_BEGIN stops: its wait is abandoned at once, its instruction in progress ends first. -/
def State.stopForLoad (s : State) (t : Nat) : State :=
  let k := s.task t
  if k.state.isIdle then s
  else if k.state = .ready ∧ s.now < k.readyAt then s.setTask t { k with stopDue := 1 }
  else s.stopNow t

/-- LOAD_BEGIN written (R376): accepted in ROM mode and with an image. DEDUCED, log entry 42. -/
def State.loadBegin (s : State) : State :=
  if s.seq.mode = .loading ∨ s.seq.mode = .notStarted ∨ s.seq.begin_.isSome = true then s
  else
    let s := [0, 1, 2, 3].foldl State.stopForLoad s
    ({ s with seq := { s.seq with begin_ := some s.now, bring := none } } : State).loadStep

/-- The number of words is that of the header (R375). -/
def Seq.sizeRight (q : Seq) : Bool := decide (16 ≤ q.received) && q.received == 40 + q.iwords + q.dwords

/-- LOAD_END written: with the right number of words the signature is verified; with another the load waits for a word
later in this die tick (R375, R387). -/
def State.loadEnd (s : State) : State :=
  if s.seq.mode ≠ .loading ∨ s.seq.verifyAt.isSome = true then s
  else if s.seq.sizeRight then { s with seq := { s.seq with verifyAt := some s.now } }
  else { s with log := { s.log with ending := true } }

/-- The size check of a LOAD_END, as its die tick ends (R375, R387). -/
def State.loadEnds (s : State) : State :=
  if s.seq.mode = .loading ∧ (s.log.ending = true ∨ s.seq.verifyAt = some s.now) then
    if s.seq.sizeRight then { s with seq := { s.seq with verifyAt := some s.now } } else s.loadFail 3
  else s

/-- LOAD_ABORT written. -/
def State.loadAbort (s : State) : State := if s.seq.mode = .loading then s.loadFail 7 else s

/-- The image's signature verifies with the key of its slot (R374). -/
def State.imageSigned (s : State) : Bool :=
  let q := s.seq
  let ws := q.words.reverse
  let n := 16 + q.iwords + q.dwords
  Config.ecdsaVerify (s.lc.slotKey q.keySlot) ((ws.take n).flatMap wordBytes)
    ((ws.drop n).flatMap wordBytes)

/-- A load passes (R377); a TASK_ENTRY that software has written in this die tick keeps that value (R17).
DEDUCED, log entry 44. -/
def State.loadPass (s : State) : State :=
  let q := s.seq
  let s := { s with seq := { q with
    mode := .image, ready := true, loadRes := 1, verifyAt := none, bring := none, imgVer := q.hdr 6, secVer := q.hdr 2 } }
  let s := (List.range 4).foldl (fun s t =>
    let e := q.entryOf t
    let s := if s.wroteNow (0x08020 + 4 * t) then s
      else s.updTask t (fun k => { k with entry := e % 16384 })
    if e = 0xFFFF then s.updTask t (fun k => { k with state := .stopped })
    else s.startTask t e (startRegs (if q.cold then 0 else 1))) s
  (s.raiseSeq 4 0)

/-- LOAD_TIMEOUT (R372). DEDUCED, log entry 42. -/
def execLoadTimeout (s : State) : Res :=
  act s (s.seq.mode == .loading && s.seq.received == 0 && s.seq.verifyAt.isNone
      && decide (s.seq.wordsAt + 2 ^ 30 ≤ s.now)) (fun s => s.romStart)

/-- LOAD_BEGIN (R376). -/
def execLoadBegin (p : Path) (s : State) : Res := writeAct s p 0x08000 State.loadBegin

/-- IMG_DATA (R375, R378). DEDUCED, log entry 42. -/
def execImgData (p : Path) (v : Word) (s : State) : Res := writeAct s p 0x08030 (fun s => s.imgWord v)

/-- LOAD_END (R375, R378). DEDUCED, log entry 42. -/
def execLoadEnd (p : Path) (s : State) : Res := writeAct s p 0x08000 State.loadEnd

/-- LOAD_VERIFY_DONE (R375, R377). -/
def execLoadVerifyDone (s : State) : Res :=
  act s (s.seq.mode == .loading && (match s.seq.verifyAt with
      | some t => decide (t < s.now) && decide (s.now ≤ t + 2100000)
      | none => false)) (fun s =>
    if s.imageSigned then s.loadPass else s.loadFail 4)

/-- LOAD_ABORT (R375). -/
def execLoadAbort (p : Path) (s : State) : Res := writeAct s p 0x08000 State.loadAbort

/-- LOAD_GAP_TIMEOUT (R375). DEDUCED, log entry 42. -/
def execLoadGapTimeout (s : State) : Res :=
  act s (s.seq.mode == .loading && decide (s.seq.received ≠ 0) && s.seq.verifyAt.isNone
      && decide (s.seq.wordsAt + 2 ^ 24 ≤ s.now)) (fun s => s.loadFail 7)

/-! ## Restart and stop (R371, R380) -/

/-- RESTART of a task at TASK_ENTRY with G1 = 2; in ROM mode only of the ROM program. One of a running task is noted for
a fault of it in the same die tick (R387). DEDUCED, log entry 44. -/
def State.restartTask (s : State) (t : Nat) : State :=
  if (s.task t).state.isIdle = false then { s with log := { s.log with restart := s.log.restart ||| 2 ^ t } }
  else if s.seq.begin_ = none then
    match s.seq.mode with
    | .image => s.startTask t (s.task t).entry (tput (s.task t).g 1 2)
    | .rom => if t = 0 then s.romStart else s
    | .notStarted => s
    | .loading => s
  else s

/-- Bits of a mask, as tasks. -/
def maskTasks (m : Nat) : List Nat := [0, 1, 2, 3].filter (fun t => m.testBit t)

/-- RESTART written. -/
def State.restartTasks (s : State) (m : Nat) : State :=
  ((maskTasks m).foldl State.restartTask s)

/-- STOP written. -/
def State.stopTasks (s : State) (m : Nat) : State :=
  if s.seq.mode = .notStarted then s
  else ((maskTasks m).foldl (fun s t => (s.stopTask t).1) s).haltEdge s.halted

/-- The RESTARTs of this die tick that came before the task's fault (R387). -/
def State.restartsAgain (s : State) : State :=
  let l := (maskTasks s.log.restart).filter (fun t => (s.task t).state == .faulted)
  if l = [] then s else (l.foldl State.restartTask s)

/-- SEQ_RESTART (R371, R380). DEDUCED, log entry 44. -/
def execSeqRestart (p : Path) (mask : Nat) (s : State) : Res :=
  writeAct s p 0x08000 (fun s => s.restartTasks mask)

/-- SEQ_STOP (R367, R380). -/
def execSeqStop (p : Path) (mask : Nat) (s : State) : Res :=
  writeAct s p 0x08000 (fun s => s.stopTasks mask)

/-- A write of SEQ_CTL: LOAD_BEGIN before the rest (R387). -/
def State.writeSeqCtl (s : State) (v : Word) : State :=
  let s := if bit v 8 then s.loadBegin else s
  let s := if fld v 4 4 = 0 then s else s.stopTasks (fld v 4 4)
  let s := if fld v 0 4 = 0 then s else s.restartTasks (fld v 0 4)
  let s := if bit v 9 then s.loadEnd else s
  if bit v 10 then s.loadAbort else s

/-- A write of a register of the block at 0x08000. -/
def State.writeSeq (s : State) (off : Nat) (v : Word) : State :=
  match off with
  | 0x08000 => s.writeSeqCtl v
  | 0x08020 => s.updTask 0 (fun k => { k with entry := fld v 0 14 })
  | 0x08024 => s.updTask 1 (fun k => { k with entry := fld v 0 14 })
  | 0x08028 => s.updTask 2 (fun k => { k with entry := fld v 0 14 })
  | 0x0802C => s.updTask 3 (fun k => { k with entry := fld v 0 14 })
  | 0x08030 => s.imgWord v
  | 0x08040 => { s with seq := { s.seq with event := s.w1c 0x08040 s.seq.event v } }
  | 0x08044 => { s with seq := { s.seq with eventEn := v &&& 0x1F } }
  | _ => s

/-- R336 codes. -/
def TaskState.code : TaskState → Nat
  | .stopped => 0
  | .ready => 1
  | .waiting _ => 2
  | .faulted => 3

/-- SEQ_STATUS.MODE. -/
def SeqMode.code : SeqMode → Nat
  | .notStarted => 0
  | .rom => 1
  | .image => 2
  | .loading => 3

/-- SEQ_STATUS. -/
def State.seqStatus (s : State) : Word :=
  packW [(0, 2, (s.task 0).state.code), (2, 2, (s.task 1).state.code), (4, 2, (s.task 2).state.code),
    (6, 2, (s.task 3).state.code), (8, 2, s.seq.mode.code), (10, 3, s.seq.loadRes),
    (16, 16, s.seq.eccFixed)]

/-- FAULT[t]. -/
def Task.faultWord (k : Task) : Word := packW [(0, 14, k.faultPc), (16, 3, k.cause), (24, 8, k.faults)]

/-- A register of the block. -/
def State.seqRead (s : State) (off : Nat) : Word :=
  match off with
  | 0x08004 => s.seqStatus
  | 0x08010 => (s.task 0).faultWord
  | 0x08014 => (s.task 1).faultWord
  | 0x08018 => (s.task 2).faultWord
  | 0x0801C => (s.task 3).faultWord
  | 0x08020 => packW [(0, 14, (s.task 0).entry)]
  | 0x08024 => packW [(0, 14, (s.task 1).entry)]
  | 0x08028 => packW [(0, 14, (s.task 2).entry)]
  | 0x0802C => packW [(0, 14, (s.task 3).entry)]
  | 0x08034 => s.seq.imgVer
  | 0x08038 => s.seq.secVer
  | 0x0803C => packW [(0, 16, s.seq.received), (16, 16, s.seq.loads)]
  | 0x08040 => s.seq.event
  | 0x08044 => s.seq.eventEn
  | _ => 0

/-! ## The host command port (R381 to R383) -/

/-- Carriage `i` of CMD_BUF. -/
def CmdPort.carriage (c : CmdPort) (i : Nat) : DWord :=
  joinWords (tget 0 c.buf (2 * i)) (tget 0 c.buf (2 * i + 1))

/-- SUBMIT with a LENGTH (R382): refused while BUSY or out of range; else the coach is formed, a logical
command judged on the map. -/
def State.submit (s : State) (len : Nat) : State :=
  if s.cmd.busy.isSome = true ∨ len < 2 ∨ 8 < len then
    { s with
      cmd := { s.cmd with refused := satAdd 0xFFFF s.cmd.refused 1 }
      log := { s.log with submit :=
        if s.log.submit = none ∧ 2 ≤ len ∧ len ≤ 8 then some len else s.log.submit } }
  else
    let c := s.cmd.carriage 1
    let (s, c, ok) := if bit c 48 then s.portJudge c else (s, portBits c false false 0xFF, false)
    let h := coachHeader 0xC0 len 0x160 s.tick
    let rest := (List.range (len - 2)).map (fun i => s.cmd.carriage (i + 2))
    { s with
      cmd := { s.cmd with busy := some (h :: c :: rest), last := h }, log := { s.log with byLogical := ok } }

/-- BUSY has fallen in this die tick: the first SUBMIT of the tick refused for it is taken after all (R387). -/
def State.submitAgain (s : State) : State :=
  match s.log.submit with
  | some len =>
    if s.cmd.busy = none then
      ({ s with
        cmd := { s.cmd with refused := s.cmd.refused - 1 }
        log := { s.log with submit := none } } : State).submit len
    else s
  | none => s

/-- A write of CMD_CTL. -/
def State.writeCmdCtl (s : State) (len : Nat) (submit : Bool) : State :=
  let s := { s with cmd := { s.cmd with len := len % 16 } }
  if submit then s.submit s.cmd.len else s

/-- SUBMIT (R382). -/
def execSubmit (p : Path) (len : Nat) (s : State) : Res :=
  writeAct s p 0x00140 (fun s => s.writeCmdCtl len true)

/-- A write of a register of the port. -/
def State.writeCmd (s : State) (off : Nat) (v : Word) : State :=
  if off = 0x00140 then s.writeCmdCtl (fld v 0 4) (bit v 4)
  else if 0x00108 ≤ off ∧ off < 0x00140 then
    { s with cmd := { s.cmd with buf := tput s.cmd.buf ((off - 0x00100) / 4) v } }
  else s

/-- A register of the port. -/
def State.cmdRead (s : State) (off : Nat) : Word :=
  let c := s.cmd
  if off = 0x00100 then loWord c.last
  else if off = 0x00104 then hiWord c.last
  else if 0x00108 ≤ off ∧ off < 0x00140 then tget 0 c.buf ((off - 0x00100) / 4)
  else if off = 0x00140 then packW [(0, 4, c.len), (5, 1, b2n c.busy.isSome)]
  else if off = 0x00144 then packW [(0, 16, c.submitted), (16, 16, c.refused)]
  else 0

end Sys2Proof.Machine
end

