-- ==== Sys2Proof/Machine/Window.lean ====
section
/-! DEFINITION. The KTC window (chapter 01): what a write of any register does, what a read of any register
returns and changes, the SMBus target's reach (R429), and the rows for registers without a row of their
own. -/

namespace Sys2Proof.Machine

open Sys2Proof

/-! ## Writes, block by block, by a path that may write there -/

/-- 0x00000: INT_ENABLE and GLOBAL_CTL (R44); the writes ignored in this die tick count after a clear (R47). -/
def State.writeGlobal (s : State) (off : Nat) (v : Word) : State :=
  match off with
  | 0x0000C => { s with glob := { s.glob with intEnable := v &&& 0x3FFF } }
  | 0x00018 =>
    if bit v 0 then
      { s with glob := { s.glob with
        ignored := sat 0xFFFF s.log.ignored, lastOff := if s.log.ignored = 0 then 0 else s.glob.lastOff } }
    else s
  | _ => s

/-- 0x01000: references and roots (R83). -/
def State.writeRefBlock (s : State) (off : Nat) (v : Word) : State :=
  match off with
  | 0x01000 => s.writeRefCtl v
  | 0x01008 => { s with ref := { s.ref with refEvent := s.w1c off s.ref.refEvent v } }
  | 0x0100C => { s with ref := { s.ref with refEventEn := v &&& 0x3FFF } }
  | 0x01010 =>
    if s.lc.sealed then s else { s with ref := { s.ref with watchLimits := v &&& 0x0FFFFFFF } }
  | 0x0101C => s.writeRootCtl (bit v 0) (bit v 1)
  | 0x01028 => if s.lc.sealed then s else { s with ref := { s.ref with slewCtl := v &&& 0xF } }
  | _ => s

/-- A slot's DOOR or SET, which a busy slot keeps (R189). -/
def State.writeSlotData (s : State) (k : Nat) (f : DoorSlot → DoorSlot) : State :=
  if (s.slot k).state.busy then s else s.updSlot k f

/-- A write of a register of door slot `k`; the host's GO waits for a sequencer that runs (R30). -/
def State.writeSlot (s : State) (p : Path) (k off : Nat) (v : Word) : State :=
  if off = 0 then s.writeSlotCtl k (fld v 0 4) (bit v 10) (bit v 8 && !s.frozen p) (bit v 9)
  else if off = 0x08 then s.writeSlotData k (fun d => { d with door := joinWords v (hiWord d.door) })
  else if off = 0x0C then s.writeSlotData k (fun d => { d with door := joinWords (loWord d.door) v })
  else if 0x10 ≤ off ∧ off < 0x2C then
    s.writeSlotData k (fun d => { d with set := setPutWord d.set ((off - 0x10) / 4) v })
  else s

/-- 0x02000: gear table and doors (R202). -/
def State.writeDoors (s : State) (p : Path) (off : Nat) (v : Word) : State :=
  if off < 0x02080 then s.writeGear ((off - 0x02000) / 8) (off % 8 == 4) v
  else if 0x020D0 ≤ off ∧ off < 0x020EC then s.clearTrips ((off - 0x020D0) / 4) v
  else if 0x02100 ≤ off ∧ off < 0x02300 then s.writeSlot p ((off - 0x02100) / 0x80) (off % 0x80) v
  else match off with
  | 0x02080 => { s with doors := { s.doors with event := s.w1c off s.doors.event v } }
  | 0x02084 => { s with doors := { s.doors with eventEn := v &&& 0x07FFFFFF } }
  | 0x02088 =>
    let m : Word := if s.lc.sealed then 0x000003FF else 0x03FF03FF
    { s with doors := { s.doors with thermLimit := rwBits m s.doors.thermLimit v } }
  | 0x0208C => if s.lc.sealed then s else { s with doors := { s.doors with cfg := v &&& 3 } }
  | _ => s

/-- A write of a register of an AVSBus request channel. -/
def State.writeAvs (s : State) (n off : Nat) (v : Word) : State :=
  match off with
  | 0x0 =>
    if bit v 16 then s.avsGoNow n (fld v 0 16) else s.updAvs n (fun a => { a with mv := fld v 0 16 })
  | 0x8 => if s.lc.sealed then s else s.updAvs n (fun a => { a with limit := v })
  | 0xC =>
    let m : Word := if s.lc.sealed then 0x01FFFF00 else 0x01FFFF0F
    s.updAvs n (fun a => { a with cfg := rwBits m a.cfg v })
  | _ => s

/-- 0x03000: forecast, stagger, AVSBus (R181); some are in force from the next die tick (R167, R175, R180). -/
def State.writeFc (s : State) (off : Nat) (v : Word) : State :=
  if 0x03030 ≤ off ∧ off < 0x0305C then
    let f := (off - 0x03030) / 4
    { s with fc := { s.fc.keep off (tget (fmtReset f) s.fc.fmtTbl f) with fmtTbl := tput s.fc.fmtTbl f (v &&& 0xF) } }
  else if 0x03060 ≤ off ∧ off < 0x030A0 then
    let c := (off - 0x03060) / 4
    { s with fc := { s.fc.keep off (tget 10 s.fc.stepMax c) with stepMax := tput s.fc.stepMax c (v &&& 0x3F) } }
  else if 0x03100 ≤ off ∧ off < 0x03140 then s.writeAvs ((off - 0x03100) / 16) (off % 16) v
  else match off with
  | 0x03000 => s.writeFcCtl v
  | 0x03008 => { s with fc := { s.fc with event := s.w1c off s.fc.event v } }
  | 0x0300C => { s with fc := { s.fc with eventEn := v &&& 0x1FF } }
  | 0x03010 =>
    if s.lc.sealed then s else { s with fc := { s.fc.keep off s.fc.railMap with railMap := v } }
  | 0x03014 => { s with fc := { s.fc with warnCfg := v &&& 0xFFFF03FF } }
  | 0x03018 => { s with fc := { s.fc with winCfg := v &&& 0x00010FFF } }
  | 0x03020 => { s with fc := { s.fc.keep off s.fc.bandLim with bandLim := v &&& 0x3FFFFFFF } }
  | 0x03024 => { s with fc := { s.fc.keep off s.fc.tightVal with tightVal := v &&& 0xFFFF } }
  | 0x03140 => { s with fc := { s.fc with avsEvent := s.w1c off s.fc.avsEvent v } }
  | 0x03144 => { s with fc := { s.fc with avsEventEn := v &&& 0xFFFFF } }
  | _ => s

/-- A write of LOOP_CFG, in force from the next die tick (R126). -/
def State.writeLoopCfg (s : State) (r : Nat) (v : Word) : State :=
  let s := (s.updRegion r (fun x =>
    let x := x.keep 0x18 x.regs.loopCfg
    { x with regs := { x.regs with loopCfg := v &&& 0x03FF1F3F } })).soon r
  if bit v 31 then s.clearMargin r else s

/-- A write of CAL_CTL; the host's CAL_DONE waits for a sequencer that runs (R30). -/
def State.writeCalCtl (s : State) (p : Path) (r : Nat) (v : Word) : State :=
  let s := s.updRegion r (fun x => { x with cal := { x.cal with maxAge := fld v 16 16 } })
  if bit v 0 && !s.frozen p then s.writeCalDone r else s

/-- A write of LEDGER_CTL. -/
def State.writeLedgerCtl (s : State) (r : Nat) (v : Word) : State :=
  let s := s.updRegion r (fun x => { x with ledger := { x.ledger with ctl := v &&& 0x3F00 } })
  if bit v 0 then s.snapshotNext r causeSnap else s

/-- A register of a region's page but RACG_CMD is written (R126, R158). -/
def State.writePage (s : State) (p : Path) (r off : Nat) (v : Word) : State :=
  if 0x40 ≤ off ∧ off < 0x80 then s.writeCeil r ((off - 0x40) / 4) v
  else if 0x90 ≤ off ∧ off < 0xA0 then s.writeTrim r ((off - 0x90) / 4) v
  else match off with
  | 0x08 => s.updRegion r (fun x => { x with regs := { x.regs with event := s.w1c (regionPage r + off) x.regs.event v } })
  | 0x0C => s.updRegion r (fun x => { x with regs := { x.regs with eventEn := v &&& 0x3FFF } })
  | 0x18 => s.writeLoopCfg r v
  | 0x1C => s.updRegion r (fun x => { x with regs := { x.regs with acqCfg := v &&& 0xFFF } })
  | 0x20 => s.writePhaseCtl r v
  | 0x28 => s.writeMeasCtl r (fld v 0 14) (bit v 16)
  | 0x80 => s.writeDetMask r v
  | 0x84 => s.writeCalSel r v
  | 0x88 => s.writeThresh r v
  | 0xB0 => s.updRegion r (fun x => { x with droop := { x.droop with event := s.w1c (regionPage r + off) x.droop.event v } })
  | 0xB4 => s.updRegion r (fun x => { x with droop := { x.droop with eventEn := v &&& 0x1FF } })
  | 0xBC => s.writeCalCtl p r v
  | 0xC0 => s.writeProbe r (fld v 0 6) (bit v 8) (bit v 9)
  | 0xD0 => s.writeLedgerCtl r v
  | _ => s

/-- A write to a region's page: while the die tick is lost only STOP and CLOSE (R123); the host's SWAP
waits for a sequencer that runs (R30). -/
def State.writeRegion (s : State) (p : Path) (r off : Nat) (v : Word) : State :=
  if off = 0x04 then (if fld v 0 4 = 4 ∧ s.frozen p = true then s else s.racgCommand r (fld v 0 4) (fld v 8 4))
  else if (s.region r).racg.refLost then s
  else s.writePage p r off v

/-- A write to a coupler's page (R222, R224). DEDUCED, log entry 31. -/
def State.writeCpl (s : State) (p : Path) (i off : Nat) (v : Word) : State :=
  match off with
  | 0x00 => s.updCpl i (fun c => ({ c with sync3 := bit v 16 } : Coupler).syncFix)
  | 0x04 => if fld v 0 4 = 5 ∧ s.frozen p = true then s else s.cplCommand i (fld v 0 4) (bit v 4)
  | 0x0C => s.updCpl i (fun c => { c with event := s.w1c (cplPage i + 0x0C) c.event v })
  | 0x10 => s.updCpl i (fun c => { c with eventEn := v &&& 0xFF })
  | 0x1C =>
    let s := s.updCpl i (fun c => { c with limit := fld v 0 16 })
    if bit v 31 then s.clearStats i else s
  | _ => s

/-- A write to a measurement channel's page (R247); the time-base check of an ARM is a free value. -/
def State.writeChan (s : State) (c off : Nat) (v : Word) : State :=
  match off with
  | 0x00 => s.writeMeasCfg c 0 v
  | 0x04 => s.writeMeasCfg c 1 v
  | 0x08 => s.fresh.measCommand c (fld v 0 3) (Config.timeBase s.freeIdx)
  | 0x10 => s.updChan c (fun m => { m with event := s.w1c (chanPage c + 0x10) m.event v })
  | 0x14 => s.updChan c (fun m => { m with eventEn := v &&& 0x7FF })
  | 0x2C => s.writeMeasCfg c 2 v
  | _ => s

/-- A write to a queue's page (R279). -/
def State.writeQueue (s : State) (q off : Nat) (v : Word) : State :=
  match off with
  | 0x00 => s.writeQCfg q v
  | 0x04 => s.updQueue q (fun x => { x with maxCarts := fld v 0 13 })
  | 0x0C => s.updQueue q (fun x => { x with event := s.w1c (queuePage q + off) x.event v })
  | 0x10 => s.updQueue q (fun x => { x with eventEn := v &&& 0x1FF })
  | 0x14 => s.writeQCtl q v
  | 0x34 => s.writePoolCfg v
  | _ => s

/-- A word of data memory written; its error is gone (R341). -/
def State.dmWrite (s : State) (a : Nat) (v : Word) : State :=
  { s with seq := { s.seq with
    dmem := writeWord s.seq.dmem a v, eccBad := s.seq.eccBad.erase a, eccSoft := s.seq.eccSoft.erase a } }

/-- What a write that the path may make does, at any offset (R37; an undefined offset ignores it, R13). -/
def State.writeAt (s : State) (p : Path) (off : Nat) (v : Word) : State :=
  if off < 0x00100 then s.writeGlobal off v
  else if off < 0x01000 then s.writeCmd off v
  else if off < 0x02000 then s.writeRefBlock off v
  else if off < 0x03000 then s.writeDoors p off v
  else if off < 0x04000 then s.writeFc off v
  else if off < 0x05000 then s.writeHz p off v
  else if off < 0x08000 then s.writeGt off v
  else if off < 0x09000 then s.writeSeq off v
  else if off < 0x10000 then s
  else if off < 0x1D000 then s.writeRegion p ((off - 0x10000) / 0x100) (off % 0x100) v
  else if off < 0x20000 then s
  else if off < 0x27500 then s.writeCpl p ((off - 0x20000) / 0x20) (off % 0x20) v
  else if off < 0x30000 then s
  else if off < 0x31000 then s.writeChan ((off - 0x30000) / 0x40) (off % 0x40) v
  else if off < 0x38000 then s
  else if off < 0x39800 then s.writeQueue ((off - 0x38000) / 0x40) (off % 0x40) v
  else if off < 0x40000 then s
  else if off < 0x60000 then s.writeDebug (off - 0x40000) v
  else if off < 0x70000 then
    { s with seq := { s.seq with imem := mput 0 s.seq.imem ((off - 0x60000) / 4) v } }
  else if off < 0x78000 then s.dmWrite (off - 0x70000) v
  else if off < 0x90000 then s
  else if off < 0x91000 then s.writeLc p off v
  else if off < 0xA0000 then s
  else if off < 0xA1000 then s.writeSb off v
  else s

/-! ## Reads, block by block -/

/-- SPARE_USE (R44). DEDUCED, log entry 21. -/
def State.spareUse (s : State) : Word :=
  packW [(0, 8, s.regions.countP (fun e => e.2.racg.dcoSel)), (8, 7, s.laneSpares),
    (16, 5, s.coreSpares), (21, 2, b2n s.ref.spareSeg0.isSome + b2n s.ref.spareSeg1.isSome),
    (23, 1, b2n (s.ref.tickSrc == .rpb))]

/-- 0x00000. -/
def State.globalRead (s : State) (off : Nat) : Word :=
  match off with
  | 0x00 => 0x4B540100
  | 0x04 => s.ktcStatus
  | 0x08 => s.intStatus
  | 0x0C => s.glob.intEnable
  | 0x10 => s.spareUse
  | 0x14 => packW [(0, 16, s.glob.ignored), (16, 16, s.glob.lastOff)]
  | _ => 0

/-- REF_STATUS and ROOT_STATUS. -/
def State.refStatus (s : State) : Word :=
  let x := s.ref
  packW [(0, 2, x.refA.state.code), (2, 2, x.refB.state.code), (4, 1, refNum x.activeRef),
    (5, 1, b2n (x.eligible s.now)), (6, 1, b2n x.refbFitted), (7, 1, refNum x.watchRef),
    (8, 8, x.missOne)]
def RefRoot.rootStatus (x : RefRoot) : Word :=
  packW [(0, 3, x.rpa.state.code), (3, 1, refNum x.rpa.ref), (4, 3, x.rpb.state.code),
    (7, 1, refNum x.rpb.ref), (8, 1, b2n x.detPhase), (9, 1, b2n x.resync),
    (10, 1, b2n (x.tickSrc == .rpb))]

/-- SPINE_STATUS. -/
def RefRoot.spineStatus (x : RefRoot) : Word :=
  packW [(0, 5, x.spareSeg0.getD 0x1F), (5, 1, b2n x.spareFail0), (8, 5, x.spareSeg1.getD 0x1F),
    (13, 1, b2n x.spareFail1), (16, 16, x.ctlLost)]

/-- 0x01000. -/
def State.refRead (s : State) (off : Nat) : Word :=
  let x := s.ref
  match off with
  | 0x01000 => x.refCtl
  | 0x01004 => s.refStatus
  | 0x01008 => x.refEvent
  | 0x0100C => x.refEventEn
  | 0x01010 => x.watchLimits
  | 0x01014 => x.watchResult
  | 0x01018 => x.rootStatus
  | 0x01020 => packW [(0, 16, twos 16 x.phaseOfs), (16, 16, Config.rootPhaseCal.toNat)]
  | 0x01024 => packW [(0, 16, twos 16 x.residual), (16, 1, b2n (x.measured && decide (x.residual.natAbs ≤ 5)))]
  | 0x01028 => x.slewCtl
  | 0x0102C => packW [(0, 16, x.switchovers), (16, 16, x.holdovers)]
  | 0x01030 => BitVec.ofNat 32 (x.holdTime s.now)
  | 0x01038 => loWord s.tick
  | 0x0103C => hiWord s.tick
  | 0x01040 => x.spineStatus
  | 0x01044 => x.segFailed
  | _ => 0

/-- SLOT_STATUS. -/
def DoorSlot.statusWord (d : DoorSlot) : Word :=
  packW [(0, 3, d.state.code), (3, 1, b2n d.aborted), (4, 3, d.reason), (7, 1, b2n d.flagged),
    (16, 16, d.ackLast)]

/-- A register of a door slot. -/
def DoorSlot.read (d : DoorSlot) (off : Nat) : Word :=
  if off = 0x00 then packW [(0, 4, d.target), (10, 1, b2n d.resync)]
  else if off = 0x04 then d.statusWord
  else if off = 0x08 then loWord d.door
  else if off = 0x0C then hiWord d.door
  else if 0x10 ≤ off ∧ off < 0x2C then setWord d.set ((off - 0x10) / 4)
  else if 0x30 ≤ off ∧ off < 0x4C then setWord d.ack ((off - 0x30) / 4)
  else if 0x50 ≤ off ∧ off < 0x6C then setWord d.exc ((off - 0x50) / 4)
  else 0

/-- 0x02000. -/
def State.doorsRead (s : State) (off : Nat) : Word :=
  if off < 0x02080 then
    let g := (off - 0x02000) / 8
    if off % 8 = 0 then tget (gearReset g) s.doors.gearA g else tget 0 s.doors.gearB g
  else if 0x02090 ≤ off ∧ off < 0x020AC then s.thermWord ((off - 0x02090) / 4) (·.hot)
  else if 0x020B0 ≤ off ∧ off < 0x020CC then s.thermWord ((off - 0x020B0) / 4) (·.trip)
  else if 0x020F0 ≤ off ∧ off < 0x02100 then
    let n := (off - 0x020F0) / 4
    packW [(0, 16, s.railNeed n), (16, 16, s.confirmedMv n)]
  else if 0x02100 ≤ off ∧ off < 0x02300 then (s.slot ((off - 0x02100) / 0x80)).read (off % 0x80)
  else match off with
  | 0x02080 => s.doors.event
  | 0x02084 => s.doors.eventEn
  | 0x02088 => s.doors.thermLimit
  | 0x0208C => s.doors.cfg
  | _ => 0

/-- A register of an AVSBus request channel. -/
def AvsChan.read (a : AvsChan) (off : Nat) : Word :=
  match off with
  | 0x0 => packW [(0, 16, a.mv), (17, 1, b2n a.run.isSome), (18, 1, b2n a.queued.isSome)]
  | 0x4 => packW [(0, 16, a.lastMv), (16, 2, a.result), (18, 2, a.retries)]
  | 0x8 => a.limit
  | 0xC => a.cfg
  | _ => 0

/-- 0x03000. -/
def State.fcRead (s : State) (off : Nat) : Word :=
  let x := s.fc
  if 0x03030 ≤ off ∧ off < 0x0305C then
    let f := (off - 0x03030) / 4
    tget (fmtReset f) x.fmtTbl f
  else if 0x03060 ≤ off ∧ off < 0x030A0 then tget 10 x.stepMax ((off - 0x03060) / 4)
  else if 0x030A0 ≤ off ∧ off < 0x030B0 then
    let n := (off - 0x030A0) / 4
    let v := x.railSum n
    packW [(0, 11, v), (11, 3, x.band v), (14, 4, x.railTight n s.now)]
  else if 0x03100 ≤ off ∧ off < 0x03140 then (s.avs ((off - 0x03100) / 16)).read (off % 16)
  else match off with
  | 0x03000 => x.ctl
  | 0x03004 => packW [(0, 4, s.ldwarnPins), (4, 10, sumL (x.windows.map (fun e => e.2.length)))]
  | 0x03008 => x.event
  | 0x0300C => x.eventEn
  | 0x03010 => x.railMap
  | 0x03014 => x.warnCfg
  | 0x03018 => x.winCfg
  | 0x03020 => x.bandLim
  | 0x03024 => x.tightVal
  | 0x030B0 => packW [(0, 16, x.discards), (16, 16, x.stagSats)]
  | 0x030B4 => packW [(0, 16, x.badFmt), (16, 16, x.oversize)]
  | 0x030B8 => packW [(0, 16, x.evicts), (16, 16, x.accepted)]
  | 0x03140 => x.avsEvent
  | 0x03144 => x.avsEventEn
  | _ => 0

/-- The word at an aligned offset, without what its read changes; P blocks only while privileged windows
are open (R39). DEDUCED, log entry 49. -/
def State.readReg (s : State) (off : Nat) : Word :=
  if off < 0x00100 then s.globalRead off
  else if off < 0x01000 then s.cmdRead off
  else if off < 0x02000 then s.refRead off
  else if off < 0x03000 then s.doorsRead off
  else if off < 0x04000 then s.fcRead off
  else if off < 0x05000 then s.hzRead off
  else if off < 0x08000 then s.gtRead off
  else if off < 0x09000 then s.seqRead off
  else if off < 0x10000 then 0
  else if off < 0x1D000 then s.regionRead ((off - 0x10000) / 0x100) (off % 0x100)
  else if off < 0x20000 then 0
  else if off < 0x27500 then s.cplRead ((off - 0x20000) / 0x20) (off % 0x20)
  else if off < 0x30000 then 0
  else if off < 0x31000 then s.chanRead ((off - 0x30000) / 0x40) (off % 0x40)
  else if off < 0x38000 then 0
  else if off < 0x39800 then s.queueRead ((off - 0x38000) / 0x40) (off % 0x40)
  else if off < 0x40000 then 0
  else if off < 0x78000 then
    if s.privOpen then
      if off < 0x60000 then readWord s.pool.carts (off - 0x40000)
      else if off < 0x70000 then tget 0 s.seq.imem ((off - 0x60000) / 4)
      else readWord s.seq.dmem (off - 0x70000)
    else 0
  else if off < 0x80000 then 0
  else if off < 0x81000 then s.mbRead off
  else if off < 0x90000 then 0
  else if off < 0x91000 then s.lcRead off
  else if off < 0xA0000 then 0
  else if off < 0xA1000 then s.sbRead off
  else 0

/-! ## A path's write (R12, R37 to R43, R449) -/

/-- The LK bits of a register (R449). -/
def lkMask (off : Nat) : Word :=
  if 0x02000 ≤ off ∧ off < 0x02080 then 0xFFFFFFFF
  else if 0x03100 ≤ off ∧ off < 0x03140 then
    (if off % 16 = 0x8 then 0xFFFFFFFF else if off % 16 = 0xC then 0xF else 0)
  else if 0x38000 ≤ off ∧ off < 0x39800 then (if off % 0x40 = 0x34 then 0x0FFF0FFF else 0)
  else match off with
  | 0x01010 => 0x0FFFFFFF
  | 0x01028 => 0xF
  | 0x02088 => 0x03FF0000
  | 0x0208C => 3
  | 0x03010 => 0xFFFFFFFF
  | 0x0407C => 0xFF0
  | 0xA0014 => 1
  | _ => 0

/-- The host's seal comes before the LK writes of paths ordered later in its die tick, which are ignored (R43,
R452). -/
def State.sealFirst (s : State) (p : Path) : State :=
  if p = .host ∧ s.lc.sealed = false then
    s.log.wrote.foldl (fun s e =>
      if e.1 ≠ .host ∧ lkMask e.2.1 ≠ 0 then s.writeAt e.1 e.2.1 (rwBits (lkMask e.2.1) (s.readReg e.2.1) e.2.2)
      else s) s
  else s

/-- The host reaches into a block of class P in this die tick (R452). -/
def State.notePriv (s : State) (p : Path) (off : Nat) : State :=
  if p = .host ∧ writeClass off = .p then { s with log := { s.log with priv := true } } else s

/-- A write of a register by a path: misaligned it is ignored (R12, R430); RW bits that a path ordered later has
written in this die tick stand (R43). DESIGN CHOICE, log entry 29; DEDUCED, log entry 49. -/
def State.writeReg (s : State) (p : Path) (off : Nat) (v : Word) : State :=
  if off % 4 = 0 then
    (s.notePriv p off).gate p off (fun s =>
      let old := s.readReg off
      let s := if off = 0x90004 ∧ bit v 4 = true then s.sealFirst p else s
      (s.writeAt p off (s.ordered p off old v)).noteWrite p off old)
  else match p with
    | .smbus => s.smbRefuse off
    | .host => s
    | .seq => s

/-- SEAL (R449). -/
def execSeal (p : Path) (s : State) : Res := writeAct s p 0x90004 (fun s => (s.sealFirst p).setSeal)

/-! ## Reads with what they change -/

/-- The word a path reads: the value left by the writes ordered before it in this die tick (R43). -/
def State.pathWord (s : State) (p : Path) (off : Nat) : Word := (s.before p off).getD (s.readReg off)

/-- The low word of a 64-bit RO quantity (R18): carriage 0 of the last command, TICK, the last step, the
stamp's TICK, the ledger's quantities, the mailbox's, the carriages of its slots, LC_UID, LC_NONCE.
DEDUCED, log entry 14. -/
def pairLow (off : Nat) : Bool :=
  off == 0x00100 || off == 0x01038 || off == 0x04068 || off == 0x05040
    || (decide (0x10000 ≤ off) && decide (off < 0x1D000)
      && (off % 0x100 == 0xD8 || off % 0x100 == 0xE0 || off % 0x100 == 0xE8))
    || off == 0x80010 || off == 0x8001C || off == 0x80024
    || (decide (0x80100 ≤ off) && decide (off < 0x80900) && off % 8 == 0)
    || off == 0x90008 || off == 0x90010

/-- A read of a pair's low word latches its high word; MB_CAL_SEC_LO latches MB_CAL_FRAC too (R414).
DEDUCED, log entry 14. -/
def State.latchHigh (s : State) (off : Nat) : State :=
  let s := { s with glob := { s.glob with latches := tput s.glob.latches (off + 4) (s.readReg (off + 4)) } }
  if off = 0x80010 then { s with mb := { s.mb with fracLatch := some s.mb.calFrac } } else s

/-- A read of a pair's high word: the latched word once, else the present one. DEDUCED, log entry 14. -/
def State.takeLatch (s : State) (off : Nat) : State × Word :=
  match s.glob.latches.find? (fun e => e.1 == off) with
  | some (_, w) => ({ s with glob := { s.glob with latches := tdel s.glob.latches off } }, w)
  | none => (s, s.readReg off)

/-- The high word of the last carriage of a full slot is read (R412). -/
def State.slotReadMark (s : State) (off : Nat) : State :=
  let k := (off - 0x80100) / 0x40
  if 0x80100 ≤ off ∧ off < 0x80900 ∧ off % 0x40 + 4 = 8 * (s.mbSlot k).words.length then s.slotLastRead k
  else s

/-- A read of an aligned offset by the host or the sequencer: its word, and what it changes (R18, R239,
R264, R351, R412). A host read of RD_LO whose carriage has not arrived answers later. -/
def State.readAt (s : State) (p : Path) (off : Nat) : State × Word :=
  if 0x38000 ≤ off ∧ off < 0x39800 ∧ 0x18 ≤ off % 0x40 ∧ off % 0x40 < 0x24 then
    let q := (off - 0x38000) / 0x40
    if p = .seq then (s, 0)
    else match off % 0x40 with
      | 0x18 => s.readPop q
      | 0x1C => s.readLo q
      | _ => s.readHi q
  else if 0x30000 ≤ off ∧ off < 0x31000 ∧ off % 0x40 = 0x18 then
    let c := (off - 0x30000) / 0x40
    (s.headRead c, ((s.chan c).shown s.now).head)
  else if off = 0x80018 then
    ({ s with mb := { s.mb with fracLatch := none } }, s.readReg off)
  else if pairLow off then (s.latchHigh off, s.readReg off)
  else if 4 ≤ off ∧ pairLow (off - 4) = true then
    let (s, w) := s.takeLatch off
    (s.slotReadMark off, w)
  else (s, s.pathWord p off)

/-! ## The SMBus target (R429, R430) -/

/-- The offsets an SMBus read reaches. DEDUCED, log entry 47. -/
def smbReadable (off : Nat) : Bool :=
  decide (off < 0x20)
    || (decide (0x01000 ≤ off) && decide (off < 0x01048))
    || (decide (0x02080 ≤ off) && decide (off < 0x02100))
    || (decide (0x04000 ≤ off) && decide (off < 0x05000))
    || (decide (0x05000 ≤ off) && decide (off < 0x05100))
    || (decide (0x10000 ≤ off) && decide (off < 0x1D000))
    || (decide (0x80000 ≤ off) && decide (off < 0x81000))
    || (decide (0x90000 ≤ off) && decide (off < 0x9002C))
    || (decide (0xA0000 ≤ off) && decide (off < 0xA1000))

/-- A read by a path: misaligned, or by SMBus where the target does not reach, it returns 0 (R12, R430). -/
def State.readAccess (s : State) (p : Path) (off : Nat) : State × Word :=
  match p with
  | .smbus =>
    if off % 4 = 0 ∧ smbReadable off = true then s.readAt .smbus off else (s.smbRefuse off, 0)
  | .host => if off % 4 = 0 then (s.notePriv .host off).readAt .host off else (s, 0)
  | .seq => if off % 4 = 0 then s.readAt .seq off else (s, 0)

/-! ## Rows for registers without a row of their own -/

/-- REGISTER_WRITE (R12 to R14, R38 to R42): of `width` bits. DEDUCED, log entry 49. -/
def execRegisterWrite (p : Path) (off width : Nat) (v : Word) (s : State) : Res :=
  act s (width == 32) (fun s => s.writeReg p off v)

/-- READ_LOW_WORD_LATCH (R12, R18): a read of `width` bits at any offset; another width returns 0 with no side
effect. DEDUCED, log entry 14; DEDUCED, log entry 49. -/
def execReadLowWordLatch (p : Path) (off width : Nat) (s : State) : Res :=
  act s true (fun s => State.answer (if width = 32 then s.readAccess p off else (s, 0)))

/-- MAILBOX_SLOT_READ (R18, R412): the high word of the slot's last carriage, open to every path. -/
def execMailboxSlotRead (p : Path) (k : Nat) (s : State) : Res :=
  act s (decide (k < 32)) (fun s =>
    State.answer (match (s.mbSlot k).words.length with
      | 0 => (s, 0)
      | n + 1 => s.readAccess p (0x80100 + 0x40 * k + 8 * n + 4)))

/-- CLR_IGNORED (R44, R47). -/
def execClrIgnored (p : Path) (s : State) : Res :=
  writeAct s p 0x00018 (fun s => s.writeGlobal 0x00018 1)

end Sys2Proof.Machine
end

