-- ==== Sys2Proof/Machine/Lysio.lean ====
section
/-! DEFINITION. The Lysio sequencer (chapter 12): decoding of instruction words, issue, the meaning of
every instruction, posted and broadcast writes, the ends of waits. A row is the issue by task t of the
instruction at its program counter. -/

namespace Sys2Proof.Machine

open Sys2Proof

/-! ## Instruction words (R345) -/

/-- The fields of an instruction word. -/
structure Ins where
  op  : Nat
  d   : Nat
  a   : Nat
  b   : Nat
  x   : Nat
  imm : Nat
  tgt : Nat
  deriving DecidableEq, Repr

/-- The fields an opcode uses, as a mask of bits [25:0]; none for an undefined opcode. -/
def usedFields (op : Nat) : Option Nat :=
  let d := 0x03C00000
  let a := 0x003C0000
  let b := 0x0003C000
  let x := 0x00003FFF
  let imm := 0x0003FFFF
  if 0x01 ≤ op ∧ op ≤ 0x0B then some (d + a + b)
  else if 0x14 ≤ op ∧ op ≤ 0x16 then some (d + a + 0x1F)
  else if op = 0x17 ∨ op = 0x36 then some (d + imm)
  else if 0x10 ≤ op ∧ op ≤ 0x18 then some (d + a + imm)
  else if op = 0x22 then some (d + a + b)
  else if 0x20 ≤ op ∧ op ≤ 0x24 then some (d + a + imm)
  else if 0x28 ≤ op ∧ op ≤ 0x2D then some (a + b + x)
  else match op with
  | 0x2E => some (d + x)
  | 0x2F => some (d + a)
  | 0x30 => some d
  | 0x31 => some (d + a)
  | 0x32 => some (d + a + imm)
  | 0x33 => some (d + a + b + 0x3)
  | 0x34 => some (a + imm)
  | 0x35 => some a
  | 0x37 => some 0
  | 0x38 => some (d + a + b + 0xFF)
  | 0x39 => some (d + a + b + 0x7F)
  | 0x3A => some (d + 0x3)
  | 0x3B => some (d + a + 0xFF)
  | 0x3C => some (d + a + 0x7F)
  | 0x3D => some (d + a + b + 0x3)
  | 0x3E => some (d + 0x3)
  | _ => none

/-- The instruction of a word; none where the opcode is undefined or an unused field is not zero. -/
def decodeIns (w : Word) : Option Ins :=
  let op := fld w 26 6
  match usedFields op with
  | some m =>
    if w &&& BitVec.ofNat 32 (0x03FFFFFF - m) = 0 then
      some { op := op, d := fld w 22 4, a := fld w 18 4, b := fld w 14 4, x := fld w 0 14,
             imm := fld w 0 18, tgt := fld w 0 14 }
    else none
  | none => none

/-- IMM sign-extended and zero-extended, OFF sign-extended. -/
def Ins.simm (i : Ins) : Word := (BitVec.ofNat 18 i.imm).signExtend 32
def Ins.zimm (i : Ins) : Word := BitVec.ofNat 32 i.imm
def Ins.off (i : Ins) : Int := (BitVec.ofNat 14 i.x).toInt

/-! ## Registers and program counter (R339, R340) -/

/-- A general register; G0 reads as 0. -/
def Task.reg (k : Task) (n : Nat) : Word := if n = 0 then 0 else tget 0 k.g n

/-- A register pair named by an even register. -/
def Task.pair (k : Task) (n : Nat) : DWord := joinWords (k.reg n) (k.reg (n + 1))

/-- A pair written. -/
def Task.setPair (k : Task) (n : Nat) (v : DWord) : Task := (k.setG n (loWord v)).setG (n + 1) (hiWord v)

/-- The word a task would issue (R371): from the ROM unless an image runs. -/
def State.fetch (s : State) (t : Nat) : Word :=
  if s.seq.mode = .image then tget 0 s.seq.imem (s.task t).pc else Config.romWord (s.task t).pc

/-- The instruction a task would issue. -/
def State.insAt (s : State) (t : Nat) : Option Ins := decodeIns (s.fetch t)

/-! ## Issue (R335, R337, R342) -/

/-- An instruction that moves data of data memory, with the cycles of its move where they are fixed. -/
def Ins.moves (i : Ins) : Option (Option Nat) :=
  match i.op with
  | 0x20 => some (some 2)
  | 0x21 => some (some 1)
  | 0x22 => some (some 2)
  | 0x38 => some none
  | 0x39 => some none
  | 0x3B => some none
  | 0x3C => some none
  | _ => none

/-- The instruction must wait for the present move of data memory, or would run into it (R342). -/
def State.moveBlocks (s : State) (i : Ins) : Bool :=
  match i.moves with
  | none => false
  | some c => decide (s.now < s.seq.moveEnd) && (match c with
      | some n => decide (s.seq.moveFrom < s.now + 2 * n)
      | none => true)

/-- The task may issue in this die tick (R335, R337): its cycle count has elapsed, its ARMD and LDK have
landed, data memory is free for it. DEDUCED, log entry 33. -/
def State.mayIssue (s : State) (t : Nat) : Bool :=
  let k := s.task t
  k.state == .ready && decide (k.readyAt ≤ s.now) && k.stopDue != 1 && k.armd.isNone && k.ldk.isNone
    && (match s.insAt t with
      | some i => !s.moveBlocks i
      | none => true)

/-- The tasks in order, from the one after the last that issued (R337). -/
def State.issueOrder (s : State) : List Nat := (List.range 4).map (fun i => (s.seq.lastTask + 1 + i) % 4)

/-- Task `t` is the one that issues now: a cycle begins in this die tick, and nothing has issued in it. -/
def State.issues (s : State) (t : Nat) : Bool :=
  s.seq.mode != .notStarted && (s.now - s.seq.startAt) % 2 == 0 && s.seq.issuedAt != some s.now
    && s.issueOrder.find? s.mayIssue == some t

/-- After the issue: a stop that waited for this instruction (R370). DEDUCED, log entry 43. -/
def State.issued (s : State) (t : Nat) : State :=
  let k := s.task t
  if k.stopDue = 2 then
    match k.state with
    | .ready => s.setTask t { k with stopDue := 1 }
    | .waiting _ => (s.stopNow t).haltEdge s.halted
    | .stopped => s
    | .faulted => s
  else s

/-- A row that is the issue of opcode `op` by task `t`. DEDUCED, log entry 10. -/
def issue (s : State) (t op : Nat) (f : Ins → State → State) : Res :=
  actAt "task" 4 t s (s.issues t && (match s.insAt t with
      | some i => i.op == op
      | none => false)) (fun s =>
    match s.insAt t with
    | some i =>
      let s' := { s with seq := { s.seq with lastTask := t, issuedAt := some s.now } }
      (f i s').issued t
    | none => s)

/-- The instruction ends: the next one may issue after `cyc` cycles. -/
def State.after (s : State) (t cyc : Nat) : State :=
  s.updTask t (fun k => { k with pc := (k.pc + 1) % 16384, readyAt := s.now + 2 * cyc })

/-- The instruction ends with a result in register `d`. -/
def State.result (s : State) (t d cyc : Nat) (v : Word) : State :=
  (s.updTask t (fun k => k.setG d v)).after t cyc

/-- The instruction ends with a jump of 2 cycles. -/
def State.jump (s : State) (t : Nat) (pc : Int) : State :=
  s.updTask t (fun k => { k with pc := (pc % 16384).toNat, readyAt := s.now + 4 })

/-! ## Faults (R368, R369) -/

def causeIllegal : Nat := 1
def causeDmemRange : Nat := 2
def causeKtcRange : Nat := 3
def causeBadOperand : Nat := 4
def causeBadType : Nat := 5
def causeBadTarget : Nat := 6
def causeMemError : Nat := 7

/-- The instruction at the program counter faults: the task is FAULTED, the cause and the address are
recorded, line 63 is raised, and the coach is formed; nothing else happens. -/
def State.faultTask (s : State) (t cause : Nat) : State :=
  let was := s.halted
  let s := s.updTask t (fun k => { k with
    state := .faulted, faultPc := k.pc, cause := cause, faults := satAdd 0xFF k.faults 1, stopDue := 0 })
  let s := { s with seq := { s.seq with
    jobs := s.seq.jobs.filter (fun j => j.task != t),
    pushes := s.seq.pushes.filter (fun p => p.task != t),
    bring := if t = 0 then none else s.seq.bring } }
  ((s.raiseLine 63).raiseSeq 1 t).haltEdge was

/-! ## Computation and control flow (R346, R347) -/

/-- A format R computation. -/
def alu (s : State) (t op cyc : Nat) (f : Word → Word → Word) : Res :=
  issue s t op (fun i s =>
    let k := s.task t
    s.result t i.d cyc (f (k.reg i.a) (k.reg i.b)))

/-- A format I computation on IMM as a word. -/
def aluImm (s : State) (t op : Nat) (f : Word → Ins → Word) : Res :=
  issue s t op (fun i s => s.result t i.d 1 (f ((s.task t).reg i.a) i))

/-- A branch. -/
def branch (s : State) (t op : Nat) (f : Word → Word → Bool) : Res :=
  issue s t op (fun i s =>
    let k := s.task t
    if f (k.reg i.a) (k.reg i.b) then s.jump t (k.pc + i.off) else s.after t 1)

/-- 1 for true. -/
def flagWord (b : Bool) : Word := if b then 1 else 0

def execAdd (t : Nat) (s : State) : Res := alu s t 0x01 1 (fun a b => a + b)
def execSub (t : Nat) (s : State) : Res := alu s t 0x02 1 (fun a b => a - b)
def execAnd (t : Nat) (s : State) : Res := alu s t 0x03 1 (fun a b => a &&& b)
def execOr (t : Nat) (s : State) : Res := alu s t 0x04 1 (fun a b => a ||| b)
def execXor (t : Nat) (s : State) : Res := alu s t 0x05 1 (fun a b => a ^^^ b)
def execShl (t : Nat) (s : State) : Res := alu s t 0x06 1 (fun a b => a <<< fld b 0 5)
def execShr (t : Nat) (s : State) : Res := alu s t 0x07 1 (fun a b => a >>> fld b 0 5)
def execSra (t : Nat) (s : State) : Res := alu s t 0x08 1 (fun a b => a.sshiftRight (fld b 0 5))
def execMul (t : Nat) (s : State) : Res := alu s t 0x09 2 (fun a b => a * b)
def execSlt (t : Nat) (s : State) : Res := alu s t 0x0A 1 (fun a b => flagWord (a.slt b))
def execSltu (t : Nat) (s : State) : Res := alu s t 0x0B 1 (fun a b => flagWord (a.ult b))
def execAddi (t : Nat) (s : State) : Res := aluImm s t 0x10 (fun a i => a + i.simm)
def execAndi (t : Nat) (s : State) : Res := aluImm s t 0x11 (fun a i => a &&& i.zimm)
def execOri (t : Nat) (s : State) : Res := aluImm s t 0x12 (fun a i => a ||| i.zimm)
def execXori (t : Nat) (s : State) : Res := aluImm s t 0x13 (fun a i => a ^^^ i.zimm)
def execShli (t : Nat) (s : State) : Res := aluImm s t 0x14 (fun a i => a <<< (i.imm % 32))
def execShri (t : Nat) (s : State) : Res := aluImm s t 0x15 (fun a i => a >>> (i.imm % 32))
def execSrai (t : Nat) (s : State) : Res := aluImm s t 0x16 (fun a i => a.sshiftRight (i.imm % 32))
def execLui (t : Nat) (s : State) : Res := aluImm s t 0x17 (fun _ i => i.zimm <<< 14)
def execSlti (t : Nat) (s : State) : Res := aluImm s t 0x18 (fun a i => flagWord (a.slt i.simm))
def execBeq (t : Nat) (s : State) : Res := branch s t 0x28 (fun a b => a == b)
def execBne (t : Nat) (s : State) : Res := branch s t 0x29 (fun a b => a != b)
def execBlt (t : Nat) (s : State) : Res := branch s t 0x2A (fun a b => a.slt b)
def execBge (t : Nat) (s : State) : Res := branch s t 0x2B (fun a b => !a.slt b)
def execBltu (t : Nat) (s : State) : Res := branch s t 0x2C (fun a b => a.ult b)
def execBgeu (t : Nat) (s : State) : Res := branch s t 0x2D (fun a b => !a.ult b)

/-- The address of the next instruction, as a word. -/
def Task.link (k : Task) : Word := BitVec.ofNat 32 ((k.pc + 1) % 16384)

/-- JAL (R346). -/
def execJal (t : Nat) (s : State) : Res :=
  issue s t 0x2E (fun i s =>
    let link := (s.task t).link
    (s.updTask t (fun k => k.setG i.d link)).jump t i.tgt)

/-- JALR (R346). -/
def execJalr (t : Nat) (s : State) : Res :=
  issue s t 0x2F (fun i s =>
    let k := s.task t
    let to_ := (k.reg i.a).toNat
    if 16383 < to_ then s.faultTask t causeBadTarget
    else (s.updTask t (fun k => k.setG i.d k.link)).jump t to_)

/-- RDS (R347). -/
def execRds (t : Nat) (s : State) : Res :=
  issue s t 0x36 (fun i s =>
    match i.imm with
    | 0 => s.result t i.d 1 (BitVec.ofNat 32 t)
    | 1 => s.result t i.d 1 (loWord s.lineFlags)
    | 2 => s.result t i.d 1 (hiWord s.lineFlags)
    | 3 => s.result t i.d 1 (BitVec.ofNat 32 ((s.now - s.seq.startAt) / 2))
    | 4 => s.result t i.d 1 (BitVec.ofNat 32 (0x158 + t))
    | _ => s.faultTask t causeBadOperand)

/-! ## Data memory (R340 to R342, R348, R371) -/

/-- An address reaches the ROM program's scratch memory: from 28,672 up while SEQ_ROM is 1. -/
def State.inScratch (s : State) (a : Nat) : Bool := s.seqRom && decide (28672 ≤ a)

/-- The data word at an address. -/
def State.dmRead (s : State) (a : Nat) : Word :=
  if s.inScratch a then readWord s.seq.scratch (a - 28672) else readWord s.seq.dmem a

/-- A data word written. -/
def State.dmPut (s : State) (a : Nat) (v : Word) : State :=
  if s.inScratch a then
    { s with seq := { s.seq with scratch := writeWord s.seq.scratch (a - 28672) v } }
  else s.dmWrite a v

/-- A word has an error that cannot be corrected. DESIGN CHOICE, log entry 50. -/
def State.dmBad (s : State) (a : Nat) : Bool := !s.inScratch a && s.seq.eccBad.contains a

/-- A read corrects a single-bit error of its word, counts it and sets ECC_FIXED (R341, R380).
DESIGN CHOICE, log entry 50. -/
def State.wordFix (s : State) (t a : Nat) : State :=
  if s.seq.eccSoft.contains a then
    ({ s with seq := { s.seq with
      eccSoft := s.seq.eccSoft.erase a, eccFixed := satAdd 0xFFFF s.seq.eccFixed 1 } } : State).raiseSeq
      0x10 t
  else s
def State.dmFix (s : State) (t a : Nat) : State := if s.inScratch a then s else s.wordFix t a

/-- Several words read: do they hold an uncorrectable error; the corrections their reads make. -/
def wordsAt (a n : Nat) : List Nat := (List.range n).map (fun i => a + 4 * i)
def State.dmAnyBad (s : State) (l : List Nat) : Bool := l.any s.dmBad
def State.dmFixAll (s : State) (t : Nat) (l : List Nat) : State := l.foldl (fun s a => s.dmFix t a) s

/-- Data memory is taken for `cyc` cycles, the first `skip` of them excepted (R342). -/
def State.hold (s : State) (cyc skip : Nat) : State :=
  if s.now + 2 * cyc ≤ s.seq.moveFrom then s
  else { s with seq := { s.seq with moveFrom := s.now + 2 * skip, moveEnd := s.now + 2 * cyc } }

/-- The effective address of a format I instruction. -/
def State.ea (s : State) (t : Nat) (i : Ins) : Nat := ((s.task t).reg i.a + i.simm).toNat

/-- A word address of data memory. -/
def wordAddr (a : Nat) : Bool := decide (a ≤ 32764) && a % 4 == 0

/-- LD (R348). -/
def execLd (t : Nat) (s : State) : Res :=
  issue s t 0x20 (fun i s =>
    let a := s.ea t i
    if wordAddr a = false then s.faultTask t causeDmemRange
    else if s.dmBad a then s.faultTask t causeMemError
    else (((s.dmFix t a).hold 2 0).result t i.d 2 (s.dmRead a)))

/-- ST (R348). -/
def execSt (t : Nat) (s : State) : Res :=
  issue s t 0x21 (fun i s =>
    let a := s.ea t i
    if wordAddr a = false then s.faultTask t causeDmemRange
    else ((s.dmPut a ((s.task t).reg i.d)).hold 1 0).after t 1)

/-- XCHG (R348). -/
def execXchg (t : Nat) (s : State) : Res :=
  issue s t 0x22 (fun i s =>
    let k := s.task t
    let a := (k.reg i.a).toNat
    if wordAddr a = false then s.faultTask t causeDmemRange
    else if s.dmBad a then s.faultTask t causeMemError
    else ((((s.dmFix t a).dmPut a (k.reg i.b)).hold 2 0).result t i.d 2 (s.dmRead a)))

/-! ## KTC registers (R349 to R353) -/

/-- A region or coupler page, which an access takes up to 8 tk to reach. DEDUCED, log entry 33. -/
def farPage (off : Nat) : Bool :=
  (decide (0x10000 ≤ off) && decide (off < 0x1D000)) || (decide (0x20000 ≤ off) && decide (off < 0x27500))

/-- An offset that LDK and STK take (R350). -/
def ktcOffset (a : Nat) : Bool :=
  a % 4 == 0 && decide (a ≤ 0xFFFFC) && !(decide (0x60000 ≤ a) && decide (a < 0x78000))

/-- The die tick in which an access issued now takes effect: after every earlier one to the offset. -/
def State.accessDue (s : State) (off : Nat) : Nat :=
  let own := s.now + (if farPage off then 1 + Config.pageLag s.freeIdx % 8 else 2)
  let l := (s.seq.posted.filter (fun p => p.off == off)).map (·.due)
    ++ ([0, 1, 2, 3].filterMap (fun t => (s.task t).ldk)).filterMap
      (fun k => if k.off = off then some k.due else none)
  max own (maxL l)

/-- LDK (R349 to R352): the access is made at its die tick, by the sequencer's part of it.
DEDUCED, log entry 33. -/
def execLdk (t : Nat) (s : State) : Res :=
  issue s t 0x23 (fun i s =>
    let a := s.ea t i
    if ktcOffset a = false then s.faultTask t causeKtcRange
    else
      let op : LdkOp := { d := i.d, off := a, at_ := s.now, due := s.accessDue a }
      (s.fresh.updTask t (fun k => { k with ldk := some op })).after t (if farPage a then 8 else 3))

/-- STK (R349, R350): posted. DEDUCED, log entry 33. -/
def execStk (t : Nat) (s : State) : Res :=
  issue s t 0x24 (fun i s =>
    let a := s.ea t i
    if ktcOffset a = false then s.faultTask t causeKtcRange
    else
      let p : Posted := { off := a, v := (s.task t).reg i.d, at_ := s.now, due := s.accessDue a }
      ({ s.fresh with seq := { s.fresh.seq with posted := s.seq.posted ++ [p] } } : State).after t 1)

/-- A posted write takes effect. -/
def State.land (s : State) (p : Posted) : State :=
  ({ s with seq := { s.seq with posted := s.seq.posted.erase p } } : State).writeReg .seq p.off p.v

/-- An ARMD that issued before an access to its slot's page, 16 tk before it lands, is still to land in this die
tick (R370). -/
def State.armdFirst (s : State) (p : Posted) : Bool :=
  [0, 1, 2, 3].any (fun t => match (s.task t).armd with
    | some m => decide (slotPage m.slot ≤ p.off) && decide (p.off < slotPage m.slot + 0x80)
        && decide (m.due ≤ s.now) && decide (m.due < p.at_ + 16)
    | none => false)

/-- No earlier access to the register waits (R352, R370). -/
def State.firstAt (s : State) (p : Posted) : Bool :=
  !s.armdFirst p &&
  s.seq.posted.all (fun q => q.off != p.off || decide (p.at_ ≤ q.at_))
    && [0, 1, 2, 3].all (fun t => match (s.task t).ldk with
      | some k => k.off != p.off || decide (p.at_ ≤ k.at_)
      | none => true)

/-- POSTED_WRITE (R349, R352): the n-th posted write. DEDUCED, log entry 33. -/
def execPostedWrite (n : Nat) (s : State) : Res :=
  match s.seq.posted[n]? with
  | some p => act s (decide (p.due ≤ s.now) && s.firstAt p) (fun s => s.land p)
  | none => .next s

/-- An LDK whose die tick ends is made, after the earlier writes to its register (R351, R352).
DEDUCED, log entry 33. -/
def State.ldkDue (s : State) (t : Nat) : State :=
  match (s.task t).ldk with
  | some k =>
    if k.due ≤ s.now then
      let s := (s.seq.posted.filter (fun p => p.off == k.off && decide (p.at_ < k.at_))).foldl State.land s
      let (s, w) := s.readAccess .seq k.off
      s.updTask t (fun x => { x.setG k.d w with ldk := none })
    else s
  | none => s

/-! ## Waits (R354 to R358) -/

/-- TICK's value is read into a pair. -/
def execRdt (t : Nat) (s : State) : Res :=
  issue s t 0x30 (fun i s =>
    if i.d % 2 = 1 then s.faultTask t causeBadOperand
    else (s.updTask t (fun k => k.setPair i.d s.tick)).after t 1)

/-- A wait begins: the task is WAITING from this issue. -/
def State.wait (s : State) (t : Nat) (w : Wait) : State :=
  s.updTask t (fun k => { k with
    state := .waiting w, pc := (k.pc + 1) % 16384, readyAt := s.now, stepped := false })

/-- A timed wait for a target: at or past it, code 1. -/
def State.timedWait (s : State) (t d target : Nat) : State :=
  if target ≤ s.tk then s.result t d 1 1 else s.wait t (.timed target d)

/-- WAITT (R354, R356). -/
def execWaitt (t : Nat) (s : State) : Res :=
  issue s t 0x31 (fun i s =>
    if i.a % 2 = 1 then s.faultTask t causeBadOperand
    else s.timedWait t i.d ((s.task t).pair i.a).toNat)

/-- WAITR (R354, R356): a 64-bit target. DEDUCED, log entry 43. -/
def execWaitr (t : Nat) (s : State) : Res :=
  issue s t 0x32 (fun i s =>
    s.timedWait t i.d ((s.tk + ((s.task t).reg i.a).toNat + i.imm) % 2 ^ 64))

/-- TIMED_WAIT_END (R355 to R357). -/
def execTimedWaitEnd (t : Nat) (s : State) : Res :=
  match (s.task t).state with
  | .waiting (.timed target d) =>
    actAt "task" 4 t s (decide ((s.task t).readyAt < s.now)
        && ((s.task t).stepped || decide (target ≤ s.tk))) (fun s =>
      s.updTask t (fun k => { k.setG d (if k.stepped then 2 else 0) with
        state := .ready, readyAt := s.now, wokeAt := some s.now, stepped := false,
        stopDue := if k.stopDue = 3 then 2 else k.stopDue }))
  | _ => actAt "task" 4 t s false id

/-- The lowest line of a set of flags. -/
def lowestLine (f : DWord) : Option Nat := (List.range 64).find? (fun n => bit f n)

/-- The flag of a line is cleared; a level line's stays with its source (R344). -/
def State.clearFlags (s : State) (m : DWord) : State :=
  { s with seq := { s.seq with flags := s.seq.flags &&& ~~~m } }

/-- A WAITE consumes its line (R358): the others that end in this die tick still see it. -/
def State.eatLine (s : State) (n : Nat) : State :=
  let m : DWord := BitVec.ofNat 64 (2 ^ n)
  let s := s.clearFlags m
  { s with seq := { s.seq with
    eaten := (if s.seq.eatenAt = s.now then s.seq.eaten else 0) ||| m, eatenAt := s.now } }

/-- Lines consumed in this die tick. -/
def State.eatenNow (s : State) : DWord := if s.seq.eatenAt = s.now then s.seq.eaten else 0

/-- A deadline is reached. -/
def State.pastDeadline (s : State) (dl : Option Nat) : Bool :=
  match dl with
  | some v => decide (v ≤ s.tk)
  | none => false

/-- WAITE (R354, R358): met at issue also by a line that another task's WAITE consumes in this die tick. -/
def execWaite (t : Nat) (s : State) : Res :=
  issue s t 0x33 (fun i s =>
    let k := s.task t
    let clr := i.x % 2 == 1
    let dl := i.x / 2 % 2 == 1
    if i.a % 2 = 1 ∨ (dl = true ∧ i.b % 2 = 1) ∨ (k.pair i.a = 0 ∧ dl = false) then
      s.faultTask t causeBadOperand
    else
      let mask := k.pair i.a
      let deadline := if dl then some (k.pair i.b).toNat else none
      match lowestLine ((s.lineFlags ||| s.eatenNow) &&& mask) with
      | some n => (if clr then s.eatLine n else s).result t i.d 1 (BitVec.ofNat 32 n)
      | none =>
        if s.pastDeadline deadline then s.result t i.d 1 64
        else s.wait t (.event mask deadline clr i.d))

/-- EVENT_WAIT_END (R355, R358, R370). DEDUCED, log entry 43. -/
def execEventWaitEnd (t : Nat) (s : State) : Res :=
  match (s.task t).state with
  | .waiting (.event mask dl clr d) =>
    let hit := lowestLine ((s.lineFlags ||| s.eatenNow) &&& mask)
    actAt "task" 4 t s (decide ((s.task t).readyAt < s.now) && (hit.isSome || s.pastDeadline dl)) (fun s =>
      match hit with
      | some n => (if clr then s.eatLine n else s).endWait t d (BitVec.ofNat 32 n)
      | none => s.endWait t d 64)
  | _ => actAt "task" 4 t s false id

/-- SETEV (R354). -/
def execSetev (t : Nat) (s : State) : Res :=
  issue s t 0x34 (fun i s =>
    let n := s.ea t i
    if 47 < n then s.faultTask t causeBadOperand else (s.raiseLine n).after t 1)

/-- CLREV (R354, R370): a line raised in this die tick ends set. DEDUCED, log entry 43. -/
def execClrev (t : Nat) (s : State) : Res :=
  issue s t 0x35 (fun i s =>
    if i.a % 2 = 1 then s.faultTask t causeBadOperand
    else
      let fresh := if s.seq.raisedAt = s.now then s.seq.raised else 0
      (s.clearFlags ((s.task t).pair i.a &&& ~~~fresh)).after t 1)

/-- DWAIT (R354). -/
def execDwait (t : Nat) (s : State) : Res :=
  issue s t 0x3A (fun i s =>
    let st := (s.slot (i.imm % 4)).state
    if st.busy then s.wait t (.door (i.imm % 4) i.d) else s.result t i.d 1 (BitVec.ofNat 32 st.code))

/-- DOOR_WAIT_END (R354, R355). -/
def execDoorWaitEnd (t : Nat) (s : State) : Res :=
  match (s.task t).state with
  | .waiting (.door k d) =>
    actAt "task" 4 t s (decide ((s.task t).readyAt < s.now) && !(s.slot k).state.busy) (fun s =>
      s.endWait t d (BitVec.ofNat 32 (s.slot k).state.code))
  | _ => actAt "task" 4 t s false id

/-! ## Broadcasts and doors (R359 to R361) -/

/-- The address of a set of 7 words. -/
def setAddr (a : Nat) : Bool := decide (a ≤ 32740) && a % 4 == 0

/-- The set at an address of data memory, which BCAST and ARMD read in ROM mode too (R371); bits for IDs 208 to 223
are ignored. -/
def State.readSet (s : State) (a : Nat) : RegionSet :=
  (List.range 7).foldl (fun x w => setPutWord x w (readWord s.seq.dmem (a + 4 * w))) 0

/-- A word of the set has an error that cannot be corrected. DESIGN CHOICE, log entry 50. -/
def State.setBad (s : State) (a : Nat) : Bool := (wordsAt a 7).any (fun a => s.seq.eccBad.contains a)

/-- The corrections that reading the set makes. DESIGN CHOICE, log entry 50. -/
def State.setFix (s : State) (t a : Nat) : State := (wordsAt a 7).foldl (fun s a => s.wordFix t a) s

/-- BCAST (R359, R360): the message goes out after the seventh cycle. DESIGN CHOICE, log entry 32. -/
def execBcast (t : Nat) (s : State) : Res :=
  issue s t 0x38 (fun i s =>
    let k := s.task t
    let a := (k.reg i.a).toNat
    if setAddr a = false then s.faultTask t causeDmemRange
    else if i.x % 4 ≠ 0 then s.faultTask t causeBadOperand
    else if s.setBad a then s.faultTask t causeMemError
    else
      let set := s.readSet a
      let m : Bcast := { set := set, off := i.x, v := k.reg i.b, sent := s.now + 14 }
      let s := s.setFix t a
      let s := if set = 0 then s
        else { s with seq := { s.seq with bcasts := s.seq.bcasts ++ [m] } }
      (s.hold 7 0).result t i.d 8 (BitVec.ofNat 32 (setList set).length))

/-- BCAST_MESSAGE (R79, R360): the n-th message at the tap of region `r`, or cut there by a swap.
DESIGN CHOICE, log entry 32. -/
def execBcastMessage (n r : Nat) (cut : Bool) (s : State) : Res :=
  match s.seq.bcasts[n]? with
  | some m =>
    act s (decide (m.sent + 1 ≤ s.now) && decide (r < 208) && m.set.getLsbD r) (fun s =>
      let left := m.set &&& ~~~(setOne r)
      let l := if left = 0 then s.seq.bcasts.eraseIdx n
        else s.seq.bcasts.set n { m with set := left }
      let s := { s with seq := { s.seq with bcasts := l } }
      if cut then { s with ref := { s.ref with ctlLost := satAdd 0xFFFF s.ref.ctlLost 1 } }
      else s.writeReg .seq (regionPage r + m.off) m.v)
  | none => .next s

/-- ARMD (R359, R361): its fields and GO land 16 tk after issue. DEDUCED, log entry 43. -/
def execArmd (t : Nat) (s : State) : Res :=
  issue s t 0x39 (fun i s =>
    let k := s.task t
    let a := (k.reg i.a).toNat
    if setAddr a = false then s.faultTask t causeDmemRange
    else if i.b % 2 = 1 then s.faultTask t causeBadOperand
    else if s.setBad a then s.faultTask t causeMemError
    else
      let m : ArmdOp := {
        slot := i.x / 16 % 4, target := i.x % 16, resync := i.x / 64 % 2 == 1, door := k.pair i.b,
        set := s.readSet a, d := i.d, due := s.now + 16 }
      let s := s.setFix t a
      ((s.hold 7 0).updTask t (fun k => { k with armd := some m })).after t 10)

/-- The writes of the slot's page that issued before an ARMD have taken effect (R352, R370). -/
def State.armdTurn (s : State) (m : ArmdOp) : Bool :=
  s.seq.posted.all (fun p => !(decide (slotPage m.slot ≤ p.off) && decide (p.off < slotPage m.slot + 0x80)
    && decide (p.due ≤ s.now) && decide (p.at_ + 16 < m.due)))

/-- ARMD_LAND (R361, R370): a busy slot keeps its fields and refuses. DEDUCED, log entry 43. -/
def execArmdLand (t : Nat) (s : State) : Res :=
  match (s.task t).armd with
  | some m =>
    actAt "task" 4 t s (decide (m.due ≤ s.now) && s.armdTurn m) (fun s =>
      let s := if (s.slot m.slot).state.busy then s
        else s.updSlot m.slot (fun d => { d with
          set := m.set, door := m.door, target := m.target, resync := m.resync })
      let why := s.goOutcome m.slot
      (s.slotGoNow m.slot).updTask t (fun k => { k.setG m.d (BitVec.ofNat 32 why) with armd := none }))
  | none => actAt "task" 4 t s false id

/-! ## Coaches (R362 to R365) -/

/-- A type that a program may push (R363). -/
def pushType (typ : Nat) : Bool := typ == 0xB3 || typ == 0xC1 || (decide (0xE0 ≤ typ) && decide (typ ≤ 0xEF))

/-- The carriages at a data address. -/
def State.readCoach (s : State) (a n : Nat) : List DWord :=
  (List.range n).map (fun i => joinWords (s.dmRead (a + 8 * i)) (s.dmRead (a + 8 * i + 4)))

/-- A header with the source of a task. -/
def withSource (h : DWord) (src : Nat) : DWord := (h &&& 0xFFF000FFFFFFFFFF) ||| packD [(40, 12, src)]

/-- A header with TICK bits [39:0]. -/
def withTick (h tick : DWord) : DWord := (h &&& 0xFFFFFF0000000000) ||| (tick &&& 0xFFFFFFFFFF)

/-- The first carriage of a coach changed. -/
def onHeader (f : DWord → DWord) : List DWord → List DWord
  | h :: rest => f h :: rest
  | [] => []

/-- PUSH (R362 to R364): one carriage a cycle, then the wait for grant; a queue that refuses at issue is
kept as queue 0. DEDUCED, log entry 43. -/
def execPush (t : Nat) (s : State) : Res :=
  issue s t 0x3B (fun i s =>
    let a := ((s.task t).reg i.a).toNat
    if a % 8 ≠ 0 ∨ 32760 < a then s.faultTask t causeDmemRange
    else if s.dmAnyBad [a, a + 4] then s.faultTask t causeMemError
    else
      let h := joinWords (s.dmRead a) (s.dmRead (a + 4))
      let len := fld h 52 4
      if len < 1 ∨ 8 < len ∨ pushType (fld h 56 8) = false then s.faultTask t causeBadType
      else if 32768 < a + 8 * len then s.faultTask t causeDmemRange
      else if s.dmAnyBad (wordsAt a (2 * len)) then s.faultTask t causeMemError
      else
        let q := i.x % 128
        let words := onHeader (fun h => withSource h (0x158 + t)) (s.readCoach a len)
        let ok := decide (q ≠ 0) && decide (q ≤ 95) && s.qEnabled q
        let s := (s.dmFixAll t (wordsAt a (2 * len))).hold len 0
        s.wait t (.push (if ok then q else 0) i.d words (i.x / 128 % 2 == 1) (s.now + 2 * len)))

/-- The copy of a PUSH ends with this die tick: its header takes TICK, unless KEEP_TICK (R363). -/
def State.copyEnds (s : State) (t : Nat) : State :=
  match (s.task t).state with
  | .waiting (.push q d words false ready) =>
    if s.now + 1 = ready then
      s.updTask t (fun k => { k with
        state := .waiting (.push q d (onHeader (fun h => withTick h s.tick) words) false ready) })
    else s
  | _ => s

/-- PUSH_GRANT (R258, R364): the push is granted where its turn has come, or refused. -/
def execPushGrant (t : Nat) (s : State) : Res :=
  match (s.task t).state with
  | .waiting (.push q d _ _ ready) =>
    actAt "task" 4 t s (decide (ready ≤ s.now)) (fun s =>
      if q = 0 ∨ s.qEnabled q = false then s.endWait t d 1
      else match s.nextGrant with
        | (s', some (src, q', words)) =>
          if src = 0x158 + t ∧ s'.isPushSrc src = true then (s'.grant src q' words).endWait t d 0 else s
        | (s', none) => s')
  | _ => actAt "task" 4 t s false id

/-- How many tk a POP waits for carriages: carriage i is written in cycle 2 + i, or when it has arrived
(R365). -/
def popDelay (now grantAt n : Nat) : Nat :=
  (List.range n).foldl (fun d i => d + (grantAt + i - (now + 2 * (2 + i) + d))) 0

/-- POP (R362, R365): the coach, or the idle coach, is written from the third cycle on.
DEDUCED, log entry 43. -/
def execPop (t : Nat) (s : State) : Res :=
  issue s t 0x3C (fun i s =>
    let a := ((s.task t).reg i.a).toNat
    let q := i.x % 128
    if a % 8 ≠ 0 ∨ 32704 < a then s.faultTask t causeDmemRange
    else if 95 < q then s.faultTask t causeBadOperand
    else
      let tick := s.tick
      let (s, c) := s.pop q true
      let (words, delay) := match c with
        | some c => (c.words, popDelay s.now c.grantAt c.words.length)
        | none => (idleCoach q tick, 0)
      let cyc := 2 + words.length + ceilDiv delay 2
      let s := { s with seq := { s.seq with popMove := some (s.now + 4, a, words) } }
      let s := match c with
        | some c => if bit (s.queue q).cfg 1 then s
          else { s with pool := { s.pool with leaving := (q, c.carts, s.now + 2 * cyc) :: s.pool.leaving } }
        | none => s
      (s.hold cyc 2).result t i.d cyc (hiWord (words.headD 0)))

/-- The carriages of a POP are written when its move begins. -/
def State.popWrites (s : State) : State :=
  match s.seq.popMove with
  | some (at_, a, words) =>
    if at_ ≤ s.now then
      let s := { s with seq := { s.seq with popMove := none } }
      (words.zipIdx).foldl (fun s e =>
        (s.dmPut (a + 8 * e.2) (loWord e.1)).dmPut (a + 8 * e.2 + 4) (hiWord e.1)) s
    else s
  | none => s

/-! ## Task control (R366, R367) -/

/-- TSTART (R366, R367). -/
def execTstart (t : Nat) (s : State) : Res :=
  issue s t 0x3D (fun i s =>
    let k := s.task t
    let n := i.x % 4
    let pc := (k.reg i.a).toNat
    if 16383 < pc then s.faultTask t causeBadTarget
    else if n = t ∨ (s.task n).state.isIdle = false then s.result t i.d 2 1
    else (s.startTask n pc (startRegs (k.reg i.b))).result t i.d 2 0)

/-- HALT by a task. -/
def State.haltTask (s : State) (t : Nat) : State :=
  ((s.after t 1).stopNow t).haltEdge s.halted

/-- TSTOP (R366, R367): of itself it acts as HALT. DEDUCED, log entry 43. -/
def execTstop (t : Nat) (s : State) : Res :=
  issue s t 0x3E (fun i s =>
    let n := i.imm % 4
    if n = t then s.haltTask t
    else
      let (s', ran) := s.stopTask n
      (s'.result t i.d 2 (if ran then 0 else 1)))

/-- HALT (R366). -/
def execHalt (t : Nat) (s : State) : Res := issue s t 0x37 (fun _ s => s.haltTask t)

/-- ILLEGAL_INSTRUCTION (R345, R368): an undefined opcode, or an unused field that is not zero. -/
def execIllegalInstruction (t : Nat) (s : State) : Res :=
  actAt "task" 4 t s (s.issues t && (s.insAt t).isNone) (fun s =>
    ({ s with seq := { s.seq with lastTask := t, issuedAt := some s.now } } : State).faultTask t
      causeIllegal)

/-- What the sequencer, its loader and the command port do as a die tick ends: LDK accesses, ends of copies, waits
that a TSTOP abandons, what R387 puts after other events of the tick. DEDUCED, log entry 33. -/
def State.seqTickEnd (s : State) : State :=
  let s := [0, 1, 2, 3].foldl State.ldkDue s
  ([0, 1, 2, 3].foldl State.copyEnds s).stopsEnd.restartsAgain.loadEnds.submitAgain

/-- What they do as a die tick begins: a POP writes, the loader takes a word, broadcasts that have reached or lost
every tap are done, stops take effect, a load begins, the bring-up goes on. -/
def State.seqTick (s : State) : State :=
  let s := s.popWrites
  let s := { s with seq := { s.seq with
    port := s.seq.port - 1, bcasts := s.seq.bcasts.filter (fun m => m.set != 0) } }
  s.stopsDue.loadStep.bringTick

end Sys2Proof.Machine
end

