-- ==== Sys2Proof/Machine/Commands.lean ====
section
/-! DEFINITION. The host commands (R383 to R386): a task takes the head of queue 0, judges it, carries it
out and pushes its completion to queue 1. -/

namespace Sys2Proof.Machine

open Sys2Proof

/-! ## The fields of a command (R383, R386) -/

def cmdWord (w : List DWord) (i : Nat) : DWord := w.getD i 0
def cmdCode (w : List DWord) : Nat := fld (cmdWord w 1) 0 8
def cmdTag (w : List DWord) : Nat := fld (cmdWord w 1) 8 16

/-- STATUS codes of a completion (R384). -/
def stOk : Nat := 0
def stMalformed : Nat := 1
def stConflict : Nat := 2
def stStale : Nat := 3
def stCancelled : Nat := 4
def stFailed : Nat := 5
def stUnsupported : Nat := 6

/-- The length of a command and the bits its carriages from 2 on may hold (R386); none for an unknown
CODE. -/
def cmdShape : Nat → Option (Nat × List DWord)
  | 0x01 => some (2, [])
  | 0x10 => some (8, [0xFFFFFFFFFFFFFFFF, 0xFFFFFFFFFFFFFFFF, 0xFFFFFFFFFFFFFFFF, 0xFFFF,
      0xFFFFFFFFFFFFFFFF, 0x3F])
  | 0x11 => some (3, [0x3])
  | 0x20 => some (3, [0xFFFF])
  | 0x21 => some (3, [0x7FFF])
  | 0x30 => some (3, [0x1FF])
  | 0x31 => some (3, [0xFF])
  | 0x32 => some (3, [0xFF])
  | 0x40 => some (4, [0xFFFFFFFF0000003F, 0x0000FFFFFFFFFFFF])
  | 0x41 => some (3, [0x3F])
  | 0x50 => some (2, [])
  | 0x51 => some (2, [])
  | 0x60 => some (3, [0x7F01FFFFFFFFFFFF])
  | 0x61 => some (2, [])
  | 0x62 => some (6, [0xFFFFFFFF, 0xFFFFFFFF, 0xFFFFFFFF, 0xFFFFFFFF])
  | _ => none

/-- The region a command names: with BY_LOGICAL the port's REGION (R382, R383; log entry 41). -/
def cmdRegion (w : List DWord) : Nat :=
  if bit (cmdWord w 1) 48 then fld (cmdWord w 1) 56 8 else fld (cmdWord w 2) 0 8

/-- The number a command names is one its field does not admit (R9, R384). DEDUCED, log entry 41. -/
def cmdBadId (w : List DWord) : Bool :=
  match cmdCode w with
  | 0x20 => decide (207 < cmdRegion w)
  | 0x30 => decide (207 < cmdRegion w) && decide (cmdRegion w < 255)
  | 0x32 => decide (207 < cmdRegion w) && decide (cmdRegion w < 255)
  | 0x21 => decide (831 < fld (cmdWord w 2) 0 10)
  | _ => false

/-- The command does not have the form of its CODE. DEDUCED, log entry 41. -/
def cmdMalformed (w : List DWord) : Bool :=
  match cmdShape (cmdCode w) with
  | none => true
  | some (len, masks) =>
    w.length != len || fld (cmdWord w 1) 51 5 != 0
      || (masks.zipIdx).any (fun e => cmdWord w (e.2 + 2) &&& ~~~e.1 != 0) || cmdBadId w

/-- The codes the ROM program implements. -/
def romImplements (code : Nat) : Bool := code == 0x01 || code == 0x20 || code == 0x30 || code == 0x32

/-- The STATUS with which a command completes without being carried out, 0 for one that is (R384 to R386;
log entry 41). `supported` says that an image implements it. -/
def State.cmdVerdict (s : State) (supported : Bool) (w : List DWord) : Nat :=
  if fld (cmdWord w 1) 49 2 ≠ 0 then stStale
  else if (cmdShape (cmdCode w)).isNone = true then stMalformed
  else if (if s.seq.mode = .rom then romImplements (cmdCode w) else supported) = false then stUnsupported
  else if cmdMalformed w then stMalformed
  else stOk

/-- The command that task `t` takes: the head of queue 0, by a program that runs and has no completion
left to push; the ROM program is T0, its bring-up done. -/
def State.cmdHead (s : State) (t : Nat) : Option (List DWord) :=
  if (s.task t).state.isIdle = false ∧ s.seq.pushes.all (fun p => p.task != t) = true
      ∧ (s.seq.mode = .image ∨ (s.seq.mode = .rom ∧ t = 0 ∧ s.seq.bring.isNone = true)) then
    match (s.queue 0).head s.now with
    | some c => if coachType (s.coachWords c) = 0xC0 then some (s.coachWords c) else none
    | none => none
  else none

/-! ## Completions (R383 to R385) -/

/-- Carriage 1 of a completion. -/
def doneWord (code tag status detail : Nat) (more : Bool) : DWord :=
  packD [(0, 8, code), (8, 16, tag), (24, 8, status), (32, 1, b2n more), (40, 24, detail)]

/-- A task pushes a coach to a queue. DESIGN CHOICE, log entry 52. -/
def State.pushCoach (s : State) (t q typ : Nat) (body : List DWord) : State :=
  { s with seq := { s.seq with
    pushes := s.seq.pushes ++
      [{ task := t, queue := q, words := coachOf typ (0x158 + t) s.tick body, at_ := s.now }] } }

/-- A completion coach. -/
def State.complete (s : State) (t code tag status detail : Nat) (more : Bool) (rest : List DWord) : State :=
  s.pushCoach t 1 0xC1 (doneWord code tag status detail more :: rest)

/-- The only completion coach of a command. DEDUCED, log entry 41. -/
def State.done (s : State) (t : Nat) (w : List DWord) (status detail : Nat) (rest : List DWord) : State :=
  s.complete t (cmdCode w) (cmdTag w) status detail false rest

/-- OK, or STATE_CONFLICT where the mechanism refused. -/
def okUnless (refused : Bool) : Nat := if refused then stConflict else stOk

/-- A host command of CODE `code` taken by task `t`. DEDUCED, log entry 41; DESIGN CHOICE, log entry 52. -/
def cmdRow (s : State) (t code : Nat) (supported : Bool) (f : List DWord → State → State) : Res :=
  actAt "task" 4 t s (match s.cmdHead t with
      | some w => cmdCode w == code && s.cmdVerdict supported w != stMalformed
      | none => false) (fun s =>
    match s.cmdHead t with
    | some w =>
      let v := s.cmdVerdict supported w
      let s := (s.pop 0 true).1
      if v = stOk then f w s else s.done t w v 0 []
    | none => s)

/-! ## The commands (R386) -/

/-- CMD_STATUS. -/
def execCmdStatus (t : Nat) (supported : Bool) (s : State) : Res :=
  cmdRow s t 0x01 supported (fun w s =>
    s.done t w stOk 0 [joinWords s.seqStatus s.seq.imgVer])

/-- The set of a gear change: carriages 2 to 5. -/
def cmdSet (w : List DWord) : RegionSet :=
  BitVec.ofNat 224 (sumL ((List.range 4).map (fun i => (cmdWord w (i + 2)).toNat * 2 ^ (64 * i))))

/-- A set as four carriages. -/
def setCarriages (x : RegionSet) : List DWord :=
  (List.range 4).map (fun i => BitVec.ofNat 64 (x.toNat / 2 ^ (64 * i)))

/-- TICK of the SUBMIT, from bits [39:0] in the header. -/
def State.portTick (s : State) (w : List DWord) : Nat :=
  s.tk - (s.tk + 2 ^ 40 - fld (cmdWord w 0) 0 40) % 2 ^ 40

/-- The door a gear change asks for: carriage 6, or that lead from the port's TICK. -/
def State.cmdDoor (s : State) (w : List DWord) : DWord :=
  if bit (cmdWord w 7) 5 then BitVec.ofNat 64 (s.portTick w + (cmdWord w 6).toNat) else cmdWord w 6

/-- A region stands against a gear change (R198). -/
def State.gearConflict (s : State) (target r : Nat) : Bool :=
  let x := s.region r
  x.racg.state == .off || x.racg.refLost || (s.hzr r).fenced || x.racg.armed
    || (List.range 4).any (fun k => (s.slot k).state.busy && (s.slot k).set.getLsbD r)
    || x.ceilField x.racg.dcoSel target == 0

/-- The lowest slot that is free and whose last gear change has been told to the host. -/
def State.freeSlot (s : State) : Option Nat :=
  (List.range 4).find? (fun k => !(s.slot k).state.busy && s.seq.jobs.all (fun j => j.kind != .gear k))

/-- The DETAIL of a gear change: the slot and the R190 reason. -/
def gearDetail (slot reason : Nat) : Nat := slot % 4 + 16 * (reason % 8)

/-- CMD_GEAR_CHANGE (R198): judged, then carried out through a door slot. DEDUCED, log entry 41. -/
def execCmdGearChange (t : Nat) (supported : Bool) (s : State) : Res :=
  cmdRow s t 0x10 supported (fun w s =>
    let set := cmdSet w
    let door := s.cmdDoor w
    let target := fld (cmdWord w 7) 0 4
    match s.freeSlot with
    | none => s.done t w stConflict 0 []
    | some k =>
      if (setList set).any (s.gearConflict target) = true ∨ s.gearValid target = false
          ∨ s.leadOk door = false then s.done t w stConflict 0 []
      else
        let s := s.updSlot k (fun d => { d with
          set := set, door := door, target := target, resync := bit (cmdWord w 7) 4 })
        let why := s.goOutcome k
        let s := s.slotGoNow k
        if why = 0 then
          { s with seq := { s.seq with
            jobs := s.seq.jobs ++ [{ task := t, code := cmdCode w, tag := cmdTag w, kind := .gear k }] } }
        else s.done t w stConflict (gearDetail k why) [])

/-- CMD_GEAR_ABORT (R194). -/
def execCmdGearAbort (t : Nat) (supported : Bool) (s : State) : Res :=
  cmdRow s t 0x11 supported (fun w s =>
    let k := fld (cmdWord w 2) 0 2
    let d := s.slot k
    let late := !((d.state == .arming || d.state == .armed) && decide (s.tk + 64 < d.door.toNat))
    (s.slotAbortNow k).done t w (okUnless late) 0 [])

/-- An R96 command is refused: it would set CMD_REFUSED; while the region has REF_LOST every command but
STOP and CLOSE counts as refused (R386). -/
def State.racgRefuses (s : State) (r code gear : Nat) : Bool :=
  ((s.region r).racg.refLost && code != 2 && code != 8)
    || bit (((s.updRegion r (fun x => { x with regs := { x.regs with
        event := x.regs.event &&& ~~~evRacgRefused } })).racgCommand r code gear).region r).regs.event 8

/-- CMD_RACG. -/
def execCmdRacg (t : Nat) (supported : Bool) (s : State) : Res :=
  cmdRow s t 0x20 supported (fun w s =>
    let r := cmdRegion w
    let code := fld (cmdWord w 2) 8 4
    let gear := fld (cmdWord w 2) 12 4
    let refused := s.racgRefuses r code gear
    let s := s.racgCommand r code gear
    s.done t w (okUnless refused) (fld (s.regionRead r 0) 0 24) [])

/-- An R218 command is refused: it would set CMD_REFUSED. -/
def State.cplRefuses (s : State) (i code : Nat) (side : Bool) : Bool :=
  bit (((s.updCpl i (fun c => { c with event := c.event &&& ~~~evCplRefused })).cplCommand i code side).cpl
    i).event 6

/-- CMD_COUPLER. -/
def execCmdCoupler (t : Nat) (supported : Bool) (s : State) : Res :=
  cmdRow s t 0x21 supported (fun w s =>
    let i := fld (cmdWord w 2) 0 10
    let code := fld (cmdWord w 2) 10 4
    let side := bit (cmdWord w 2) 14
    let refused := s.cplRefuses i code side
    let s := s.cplCommand i code side
    s.done t w (okUnless refused) (fld (s.cplStateWord i) 0 24) [])

/-- A command of the fence unit: refused with its REASON, or left to complete. -/
def State.fenceJob (s : State) (t : Nat) (w : List DWord) (kind : JobKind) (f : State → State) : State :=
  let was := s.hz.fence
  let s := f s
  if was ≠ .idle ∨ s.hz.fence = .idle then s.done t w stConflict s.hz.reason []
  else { s with seq := { s.seq with
    jobs := s.seq.jobs ++ [{ task := t, code := cmdCode w, tag := cmdTag w, kind := kind }] } }

/-- CMD_FENCE. -/
def execCmdFence (t : Nat) (supported : Bool) (s : State) : Res :=
  cmdRow s t 0x30 supported (fun w s =>
    let r := cmdRegion w
    let adopt := bit (cmdWord w 2) 8
    s.fenceJob t w .fence (fun s => s.fenceCmd r adopt))

/-- CMD_ADOPT. -/
def execCmdAdopt (t : Nat) (supported : Bool) (s : State) : Res :=
  cmdRow s t 0x31 supported (fun w s =>
    let l := fld (cmdWord w 2) 0 8
    s.fenceJob t w .adopt (fun s => s.adoptCmd l))

/-- CMD_UNFENCE. -/
def execCmdUnfence (t : Nat) (supported : Bool) (s : State) : Res :=
  cmdRow s t 0x32 supported (fun w s =>
    let r := cmdRegion w
    let refused := s.hz.fence != .idle || decide (159 < r) || !(s.hzr r).fenced
    let s := s.unfenceCmd r
    s.done t w (okUnless refused) (if refused then s.hz.reason else 0) [])

/-- CMD_MEAS_ARM: the configuration is written, then ARM. -/
def execCmdMeasArm (t : Nat) (supported tbOk : Bool) (s : State) : Res :=
  cmdRow s t 0x40 supported (fun w s =>
    let ch := fld (cmdWord w 2) 0 6
    let s := s.writeMeasCfg ch 0 (hiWord (cmdWord w 2))
    let s := s.writeMeasCfg ch 1 (loWord (cmdWord w 3))
    let s := s.writeMeasCfg ch 2 (hiWord (cmdWord w 3))
    let refused := s.armRefused ch
    (s.measArmNow ch tbOk).done t w (okUnless refused) 0 [])

/-- CMD_MEAS_DISARM. -/
def execCmdMeasDisarm (t : Nat) (supported : Bool) (s : State) : Res :=
  cmdRow s t 0x41 supported (fun w s =>
    let ch := fld (cmdWord w 2) 0 6
    let refused := (s.chan ch).state == .idle
    (s.measDisarmNow ch).done t w (okUnless refused) 0 [])

/-- CMD_GT_JOIN. -/
def execCmdGtJoin (t : Nat) (supported : Bool) (s : State) : Res :=
  cmdRow s t 0x50 supported (fun w s =>
    let refused := !s.joinOk
    s.joinGt.done t w (okUnless refused) 0 [])

/-- CMD_GT_LEAVE. -/
def execCmdGtLeave (t : Nat) (supported : Bool) (s : State) : Res :=
  cmdRow s t 0x51 supported (fun w s =>
    let refused := s.gt.state == .standalone
    s.leaveGt.done t w (okUnless refused) 0 [])

/-- CMD_SNAP_STAMP: the stamp, its coach, then the completion; FAILED where the coach's queue refuses.
DEDUCED, log entry 41. -/
def execCmdSnapStamp (t : Nat) (supported : Bool) (s : State) : Res :=
  cmdRow s t 0x60 supported (fun w s =>
    let a := cmdWord w 2
    let q := fld a 56 7
    let s := { s with hz := { s.hz with stampId := loWord a } }
    let s := s.takeStamp (bit a 48) (fld a 32 16)
    if q = 0 ∨ 95 < q ∨ s.qEnabled q = false then s.done t w stFailed 0 []
    else (s.pushCoach t q 0xB3 s.hz.stampBody).done t w stOk 0 [])

/-- CMD_SNAP_ACK. -/
def execCmdSnapAck (t : Nat) (supported : Bool) (s : State) : Res :=
  cmdRow s t 0x61 supported (fun w s => s.snapAck.done t w stOk 0 [])

/-- CMD_PARTNERS. -/
def execCmdPartners (t : Nat) (supported : Bool) (s : State) : Res :=
  cmdRow s t 0x62 supported (fun w s =>
    ((List.range 4).foldl (fun s k => s.writePartner k (loWord (cmdWord w (k + 2)))) s).done t w stOk 0 [])

/-- CMD_MALFORMED (R384): an unknown code, a wrong length or an illegal field. -/
def execCmdMalformed (t : Nat) (s : State) : Res :=
  actAt "task" 4 t s (match s.cmdHead t with
      | some w => (cmdShape (cmdCode w)).isNone || s.cmdVerdict true w == stMalformed
      | none => false) (fun s =>
    match s.cmdHead t with
    | some w =>
      let v := s.cmdVerdict true w
      ((s.pop 0 true).1).done t w v 0 []
    | none => s)

/-! ## Commands under way (R385, R386) -/

/-- The job no longer waits. -/
def State.dropJob (s : State) (j : CmdJob) : State :=
  { s with seq := { s.seq with jobs := s.seq.jobs.erase j } }

/-- The fence unit's commands end with REASON 0, or FAILED with that of the ADOPT or its part. -/
def State.fenceJobDone (s : State) (j : CmdJob) (fencedBit : Nat) : State :=
  match j.result with
  | some why =>
    (s.dropJob j).complete j.task j.code j.tag (if why = 0 then stOk else stFailed) (why + fencedBit) false []
  | none => s

/-- A job whose mechanism has come to rest completes. DEDUCED, log entry 41. -/
def State.jobStep (s : State) (j : CmdJob) : State :=
  match j.kind with
  | .gear k =>
    let d := s.slot k
    if d.state.busy then s
    else
      let st := if d.state = .cancelled then stCancelled else stOk
      let s := s.dropJob j
      let s := s.complete j.task j.code j.tag st (gearDetail k 0) true (setCarriages d.ack)
      s.complete j.task j.code j.tag st (gearDetail k 0) false (setCarriages d.exc)
  | .fence => s.fenceJobDone j 16
  | .adopt => s.fenceJobDone j 0

/-- The jobs' part of a die tick. DESIGN CHOICE, log entry 52. -/
def State.jobsTick (s : State) : State := s.seq.jobs.foldl State.jobStep s

end Sys2Proof.Machine
end

