-- ==== Sys2Proof/Machine/Clock.lean ====
section
/-! DEFINITION. The passing of one die tick: what step does on an empty queue in place of idling (log
entry 1). What the blocks leave to the end of the tick that ends, the clocks, then what each block does by itself
as a tick begins. -/

namespace Sys2Proof.Machine

open Sys2Proof

/-- What is settled as a die tick ends: the sequencer's accesses and waits, the feed events of EVT_IN, the ledger
coaches, the pages of regions that lost the die tick, and ALARM#. DESIGN CHOICE, log entry 1; DEDUCED, log
entry 17. -/
def State.tickEnd (s : State) : State := s.seqTickEnd.evtEnds.formSnaps.holdPages.alarmSettle

/-- The clocks move on: time, TICK once it counts (R24), the island's time; IN_USE as the tick begins. What happened
in the tick that ended is forgotten. DESIGN CHOICE, log entry 1. -/
def State.advance (s : State) : State :=
  ({ s with
    now := s.now + 1,
    tick := if s.ref.tickValid then s.tick + 1 else s.tick,
    log := {} } : State).poolUse.islandTick

/-- What was written or decided in the tick before is in force: the forecast block, the regions with work at this
edge, and a step of TICK. DESIGN CHOICE, log entry 1. -/
def State.edgeWork (s : State) (old : TickLog) : State :=
  let s := old.soon.foldr (fun r s => s.regionTick r) s.fcTick
  if old.step then s.stepNow else s

/-- What the blocks on the die tick do as a tick begins. DESIGN CHOICE, log entry 1. -/
def State.tickWork (s : State) : State :=
  s.measTick.poolTick.gtTick.fenceTick.seqTick.jobsTick

/-- The references follow: the standby root follows R58 and R60 unless a switch is under way, a slew goes on at its
rate (R72), the waits of R66 and R68 run. DESIGN CHOICE, log entry 1. -/
def State.refTick (s : State) : State :=
  let x := if s.ref.switchDue.isNone then s.ref.standbyFollow s.now else s.ref
  let x := if x.activeRoot.state = .slew then { x with slewRoom := x.slewRoom + x.slewPpm } else x
  ({ s with ref := x } : State).refSettle

/-- One die tick passes. In cold reset only the clocks run; before TICK_VALID no block has a die tick.
DESIGN CHOICE, log entry 1; DESIGN CHOICE, log entry 11. -/
def State.dieTick (s : State) : State :=
  if s.sb.inReset then s.advance
  else if s.ref.tickValid then (s.tickEnd.advance.edgeWork s.tickEnd.log).tickWork.refTick
  else s.alarmSettle.advance.refTick

end Sys2Proof.Machine
end

