-- ==== Sys2Proof/Machine/Smbus.lean ====
section
/-! DEFINITION. The SMBus target's transactions (R428 to R431). -/

namespace Sys2Proof.Machine

open Sys2Proof

/-- READ32 (R428, R429, R430). DEDUCED, log entry 47. -/
def execRead32 (off : Nat) (s : State) : Res :=
  act s (decide (off < 2 ^ 20)) (fun s =>
    let (s, w) := s.readAccess .smbus off
    { s with out := { s.out with readData := some w, nack := false } })

/-- A write without effect for its PEC byte is counted (R431). -/
def State.pecError (s : State) : State :=
  ({ s with sb := { s.sb with pecErrs := satAdd 0xFF s.sb.pecErrs 1 } } : State).raiseSb 0x20

/-- The PEC byte of a write is as it must be. -/
def State.pecOk (s : State) (pec : Pec) : Bool :=
  match pec with
  | .good => true
  | .bad => false
  | .absent => !bit s.sb.smbCfg 0

/-- WRITE32 (R428 to R431). DEDUCED, log entry 47. -/
def execWrite32 (off : Nat) (v : Word) (pec : Pec) (s : State) : Res :=
  act s (decide (off < 2 ^ 20)) (fun s =>
    let s := { s with out := { s.out with nack := false } }
    if s.pecOk pec then s.writeReg .smbus off v else s.pecError)

/-- `n` words read from ascending offsets. -/
def State.readWords (s : State) (off : Nat) : Nat → State × List Word
  | 0 => (s, [])
  | n + 1 =>
    let (s, w) := s.readAccess .smbus off
    let (s, l) := State.readWords s (off + 4) n
    (s, w :: l)

/-- READN (R428, R430): an n outside 1 to 8 is NACKed. DEDUCED, log entry 47. -/
def execReadn (off n : Nat) (s : State) : Res :=
  act s (decide (off < 2 ^ 20)) (fun s =>
    if 1 ≤ n ∧ n ≤ 8 then
      let (s, l) := s.readWords off n
      { s with out := { s.out with readWords := l, nack := false } }
    else { s with out := { s.out with nack := true } })

/-- A command code with its byte count is one of R428's. -/
def smbCommand (code count : Nat) : Bool :=
  (code == 0x20 && count == 3) || (code == 0x21 && count == 7) || (code == 0x22 && count == 4)

/-- SMB_BAD_COMMAND (R428): NACKed. -/
def execSmbBadCommand (code count : Nat) (s : State) : Res :=
  act s (!smbCommand code count) (fun s => { s with out := { s.out with nack := true } })

/-- SMB_TIMEOUT (R428). -/
def execSmbTimeout (s : State) : Res :=
  act s true (fun s =>
    ({ s with sb := { s.sb with timeouts := satAdd 0xFF s.sb.timeouts 1 } } : State).raiseSb 0x40)

end Sys2Proof.Machine
end

