-- ==== Sys2Proof/Machine/Dispatch.lean ====
section
/-! DEFINITION. The meaning of every command: one arm per constructor, each a direct call. -/

namespace Sys2Proof.Machine

open Sys2Proof

def exec (i : Instr) (s : State) : Host.Outcome State Fault Refusal :=
  match i with
  | .registerWrite p off width v => Sys2Proof.Machine.execRegisterWrite p off width v s
  | .readLowWordLatch p off width => Sys2Proof.Machine.execReadLowWordLatch p off width s
  | .clrIgnored p => Sys2Proof.Machine.execClrIgnored p s
  | .refEdgesAppear f => Sys2Proof.Machine.execRefEdgesAppear f s
  | .refEnable p f en => Sys2Proof.Machine.execRefEnable p f en s
  | .qualificationComplete f m phasePs => Sys2Proof.Machine.execQualificationComplete f m phasePs s
  | .watchWindowEnd m => Sys2Proof.Machine.execWatchWindowEnd m s
  | .watchPeriodFail k => Sys2Proof.Machine.execWatchPeriodFail k s
  | .missingEdgeWindowClose => Sys2Proof.Machine.execMissingEdgeWindowClose s
  | .missOne => Sys2Proof.Machine.execMissOne s
  | .rootLock x residualPs phasePs => Sys2Proof.Machine.execRootLock x residualPs phasePs s
  | .rootAcquireTimeout x => Sys2Proof.Machine.execRootAcquireTimeout x s
  | .rootFault x => Sys2Proof.Machine.execRootFault x s
  | .switchover phasePs => Sys2Proof.Machine.execSwitchover phasePs s
  | .revertiveSwitchover => Sys2Proof.Machine.execRevertiveSwitchover s
  | .forceSwitch p => Sys2Proof.Machine.execForceSwitch p s
  | .slewDone phasePs => Sys2Proof.Machine.execSlewDone phasePs s
  | .retry p a b => Sys2Proof.Machine.execRetry p a b s
  | .segSwap seg cut => Sys2Proof.Machine.execSegSwap seg cut s
  | .spareTrunkFail half => Sys2Proof.Machine.execSpareTrunkFail half s
  | .racgStart p r gear => Sys2Proof.Machine.execRacgStart p r gear s
  | .racgStop p r => Sys2Proof.Machine.execRacgStop p r s
  | .racgAcquire p r gear => Sys2Proof.Machine.execRacgAcquire p r gear s
  | .racgSwap p r => Sys2Proof.Machine.execRacgSwap p r s
  | .racgReturn p r => Sys2Proof.Machine.execRacgReturn p r s
  | .toBypass p r => Sys2Proof.Machine.execToBypass p r s
  | .racgOpen p r => Sys2Proof.Machine.execRacgOpen p r s
  | .racgClose p r => Sys2Proof.Machine.execRacgClose p r s
  | .racgReservedCmd p r code => Sys2Proof.Machine.execRacgReservedCmd p r code s
  | .lock r dcw => Sys2Proof.Machine.execLock r dcw s
  | .lossOfLock r c => Sys2Proof.Machine.execLossOfLock r c s
  | .outputSwitchComplete r => Sys2Proof.Machine.execOutputSwitchComplete r s
  | .ceilLimited r => Sys2Proof.Machine.execCeilLimited r s
  | .ceilTblWrite p r g v => Sys2Proof.Machine.execCeilTblWrite p r g v s
  | .armMessage slot r => Sys2Proof.Machine.execArmMessage slot r s
  | .doorTaken r => Sys2Proof.Machine.execDoorTaken r s
  | .rampStep r dcw => Sys2Proof.Machine.execRampStep r dcw s
  | .dcoMeasStart p r code => Sys2Proof.Machine.execDcoMeasStart p r code s
  | .measDone r count => Sys2Proof.Machine.execMeasDone r count s
  | .phaseCtlWrite p r v => Sys2Proof.Machine.execPhaseCtlWrite p r v s
  | .phaseDone r => Sys2Proof.Machine.execPhaseDone r s
  | .refLost r => Sys2Proof.Machine.execRefLost r s
  | .holdExit r => Sys2Proof.Machine.execHoldExit r s
  | .shutterClosed r => Sys2Proof.Machine.execShutterClosed r s
  | .shutterOpened r => Sys2Proof.Machine.execShutterOpened r s
  | .clrMargin p r => Sys2Proof.Machine.execClrMargin p r s
  | .droopCrossing r quiet readings => Sys2Proof.Machine.execDroopCrossing r quiet readings s
  | .episodeEnd r readings => Sys2Proof.Machine.execEpisodeEnd r readings s
  | .episodeContinued r => Sys2Proof.Machine.execEpisodeContinued r s
  | .episodeHistSpan => Sys2Proof.Machine.execEpisodeHistSpan s
  | .thermalConversion r t0 t1 => Sys2Proof.Machine.execThermalConversion r t0 t1 s
  | .detMaskWrite p r v => Sys2Proof.Machine.execDetMaskWrite p r v s
  | .detCalSelWrite p r v => Sys2Proof.Machine.execDetCalSelWrite p r v s
  | .detTrimWrite p r w v => Sys2Proof.Machine.execDetTrimWrite p r w v s
  | .probeStart p r adv live => Sys2Proof.Machine.execProbeStart p r adv live s
  | .probeDone r changes late lowest => Sys2Proof.Machine.execProbeDone r changes late lowest s
  | .calDone p r => Sys2Proof.Machine.execCalDone p r s
  | .calExpired r => Sys2Proof.Machine.execCalExpired r s
  | .snap p r => Sys2Proof.Machine.execSnap p r s
  | .periodicSnapshot r => Sys2Proof.Machine.execPeriodicSnapshot r s
  | .forecast r msg => Sys2Proof.Machine.execForecast r msg s
  | .windowClose r => Sys2Proof.Machine.execWindowClose r s
  | .ldwarnDeassert rail => Sys2Proof.Machine.execLdwarnDeassert rail s
  | .staggerSlotExpiry cluster => Sys2Proof.Machine.execStaggerSlotExpiry cluster s
  | .fcEnWrite p en => Sys2Proof.Machine.execFcEnWrite p en s
  | .warnEnWrite p en => Sys2Proof.Machine.execWarnEnWrite p en s
  | .avsGo p n mv => Sys2Proof.Machine.execAvsGo p n mv s
  | .avsFrameEnd n resp => Sys2Proof.Machine.execAvsFrameEnd n resp s
  | .avsSettleDone n => Sys2Proof.Machine.execAvsSettleDone n s
  | .gearTableWrite p g high v => Sys2Proof.Machine.execGearTableWrite p g high v s
  | .slotGo p slot target resync => Sys2Proof.Machine.execSlotGo p slot target resync s
  | .armAcknowledgement slot r => Sys2Proof.Machine.execArmAcknowledgement slot r s
  | .armingDeadline slot => Sys2Proof.Machine.execArmingDeadline slot s
  | .cancelMessage slot r => Sys2Proof.Machine.execCancelMessage slot r s
  | .cancelAck slot r => Sys2Proof.Machine.execCancelAck slot r s
  | .cancelResend slot => Sys2Proof.Machine.execCancelResend slot s
  | .cancelLost slot => Sys2Proof.Machine.execCancelLost slot s
  | .slotAbort p slot => Sys2Proof.Machine.execSlotAbort p slot s
  | .settleCheck slot => Sys2Proof.Machine.execSettleCheck slot s
  | .thermTripClr p w v => Sys2Proof.Machine.execThermTripClr p w v s
  | .couplerWrite idx req lanes late ptrBad => Sys2Proof.Machine.execCouplerWrite idx req lanes late ptrBad s
  | .couplerRead idx req late badLanes ptrBad => Sys2Proof.Machine.execCouplerRead idx req late badLanes ptrBad s
  | .cplEnable p idx => Sys2Proof.Machine.execCplEnable p idx s
  | .enableComplete idx => Sys2Proof.Machine.execEnableComplete idx s
  | .cplDrain p idx side => Sys2Proof.Machine.execCplDrain p idx side s
  | .drained idx => Sys2Proof.Machine.execDrained idx s
  | .cplHold p idx => Sys2Proof.Machine.execCplHold p idx s
  | .held idx => Sys2Proof.Machine.execHeld idx s
  | .holdSlow idx => Sys2Proof.Machine.execHoldSlow idx s
  | .cplRelease p idx => Sys2Proof.Machine.execCplRelease p idx s
  | .cplSwap p idx => Sys2Proof.Machine.execCplSwap p idx s
  | .cplUnswap p idx => Sys2Proof.Machine.execCplUnswap p idx s
  | .swapped idx => Sys2Proof.Machine.execSwapped idx s
  | .cplDisable p idx => Sys2Proof.Machine.execCplDisable p idx s
  | .cplReservedCmd p idx code => Sys2Proof.Machine.execCplReservedCmd p idx code s
  | .stallLong idx => Sys2Proof.Machine.execStallLong idx s
  | .clrStats p idx => Sys2Proof.Machine.execClrStats p idx s
  | .measArm p ch tbOk => Sys2Proof.Machine.execMeasArm p ch tbOk s
  | .measDisarm p ch => Sys2Proof.Machine.execMeasDisarm p ch s
  | .measReservedCmd p ch code => Sys2Proof.Machine.execMeasReservedCmd p ch code s
  | .measCfgWrite p ch reg v => Sys2Proof.Machine.execMeasCfgWrite p ch reg v s
  | .measCalDone ch sums => Sys2Proof.Machine.execMeasCalDone ch sums s
  | .startEdge ch raw pos => Sys2Proof.Machine.execStartEdge ch raw pos s
  | .stopEdge ch raw pos => Sys2Proof.Machine.execStopEdge ch raw pos s
  | .resultComplete ch tbOk => Sys2Proof.Machine.execResultComplete ch tbOk s
  | .orphan ch => Sys2Proof.Machine.execOrphan ch s
  | .overflow ch tbOk => Sys2Proof.Machine.execOverflow ch tbOk s
  | .resultHeadRead p ch => Sys2Proof.Machine.execResultHeadRead p ch s
  | .streamStamp ch raw pos => Sys2Proof.Machine.execStreamStamp ch raw pos s
  | .streamRecal ch tbOk sum1 sum2 => Sys2Proof.Machine.execStreamRecal ch tbOk sum1 sum2 s
  | .streamCoachTimeout ch => Sys2Proof.Machine.execStreamCoachTimeout ch s
  | .coachGrant => Sys2Proof.Machine.execCoachGrant s
  | .coachWritten q => Sys2Proof.Machine.execCoachWritten q s
  | .qPop p q => Sys2Proof.Machine.execQPop p q s
  | .rdLo p q => Sys2Proof.Machine.execRdLo p q s
  | .rdHi p q => Sys2Proof.Machine.execRdHi p q s
  | .heldReadComplete q => Sys2Proof.Machine.execHeldReadComplete q s
  | .flush p q => Sys2Proof.Machine.execFlush p q s
  | .flushDone q => Sys2Proof.Machine.execFlushDone q s
  | .qDisable p q => Sys2Proof.Machine.execQDisable p q s
  | .mark p q => Sys2Proof.Machine.execMark p q s
  | .rewind p q => Sys2Proof.Machine.execRewind p q s
  | .clrCounts p q => Sys2Proof.Machine.execClrCounts p q s
  | .clrPeak p => Sys2Proof.Machine.execClrPeak p s
  | .poolDebugWrite p off v => Sys2Proof.Machine.execPoolDebugWrite p off v s
  | .coalesceStart => Sys2Proof.Machine.execCoalesceStart s
  | .coalesceBoundary => Sys2Proof.Machine.execCoalesceBoundary s
  | .syncInEdge pos => Sys2Proof.Machine.execSyncInEdge pos s
  | .todMessage bytes => Sys2Proof.Machine.execTodMessage bytes s
  | .alignWordSend link => Sys2Proof.Machine.execAlignWordSend link s
  | .alignWordReceive link w0 w1 pos => Sys2Proof.Machine.execAlignWordReceive link w0 w1 pos s
  | .join p => Sys2Proof.Machine.execJoin p s
  | .leave p => Sys2Proof.Machine.execLeave p s
  | .joinTimeout => Sys2Proof.Machine.execJoinTimeout s
  | .tickStep => Sys2Proof.Machine.execTickStep s
  | .sourceLost => Sys2Proof.Machine.execSourceLost s
  | .ejected => Sys2Proof.Machine.execEjected s
  | .peerLost link => Sys2Proof.Machine.execPeerLost link s
  | .cmpArm p k => Sys2Proof.Machine.execCmpArm p k s
  | .slotFired k => Sys2Proof.Machine.execSlotFired k s
  | .commitArm p => Sys2Proof.Machine.execCommitArm p s
  | .commit => Sys2Proof.Machine.execCommit s
  | .copy p => Sys2Proof.Machine.execCopy p s
  | .gtConfigWrite p off v => Sys2Proof.Machine.execGtConfigWrite p off v s
  | .syncOutPulse => Sys2Proof.Machine.execSyncOutPulse s
  | .hazardUpdate => Sys2Proof.Machine.execHazardUpdate s
  | .hazardUpdateEffect => Sys2Proof.Machine.execHazardUpdateEffect s
  | .mapPortMessage logical gen => Sys2Proof.Machine.execMapPortMessage logical gen s
  | .fence p target adopt => Sys2Proof.Machine.execFence p target adopt s
  | .fenceDone => Sys2Proof.Machine.execFenceDone s
  | .adopt p logical => Sys2Proof.Machine.execAdopt p logical s
  | .adopted => Sys2Proof.Machine.execAdopted s
  | .adoptUndo => Sys2Proof.Machine.execAdoptUndo s
  | .unfence p target => Sys2Proof.Machine.execUnfence p target s
  | .fenceReservedCmd p target => Sys2Proof.Machine.execFenceReservedCmd p target s
  | .feedNote p code => Sys2Proof.Machine.execFeedNote p code s
  | .partnerWrite p k v => Sys2Proof.Machine.execPartnerWrite p k v s
  | .snapAck p => Sys2Proof.Machine.execSnapAck p s
  | .stamp p answer req => Sys2Proof.Machine.execStamp p answer req s
  | .add t => Sys2Proof.Machine.execAdd t s
  | .sub t => Sys2Proof.Machine.execSub t s
  | .and t => Sys2Proof.Machine.execAnd t s
  | .or t => Sys2Proof.Machine.execOr t s
  | .xor t => Sys2Proof.Machine.execXor t s
  | .shl t => Sys2Proof.Machine.execShl t s
  | .shr t => Sys2Proof.Machine.execShr t s
  | .sra t => Sys2Proof.Machine.execSra t s
  | .mul t => Sys2Proof.Machine.execMul t s
  | .slt t => Sys2Proof.Machine.execSlt t s
  | .sltu t => Sys2Proof.Machine.execSltu t s
  | .addi t => Sys2Proof.Machine.execAddi t s
  | .andi t => Sys2Proof.Machine.execAndi t s
  | .ori t => Sys2Proof.Machine.execOri t s
  | .xori t => Sys2Proof.Machine.execXori t s
  | .shli t => Sys2Proof.Machine.execShli t s
  | .shri t => Sys2Proof.Machine.execShri t s
  | .srai t => Sys2Proof.Machine.execSrai t s
  | .lui t => Sys2Proof.Machine.execLui t s
  | .slti t => Sys2Proof.Machine.execSlti t s
  | .beq t => Sys2Proof.Machine.execBeq t s
  | .bne t => Sys2Proof.Machine.execBne t s
  | .blt t => Sys2Proof.Machine.execBlt t s
  | .bge t => Sys2Proof.Machine.execBge t s
  | .bltu t => Sys2Proof.Machine.execBltu t s
  | .bgeu t => Sys2Proof.Machine.execBgeu t s
  | .jal t => Sys2Proof.Machine.execJal t s
  | .jalr t => Sys2Proof.Machine.execJalr t s
  | .rds t => Sys2Proof.Machine.execRds t s
  | .ld t => Sys2Proof.Machine.execLd t s
  | .st t => Sys2Proof.Machine.execSt t s
  | .xchg t => Sys2Proof.Machine.execXchg t s
  | .ldk t => Sys2Proof.Machine.execLdk t s
  | .stk t => Sys2Proof.Machine.execStk t s
  | .postedWrite n => Sys2Proof.Machine.execPostedWrite n s
  | .rdt t => Sys2Proof.Machine.execRdt t s
  | .waitt t => Sys2Proof.Machine.execWaitt t s
  | .waitr t => Sys2Proof.Machine.execWaitr t s
  | .timedWaitEnd t => Sys2Proof.Machine.execTimedWaitEnd t s
  | .waite t => Sys2Proof.Machine.execWaite t s
  | .eventWaitEnd t => Sys2Proof.Machine.execEventWaitEnd t s
  | .setev t => Sys2Proof.Machine.execSetev t s
  | .clrev t => Sys2Proof.Machine.execClrev t s
  | .dwait t => Sys2Proof.Machine.execDwait t s
  | .doorWaitEnd t => Sys2Proof.Machine.execDoorWaitEnd t s
  | .bcast t => Sys2Proof.Machine.execBcast t s
  | .bcastMessage n r cut => Sys2Proof.Machine.execBcastMessage n r cut s
  | .armd t => Sys2Proof.Machine.execArmd t s
  | .armdLand t => Sys2Proof.Machine.execArmdLand t s
  | .push t => Sys2Proof.Machine.execPush t s
  | .pushGrant t => Sys2Proof.Machine.execPushGrant t s
  | .pop t => Sys2Proof.Machine.execPop t s
  | .tstart t => Sys2Proof.Machine.execTstart t s
  | .tstop t => Sys2Proof.Machine.execTstop t s
  | .halt t => Sys2Proof.Machine.execHalt t s
  | .illegalInstruction t => Sys2Proof.Machine.execIllegalInstruction t s
  | .loadTimeout => Sys2Proof.Machine.execLoadTimeout s
  | .loadBegin p => Sys2Proof.Machine.execLoadBegin p s
  | .imgData p v => Sys2Proof.Machine.execImgData p v s
  | .loadEnd p => Sys2Proof.Machine.execLoadEnd p s
  | .loadVerifyDone => Sys2Proof.Machine.execLoadVerifyDone s
  | .loadAbort p => Sys2Proof.Machine.execLoadAbort p s
  | .loadGapTimeout => Sys2Proof.Machine.execLoadGapTimeout s
  | .seqRestart p mask => Sys2Proof.Machine.execSeqRestart p mask s
  | .seqStop p mask => Sys2Proof.Machine.execSeqStop p mask s
  | .submit p len => Sys2Proof.Machine.execSubmit p len s
  | .cmdStatus t supported => Sys2Proof.Machine.execCmdStatus t supported s
  | .cmdGearChange t supported => Sys2Proof.Machine.execCmdGearChange t supported s
  | .cmdGearAbort t supported => Sys2Proof.Machine.execCmdGearAbort t supported s
  | .cmdRacg t supported => Sys2Proof.Machine.execCmdRacg t supported s
  | .cmdCoupler t supported => Sys2Proof.Machine.execCmdCoupler t supported s
  | .cmdFence t supported => Sys2Proof.Machine.execCmdFence t supported s
  | .cmdAdopt t supported => Sys2Proof.Machine.execCmdAdopt t supported s
  | .cmdUnfence t supported => Sys2Proof.Machine.execCmdUnfence t supported s
  | .cmdMeasArm t supported tbOk => Sys2Proof.Machine.execCmdMeasArm t supported tbOk s
  | .cmdMeasDisarm t supported => Sys2Proof.Machine.execCmdMeasDisarm t supported s
  | .cmdGtJoin t supported => Sys2Proof.Machine.execCmdGtJoin t supported s
  | .cmdGtLeave t supported => Sys2Proof.Machine.execCmdGtLeave t supported s
  | .cmdSnapStamp t supported => Sys2Proof.Machine.execCmdSnapStamp t supported s
  | .cmdSnapAck t supported => Sys2Proof.Machine.execCmdSnapAck t supported s
  | .cmdPartners t supported => Sys2Proof.Machine.execCmdPartners t supported s
  | .cmdMalformed t => Sys2Proof.Machine.execCmdMalformed t s
  | .islandStart xtal mref adc => Sys2Proof.Machine.execIslandStart xtal mref adc s
  | .standbyLoss vbat => Sys2Proof.Machine.execStandbyLoss vbat s
  | .xtalOkChange ok => Sys2Proof.Machine.execXtalOkChange ok s
  | .islandSyncEdge deltaUs => Sys2Proof.Machine.execIslandSyncEdge deltaUs s
  | .islandTodMessage bytes => Sys2Proof.Machine.execIslandTodMessage bytes s
  | .adcFrame frame => Sys2Proof.Machine.execAdcFrame frame s
  | .adcFault cycles => Sys2Proof.Machine.execAdcFault cycles s
  | .adcRecovery => Sys2Proof.Machine.execAdcRecovery s
  | .mrefLost cycles => Sys2Proof.Machine.execMrefLost cycles s
  | .mrefReturn => Sys2Proof.Machine.execMrefReturn s
  | .intervalClose cycles => Sys2Proof.Machine.execIntervalClose cycles s
  | .recordHandover => Sys2Proof.Machine.execRecordHandover s
  | .parameterBlock bytes unsealLow cycles => Sys2Proof.Machine.execParameterBlock bytes unsealLow cycles s
  | .paramBlockTimeout => Sys2Proof.Machine.execParamBlockTimeout s
  | .mailboxPowerGood => Sys2Proof.Machine.execMailboxPowerGood s
  | .replayHandover => Sys2Proof.Machine.execReplayHandover s
  | .mailboxCoach => Sys2Proof.Machine.execMailboxCoach s
  | .mailboxSlotRead p k => Sys2Proof.Machine.execMailboxSlotRead p k s
  | .coldReset c => Sys2Proof.Machine.execColdReset c s
  | .coldResetEnd smbAddr feedStrap => Sys2Proof.Machine.execColdResetEnd smbAddr feedStrap s
  | .evtInAssert idx => Sys2Proof.Machine.execEvtInAssert idx s
  | .evtInDeassert idx => Sys2Proof.Machine.execEvtInDeassert idx s
  | .read32 off => Sys2Proof.Machine.execRead32 off s
  | .write32 off v pec => Sys2Proof.Machine.execWrite32 off v pec s
  | .readn off n => Sys2Proof.Machine.execReadn off n s
  | .smbBadCommand code count => Sys2Proof.Machine.execSmbBadCommand code count s
  | .smbTimeout => Sys2Proof.Machine.execSmbTimeout s
  | .verify p => Sys2Proof.Machine.execVerify p s
  | .verifyDone => Sys2Proof.Machine.execVerifyDone s
  | .enterField p => Sys2Proof.Machine.execEnterField p s
  | .lcEnd p arg => Sys2Proof.Machine.execLcEnd p arg s
  | .keyInstall p arg => Sys2Proof.Machine.execKeyInstall p arg s
  | .revoke p arg => Sys2Proof.Machine.execRevoke p arg s
  | .raiseFloor p arg => Sys2Proof.Machine.execRaiseFloor p arg s
  | .relock p => Sys2Proof.Machine.execRelock p s
  | .lcReservedCmd p code => Sys2Proof.Machine.execLcReservedCmd p code s
  | .seal p => Sys2Proof.Machine.execSeal p s
  | .autoSeal => Sys2Proof.Machine.execAutoSeal s
  | .transitionCommit => Sys2Proof.Machine.execTransitionCommit s
  | .unlockExpiry => Sys2Proof.Machine.execUnlockExpiry s
  | .preferredRefWaitExpiry => Sys2Proof.Machine.execPreferredRefWaitExpiry s
  | .coldQualificationFail f twoMissing => Sys2Proof.Machine.execColdQualificationFail f twoMissing s
  | .syncInEdgeMissing => Sys2Proof.Machine.execSyncInEdgeMissing s
  | .todMessageMissing => Sys2Proof.Machine.execTodMessageMissing s
  | .islandSyncEdgeMissing => Sys2Proof.Machine.execIslandSyncEdgeMissing s
  | .islandAbsenceTimeout a => Sys2Proof.Machine.execIslandAbsenceTimeout a s
  | .mailboxMirrorUpdate seconds fraction => Sys2Proof.Machine.execMailboxMirrorUpdate seconds fraction s

end Sys2Proof.Machine
end

