-- ==== Sys2Proof/WellFormed.lean ====
section
/-! DEFINITION. Which commands are well formed: the parts they name exist (R8, R10, R26) and their fields
have the widths of the registers and messages they stand for. The meanings are total: an ill-formed
command is ignored as its rule says, or is a fault of its own. -/

namespace Sys2Proof

/-- The operands of a command lie in their ranges. -/
def Instr.wellFormed : Instr → Bool
  | .registerWrite _ off width _ => decide (off < 0xA1000) && (width == 32)
  | .readLowWordLatch _ off width => decide (off < 0xA1000) && (width == 32)
  | .clrIgnored _ => true
  | .refEdgesAppear _ => true
  | .refEnable _ _ _ => true
  | .qualificationComplete _ _ _ => true
  | .watchWindowEnd _ => true
  | .watchPeriodFail _ => true
  | .missingEdgeWindowClose => true
  | .missOne => true
  | .rootLock _ _ _ => true
  | .rootAcquireTimeout _ => true
  | .rootFault _ => true
  | .switchover _ => true
  | .revertiveSwitchover => true
  | .forceSwitch _ => true
  | .slewDone _ => true
  | .retry _ _ _ => true
  | .segSwap seg _ => decide (seg < 26)
  | .spareTrunkFail half => decide (half < 2)
  | .racgStart _ r gear => decide (r < 208) && decide (gear < 16)
  | .racgStop _ r => decide (r < 208)
  | .racgAcquire _ r gear => decide (r < 208) && decide (gear < 16)
  | .racgSwap _ r => decide (r < 208)
  | .racgReturn _ r => decide (r < 208)
  | .toBypass _ r => decide (r < 208)
  | .racgOpen _ r => decide (r < 208)
  | .racgClose _ r => decide (r < 208)
  | .racgReservedCmd _ r code => decide (r < 208) && decide (9 ≤ code) && decide (code ≤ 15)
  | .lock r dcw => decide (r < 208) && decide (dcw < 16384)
  | .lossOfLock r _ => decide (r < 208)
  | .outputSwitchComplete r => decide (r < 208)
  | .ceilLimited r => decide (r < 208)
  | .ceilTblWrite _ r g _ => decide (r < 208) && decide (g < 16)
  | .armMessage slot r => decide (slot < 4) && decide (r < 208)
  | .doorTaken r => decide (r < 208)
  | .rampStep r dcw => decide (r < 208) && decide (dcw < 16384)
  | .dcoMeasStart _ r code => decide (r < 208) && decide (code < 16384)
  | .measDone r _ => decide (r < 208)
  | .phaseCtlWrite _ r _ => decide (r < 208)
  | .phaseDone r => decide (r < 208)
  | .refLost r => decide (r < 208)
  | .holdExit r => decide (r < 208)
  | .shutterClosed r => decide (r < 208)
  | .shutterOpened r => decide (r < 208)
  | .clrMargin _ r => decide (r < 208)
  | .droopCrossing r _ _ => decide (r < 208)
  | .episodeEnd r _ => decide (r < 208)
  | .episodeContinued r => decide (r < 208)
  | .episodeHistSpan => true
  | .thermalConversion r _ _ => decide (r < 208)
  | .detMaskWrite _ r _ => decide (r < 208)
  | .detCalSelWrite _ r _ => decide (r < 208)
  | .detTrimWrite _ r w _ => decide (r < 208) && decide (w < 4)
  | .probeStart _ r adv _ => decide (r < 208) && decide (adv < 64)
  | .probeDone r _ _ _ => decide (r < 208)
  | .calDone _ r => decide (r < 208)
  | .calExpired r => decide (r < 208)
  | .snap _ r => decide (r < 208)
  | .periodicSnapshot r => decide (r < 208)
  | .forecast r _ => decide (r < 160)
  | .windowClose r => decide (r < 160)
  | .ldwarnDeassert rail => decide (rail < 4)
  | .staggerSlotExpiry cluster => decide (cluster < 16)
  | .fcEnWrite _ _ => true
  | .warnEnWrite _ _ => true
  | .avsGo _ n mv => decide (n < 4) && decide (mv < 0x10000)
  | .avsFrameEnd n _ => decide (n < 4)
  | .avsSettleDone n => decide (n < 4)
  | .gearTableWrite _ g _ _ => decide (g < 16)
  | .slotGo _ slot target _ => decide (slot < 4) && decide (target < 16)
  | .armAcknowledgement slot r => decide (slot < 4) && decide (r < 208)
  | .armingDeadline slot => decide (slot < 4)
  | .cancelMessage slot r => decide (slot < 4) && decide (r < 208)
  | .cancelAck slot r => decide (slot < 4) && decide (r < 208)
  | .cancelResend slot => decide (slot < 4)
  | .cancelLost slot => decide (slot < 4)
  | .slotAbort _ slot => decide (slot < 4)
  | .settleCheck slot => decide (slot < 4)
  | .thermTripClr _ w _ => decide (w < 7)
  | .couplerWrite i _ _ _ _ => decide (i < 832)
  | .couplerRead i _ _ _ _ => decide (i < 832)
  | .cplEnable _ i => decide (i < 936)
  | .enableComplete i => decide (i < 832)
  | .cplDrain _ i _ => decide (i < 936)
  | .drained i => decide (i < 832)
  | .cplHold _ i => decide (i < 936)
  | .held i => decide (i < 832)
  | .holdSlow i => decide (i < 832)
  | .cplRelease _ i => decide (i < 936)
  | .cplSwap _ i => decide (i < 936)
  | .cplUnswap _ i => decide (i < 936)
  | .swapped i => decide (i < 832)
  | .cplDisable _ i => decide (i < 936)
  | .cplReservedCmd _ i code => decide (i < 936) && decide (code ≤ 15)
  | .stallLong i => decide (i < 832)
  | .clrStats _ i => decide (i < 936)
  | .measArm _ ch _ => decide (ch < 64)
  | .measDisarm _ ch => decide (ch < 64)
  | .measReservedCmd _ ch code => decide (ch < 64) && decide (3 ≤ code) && decide (code ≤ 7)
  | .measCfgWrite _ ch reg _ => decide (ch < 64) && decide (reg < 3)
  | .measCalDone ch _ => decide (ch < 64)
  | .startEdge ch _ _ => decide (ch < 64)
  | .stopEdge ch _ _ => decide (ch < 64)
  | .resultComplete ch _ => decide (ch < 64)
  | .orphan ch => decide (ch < 64)
  | .overflow ch _ => decide (ch < 64)
  | .resultHeadRead _ ch => decide (ch < 64)
  | .streamStamp ch _ _ => decide (ch < 64)
  | .streamRecal ch _ _ _ => decide (ch < 64)
  | .streamCoachTimeout ch => decide (ch < 64)
  | .coachGrant => true
  | .coachWritten q => decide (q < 96)
  | .qPop _ q => decide (q < 96)
  | .rdLo _ q => decide (q < 96)
  | .rdHi _ q => decide (q < 96)
  | .heldReadComplete q => decide (q < 96)
  | .flush _ q => decide (q < 96)
  | .flushDone q => decide (q < 96)
  | .qDisable _ q => decide (q < 96)
  | .mark _ q => decide (q < 96)
  | .rewind _ q => decide (q < 96)
  | .clrCounts _ q => decide (q < 96)
  | .clrPeak _ => true
  | .poolDebugWrite _ off _ => decide (0x40000 ≤ off) && decide (off < 0x60000) && (off % 4 == 0)
  | .coalesceStart => true
  | .coalesceBoundary => true
  | .syncInEdge _ => true
  | .todMessage _ => true
  | .alignWordSend link => decide (link < 16)
  | .alignWordReceive link _ _ _ => decide (link < 16)
  | .join _ => true
  | .leave _ => true
  | .joinTimeout => true
  | .tickStep => true
  | .sourceLost => true
  | .ejected => true
  | .peerLost link => decide (link < 16)
  | .cmpArm _ k => decide (k < 8)
  | .slotFired k => decide (k < 8)
  | .commitArm _ => true
  | .commit => true
  | .copy _ => true
  | .gtConfigWrite _ off _ => decide (0x05000 ≤ off) && decide (off < 0x06000)
  | .syncOutPulse => true
  | .hazardUpdate => true
  | .hazardUpdateEffect => true
  | .mapPortMessage logical gen => decide (logical < 256) && decide (gen < 65536)
  | .fence _ target _ => decide (target < 256)
  | .fenceDone => true
  | .adopt _ logical => decide (logical < 256)
  | .adopted => true
  | .adoptUndo => true
  | .unfence _ target => decide (target < 256)
  | .fenceReservedCmd _ target => decide (target < 256)
  | .feedNote _ code => decide (code < 16)
  | .partnerWrite _ k _ => decide (k < 4)
  | .snapAck _ => true
  | .stamp _ _ req => decide (req < 65536)
  | .add t => decide (t < 4)
  | .sub t => decide (t < 4)
  | .and t => decide (t < 4)
  | .or t => decide (t < 4)
  | .xor t => decide (t < 4)
  | .shl t => decide (t < 4)
  | .shr t => decide (t < 4)
  | .sra t => decide (t < 4)
  | .mul t => decide (t < 4)
  | .slt t => decide (t < 4)
  | .sltu t => decide (t < 4)
  | .addi t => decide (t < 4)
  | .andi t => decide (t < 4)
  | .ori t => decide (t < 4)
  | .xori t => decide (t < 4)
  | .shli t => decide (t < 4)
  | .shri t => decide (t < 4)
  | .srai t => decide (t < 4)
  | .lui t => decide (t < 4)
  | .slti t => decide (t < 4)
  | .beq t => decide (t < 4)
  | .bne t => decide (t < 4)
  | .blt t => decide (t < 4)
  | .bge t => decide (t < 4)
  | .bltu t => decide (t < 4)
  | .bgeu t => decide (t < 4)
  | .jal t => decide (t < 4)
  | .jalr t => decide (t < 4)
  | .rds t => decide (t < 4)
  | .ld t => decide (t < 4)
  | .st t => decide (t < 4)
  | .xchg t => decide (t < 4)
  | .ldk t => decide (t < 4)
  | .stk t => decide (t < 4)
  | .postedWrite _ => true
  | .rdt t => decide (t < 4)
  | .waitt t => decide (t < 4)
  | .waitr t => decide (t < 4)
  | .timedWaitEnd t => decide (t < 4)
  | .waite t => decide (t < 4)
  | .eventWaitEnd t => decide (t < 4)
  | .setev t => decide (t < 4)
  | .clrev t => decide (t < 4)
  | .dwait t => decide (t < 4)
  | .doorWaitEnd t => decide (t < 4)
  | .bcast t => decide (t < 4)
  | .bcastMessage _ r _ => decide (r < 208)
  | .armd t => decide (t < 4)
  | .armdLand t => decide (t < 4)
  | .push t => decide (t < 4)
  | .pushGrant t => decide (t < 4)
  | .pop t => decide (t < 4)
  | .tstart t => decide (t < 4)
  | .tstop t => decide (t < 4)
  | .halt t => decide (t < 4)
  | .illegalInstruction t => decide (t < 4)
  | .loadTimeout => true
  | .loadBegin _ => true
  | .imgData _ _ => true
  | .loadEnd _ => true
  | .loadVerifyDone => true
  | .loadAbort _ => true
  | .loadGapTimeout => true
  | .seqRestart _ mask => decide (mask < 16)
  | .seqStop _ mask => decide (mask < 16)
  | .submit _ len => decide (len < 16)
  | .cmdStatus t _ => decide (t < 4)
  | .cmdGearChange t _ => decide (t < 4)
  | .cmdGearAbort t _ => decide (t < 4)
  | .cmdRacg t _ => decide (t < 4)
  | .cmdCoupler t _ => decide (t < 4)
  | .cmdFence t _ => decide (t < 4)
  | .cmdAdopt t _ => decide (t < 4)
  | .cmdUnfence t _ => decide (t < 4)
  | .cmdMeasArm t _ _ => decide (t < 4)
  | .cmdMeasDisarm t _ => decide (t < 4)
  | .cmdGtJoin t _ => decide (t < 4)
  | .cmdGtLeave t _ => decide (t < 4)
  | .cmdSnapStamp t _ => decide (t < 4)
  | .cmdSnapAck t _ => decide (t < 4)
  | .cmdPartners t _ => decide (t < 4)
  | .cmdMalformed t => decide (t < 4)
  | .islandStart _ _ _ => true
  | .standbyLoss _ => true
  | .xtalOkChange _ => true
  | .islandSyncEdge _ => true
  | .islandTodMessage _ => true
  | .adcFrame _ => true
  | .adcFault _ => true
  | .adcRecovery => true
  | .mrefLost _ => true
  | .mrefReturn => true
  | .intervalClose _ => true
  | .recordHandover => true
  | .parameterBlock _ _ _ => true
  | .paramBlockTimeout => true
  | .mailboxPowerGood => true
  | .replayHandover => true
  | .mailboxCoach => true
  | .mailboxSlotRead _ k => decide (k < 32)
  | .coldReset _ => true
  | .coldResetEnd smbAddr feedStrap => decide (smbAddr < 8) && decide (feedStrap < 16)
  | .evtInAssert i => decide (i < 4)
  | .evtInDeassert i => decide (i < 4)
  | .read32 off => decide (off < 0x100000)
  | .write32 off _ _ => decide (off < 0x100000)
  | .readn off n => decide (off < 0x100000) && decide (n < 256)
  | .smbBadCommand code count => decide (code < 256) && decide (count < 256)
  | .smbTimeout => true
  | .verify _ => true
  | .verifyDone => true
  | .enterField _ => true
  | .lcEnd _ arg => decide (arg < 65536)
  | .keyInstall _ arg => decide (arg < 65536)
  | .revoke _ arg => decide (arg < 65536)
  | .raiseFloor _ arg => decide (arg < 65536)
  | .relock _ => true
  | .lcReservedCmd _ code => decide (code < 16)
  | .seal _ => true
  | .autoSeal => true
  | .transitionCommit => true
  | .unlockExpiry => true
  | .preferredRefWaitExpiry => true
  | .coldQualificationFail _ _ => true
  | .syncInEdgeMissing => true
  | .todMessageMissing => true
  | .islandSyncEdgeMissing => true
  | .islandAbsenceTimeout _ => true
  | .mailboxMirrorUpdate seconds fraction => decide (seconds < 2^40) && decide (fraction < 2^32)

end Sys2Proof
end

