-- ==== Sys2Proof/Safety.lean ====
section
/-! DEFINITION. What counts as a safe run: no step stops, and the memories keep their canonical form. And
the words in which statements say what a command leaves as it was. -/

namespace Sys2Proof.Machine

open Sys2Proof

/-- The memories of the block are in canonical form: the carts of the record pool (R248), the sequencer's
instruction and data memories and the ROM program's scratch memory (R340, R371). -/
def State.memoriesWf (s : State) : Bool :=
  Memory.wf 0 s.pool.carts && Memory.wf 0 s.seq.imem && Memory.wf 0 s.seq.dmem && Memory.wf 0 s.seq.scratch

/-- A step answers a next state. -/
def State.stepRuns (s : State) : Bool :=
  match step s with
  | .next _ => true
  | .fault _ => false
  | .refused _ => false

/-- The parts of the state, as statements about what a command leaves alone name them. -/
inductive Part where
  | pending | now | free | tick | glob | ref | regions | fc | doors | cpls | meas | pool | gt | hz | seq | cmd
  | island | mb | sb | lc | out
  deriving DecidableEq, Repr

/-- Two states agree on a part. -/
def Part.same (s t : State) : Part → Prop
  | .pending => t.pending = s.pending
  | .now => t.now = s.now
  | .free => t.freeIdx = s.freeIdx
  | .tick => t.tick = s.tick
  | .glob => t.glob = s.glob
  | .ref => t.ref = s.ref
  | .regions => t.regions = s.regions
  | .fc => t.fc = s.fc
  | .doors => t.doors = s.doors
  | .cpls => t.cpls = s.cpls
  | .meas => t.meas = s.meas
  | .pool => t.pool = s.pool
  | .gt => t.gt = s.gt
  | .hz => t.hz = s.hz
  | .seq => t.seq = s.seq
  | .cmd => t.cmd = s.cmd
  | .island => t.island = s.island
  | .mb => t.mb = s.mb
  | .sb => t.sb = s.sb
  | .lc => t.lc = s.lc
  | .out => t.out = s.out

/-- No part changes but those listed. -/
def Only (ps : List Part) (s t : State) : Prop := ∀ p, p ∉ ps → p.same s t

/-- The record pool changes at most by coaches formed, dropped or discarded (R249 to R261): coaches wait, the
drop reports, drop counts and RECORDS_LOST bits follow; no coach of a queue, no read buffer, no cart and no
other register of the pool changes. -/
def Told (s t : State) : Prop :=
  t.pool = { s.pool with
    queues := t.pool.queues, waiting := t.pool.waiting, reports := t.pool.reports, drops := t.pool.drops,
    unrouted := t.pool.unrouted }
  ∧ ∀ q, t.queue q = { s.queue q with drops := (t.queue q).drops, event := (t.queue q).event }

/-- No other region's page, coupler, channel, queue, door slot, link, hazard-monitor entry, task changes. -/
def RegionsBut (r : Nat) (s t : State) : Prop := ∀ x, x ≠ r → t.region x = s.region x
def CplsBut (i : Nat) (s t : State) : Prop := ∀ x, x ≠ i → t.cpl x = s.cpl x
def ChansBut (c : Nat) (s t : State) : Prop := ∀ x, x ≠ c → t.chan x = s.chan x
def QueuesBut (q : Nat) (s t : State) : Prop := ∀ x, x ≠ q → t.queue x = s.queue x
def SlotsBut (k : Nat) (s t : State) : Prop := ∀ x, x ≠ k → t.slot x = s.slot x
def LinksBut (l : Nat) (s t : State) : Prop := ∀ x, x ≠ l → t.link x = s.link x
def HzrsBut (r : Nat) (s t : State) : Prop := ∀ x, x ≠ r → t.hzr x = s.hzr x
def TasksBut (k : Nat) (s t : State) : Prop := ∀ x, x ≠ k → t.task x = s.task x

/-- What an operation on one region leaves alone: every other region, and every part but the regions, coaches
formed, the hazard monitor's entry of this region, and the model's count of free values. -/
def RegionFrame (r : Nat) (s t : State) : Prop :=
  Only [.regions, .hz, .pool, .free] s t ∧ Told s t ∧ RegionsBut r s t ∧ HzrsBut r s t
    ∧ t.hz = { s.hz with regions := t.hz.regions }

end Sys2Proof.Machine
end

