-- ==== Sys2Proof/Certificates/Slice0/Obligations.lean ====
section
/-! DEFINITION. The statements of the model, for the provers: one Prop each, under the rule of the spec it
formalises. Where a clause rests on a choice of the model its docstring says so and names the log entry. -/

open Sys2Proof Sys2Proof.Machine

/-- The command completes: exec answers a next state, and `P` holds of it. -/
def Completes (c : Instr) (s : State) (P : State → Prop) : Prop :=
  ∃ t, Sys2Proof.Machine.exec c s = .next t ∧ P t

/-- No cold reset is in force. -/
abbrev Live (s : State) : Prop := s.sb.inReset = false

/-- A part of the state with an index is `v` now, and its neighbours of the same kind are as before. -/
def RegionIs (r : Nat) (v : Region) (s t : State) : Prop := t.region r = v ∧ RegionsBut r s t

/-! ## References, roots and spine (chapter 02) -/

/-- What a command of the references leaves alone: every part but their own block, the hazard monitor's
marks of them, coaches formed. -/
def RefFrame (s t : State) : Prop :=
  Only [.ref, .hz, .pool] s t ∧ Told s t
    ∧ t.hz = { s.hz with rootBad := t.hz.rootBad, aRef := t.hz.aRef, aRoot := t.hz.aRoot,
                         reqNum := t.hz.reqNum, snapPend := t.hz.snapPend, causes := t.hz.causes,
                         event := t.hz.event }

/-- No switchover has been ordered in this die tick; one that has may be taken back within it (log entry 19). -/
abbrev NoOrderNow (s : State) : Prop := s.ref.switchDue ≠ some (s.now + 2)

/-- The block is `x`, with `bits` raised in REF_EVENT, up to what follows any change in the same die tick: the
watch channel's reference and its times (R53) and the waits of R66 and R68. The state of each reference, and
the roots, are those of `x`. -/
def RefFollows (x : RefRoot) (bits : Word) (t : State) : Prop :=
  t.ref = { x with refA := t.ref.refA, refB := t.ref.refB, rpa := t.ref.rpa, rpb := t.ref.rpb,
                   watchRef := t.ref.watchRef, revertSince := t.ref.revertSince,
                   switchDue := t.ref.switchDue, refEvent := x.refEvent ||| bits }
    ∧ (∀ f, (t.ref.input f).state = (x.input f).state) ∧ (∀ y, t.ref.pll y = x.pll y)

/-- Edges on an enabled input that is ABSENT put it in QUALIFYING and start its 1 ms; an enable bit of REF_CTL
takes the value written and no other bit changes; an input disabled goes to ABSENT where it is not the
reference of the running active root, and the loss of that one is another statement (R50, R83). -/
def ReferencePresence : Prop :=
  (∀ (f : Ref) (s : State), Live s → NoOrderNow s → s.ref.enabled f = true →
    (s.ref.input f).state = .absent →
    Completes (.refEdgesAppear f) s fun t => RefFrame s t
      ∧ RefFollows (s.ref.setInput f { s.ref.input f with
          state := .qualifying, edges := true, edgesAt := s.now, qualAt := s.now, winAt := s.now,
          passSince := none }) 0 t)
  ∧ (∀ (p : Path) (f : Ref) (en : Bool) (s : State), Live s → NoOrderNow s → s.mayWrite p 0x01000 = true →
    s.before p 0x01000 = none →
    (en = true ∨ s.ref.tickValid = false ∨ f ≠ s.ref.activeRef ∨ s.ref.activeRoot.state = .holdover) →
    Completes (.refEnable p f en) s fun t => RefFrame s t
      ∧ bit t.ref.refCtl (refNum f) = en
      ∧ (∀ i, i < 32 → i ≠ refNum f → bit t.ref.refCtl i = bit s.ref.refCtl i)
      ∧ (t.ref.input f).state = (if en then (s.ref.input f).state else .absent)
      ∧ (t.ref.input (otherRef f)).state = (s.ref.input (otherRef f)).state
      ∧ t.ref.refEvent = s.ref.refEvent ∧ t.ref.tickSrc = s.ref.tickSrc
      ∧ t.ref.tickValid = s.ref.tickValid)
  ∧ (∀ (f : Ref) (two : Bool) (s : State), Live s → NoOrderNow s → s.ref.tickValid = false →
    (s.ref.input f).state = .qualifying →
    Completes (.coldQualificationFail f two) s fun t => RefFrame s t
      ∧ (t.ref.input f).state = (if two then .absent else .qualifying)
      ∧ (two = false → (t.ref.input f).qualAt = s.now)
      ∧ t.ref.input (otherRef f) = s.ref.input (otherRef f) ∧ t.ref.refEvent = s.ref.refEvent)

/-- A window's figures pass: frequency, jitter, the largest deviation of a period and the duty cycle are within
WATCH_LIMITS, the jitter limit not below 3 ps (R52, R83). -/
def FiguresPass (s : State) (m : WatchFigures) : Prop :=
  m.freqPpm.natAbs ≤ fld s.ref.watchLimits 0 8 ∧ m.jitRms ≤ max 3 (fld s.ref.watchLimits 8 8)
    ∧ m.ppDevPs ≤ 4 * fld s.ref.watchLimits 16 8
    ∧ ((m.duty : Int) - 50).natAbs ≤ fld s.ref.watchLimits 24 4

/-- A test of one period fails (R52): its deviation, its duty cycle, or an edge that is missing. -/
def PeriodTestFails (s : State) : PeriodFail → Prop
  | .period devPs => 4 * fld s.ref.watchLimits 16 8 < devPs
  | .duty pct => fld s.ref.watchLimits 24 4 < ((pct : Int) - 50).natAbs
  | .missing _ => True

/-- The tests of the watch channel (R50, R52, R56, R463): a window's figures go into WATCH_RESULT; a failed test
puts the reference in QUALIFYING, with its DISQ bit where it was QUALIFIED; two missing edges put it in
ABSENT with its LOS bit. A period within its limits fails nothing. -/
def WatchChannelTests : Prop :=
  (∀ (m : WatchFigures) (s : State), Live s → NoOrderNow s → s.ref.tickValid = true →
    (s.ref.input s.ref.watchRef).state ≠ .absent → (s.ref.input s.ref.watchRef).winAt + 344064 ≤ s.now →
    Completes (.watchWindowEnd m) s fun t => RefFrame s t
      ∧ t.ref.watchResult = packW [(0, 8, min 255 m.jitRms), (8, 8, min 255 (m.ppDevPs / 4)),
          (16, 7, m.duty), (24, 8, twos 8 (max (-128) (min 127 m.freqPpm)))]
      ∧ (t.ref.input (otherRef s.ref.watchRef)).state = (s.ref.input (otherRef s.ref.watchRef)).state
      ∧ (FiguresPass s m →
          (t.ref.input s.ref.watchRef).state = (s.ref.input s.ref.watchRef).state
            ∧ t.ref.refEvent = s.ref.refEvent)
      ∧ (¬FiguresPass s m →
          (t.ref.input s.ref.watchRef).state = .qualifying
            ∧ t.ref.refEvent = s.ref.refEvent ||| (if (s.ref.input s.ref.watchRef).state = .qualified then
                disqBit s.ref.watchRef else 0)))
  ∧ (∀ (k : PeriodFail) (s : State), Live s → NoOrderNow s → s.ref.tickValid = true →
    (s.ref.input s.ref.watchRef).state ≠ .absent → PeriodTestFails s k →
    Completes (.watchPeriodFail k) s fun t => RefFrame s t
      ∧ (t.ref.input (otherRef s.ref.watchRef)).state = (s.ref.input (otherRef s.ref.watchRef)).state
      ∧ (k = .missing true → (t.ref.input s.ref.watchRef).state = .absent
          ∧ t.ref.refEvent = s.ref.refEvent ||| losBit s.ref.watchRef)
      ∧ (k ≠ .missing true → (t.ref.input s.ref.watchRef).state = .qualifying
          ∧ t.ref.refEvent = s.ref.refEvent ||| (if (s.ref.input s.ref.watchRef).state = .qualified then
              disqBit s.ref.watchRef else 0)))
  ∧ (∀ (k : PeriodFail) (s : State), ¬PeriodTestFails s k →
    Sys2Proof.Machine.exec (.watchPeriodFail k) s = .next s)

/-- A reference that has passed its 1 ms is QUALIFIED. Before the first root lock RPA acquires the preferred
reference at once, and the other waits up to 1 ms for it (R461); in HOLDOVER the active root takes the
reference up: ACTIVE within ±25 ps, the offset wrapped into ±20 ns (R63), else SLEW with PHASE_JUMP and
RESYNC_PENDING (R71, R73). -/
def QualificationCompletes : Prop :=
  (∀ (f : Ref) (m : WatchFigures) (phase : Int) (s : State), Live s → NoOrderNow s → s.ref.tickValid = false →
    (s.ref.input f).state = .qualifying → (s.ref.input f).qualAt + 525000 ≤ s.now →
    Completes (.qualificationComplete f m phase) s fun t => RefFrame s t
      ∧ (t.ref.input f).state = .qualified
      ∧ t.ref.input (otherRef f) = s.ref.input (otherRef f)
      ∧ (s.ref.rpa.state = .idle → f = s.ref.preferred →
          t.ref.rpa.state = .acquire ∧ t.ref.rpa.ref = f ∧ t.ref.rpa.acqAt = s.now)
      ∧ (s.ref.rpa.state = .idle → f ≠ s.ref.preferred →
          t.ref.prefWait = some (f, s.now) ∧ t.ref.rpa = s.ref.rpa)
      ∧ (s.ref.rpa.state ≠ .idle → t.ref.rpa = s.ref.rpa ∧ t.ref.prefWait = s.ref.prefWait)
      ∧ t.ref.rpb = s.ref.rpb ∧ t.ref.refEvent = s.ref.refEvent)
  ∧ (∀ (f : Ref) (m : WatchFigures) (phase : Int) (s : State), Live s → NoOrderNow s → s.ref.tickValid = true →
    s.ref.watchRef = f → FiguresPass s m →
    (s.ref.input f).state = .qualifying → (s.ref.input f).qualAt + 525000 ≤ s.now →
    Completes (.qualificationComplete f m phase) s fun t => RefFrame s t
      ∧ (t.ref.input f).state = .qualified
      ∧ (t.ref.input (otherRef f)).state = (s.ref.input (otherRef f)).state
      ∧ (s.ref.activeRoot.state ≠ .holdover → t.ref.pll s.ref.tickSrc = s.ref.activeRoot
          ∧ t.ref.refEvent = s.ref.refEvent)
      ∧ (s.ref.activeRoot.state = .holdover → (wrapPhase phase).natAbs ≤ 25 →
          (t.ref.pll s.ref.tickSrc).state = .active ∧ (t.ref.pll s.ref.tickSrc).ref = f
            ∧ t.ref.detPhase = true ∧ t.ref.resync = s.ref.resync ∧ t.ref.phaseOfs = wrapPhase phase
            ∧ t.ref.refEvent = s.ref.refEvent ||| oneBit 6)
      ∧ (s.ref.activeRoot.state = .holdover → 25 < (wrapPhase phase).natAbs →
          (t.ref.pll s.ref.tickSrc).state = .slew ∧ (t.ref.pll s.ref.tickSrc).ref = f
            ∧ t.ref.resync = true ∧ t.ref.phaseOfs = wrapPhase phase
            ∧ t.ref.refEvent = s.ref.refEvent ||| (oneBit 6 ||| oneBit 7)))
  ∧ (∀ (f : Ref) (at_ : Nat) (s : State), Live s → NoOrderNow s → s.ref.tickValid = false →
    s.ref.prefWait = some (f, at_) → at_ + 525000 ≤ s.now → s.ref.rpa.state = .idle →
    s.ref.qualified f = true →
    Completes .preferredRefWaitExpiry s fun t => RefFrame s t
      ∧ t.ref.rpa.state = .acquire ∧ t.ref.rpa.ref = f ∧ t.ref.rpa.acqAt = s.now ∧ t.ref.prefWait = none
      ∧ t.ref.rpb = s.ref.rpb ∧ (∀ g, t.ref.input g = s.ref.input g))

/-- A phase offset is measured into −20 ns to +20 ns: a whole number of 40 ns, the distance of two TICK multiples
of 21, is taken off (R63). -/
def PhaseOffsetIsWrapped : Prop :=
  ∀ ps : Int, (wrapPhase ps).natAbs ≤ 20000 ∧ ∃ k : Int, wrapPhase ps = ps + 40000 * k

/-- An edge after a single missing edge: the root unfreezes its control word and continues, no loss is
declared, MISS_ONE counts (R57). A root that is not locked to the reference stays as it is. -/
def SingleMissingEdge : Prop :=
  ∀ s : State, Live s → s.ref.tickValid = true → s.ref.missRun = 1 →
    Completes .missOne s fun t => Only [.ref, .hz] s t
      ∧ t.hz = { s.hz with aRef := min 65535 (s.hz.aRef + 16) }
      ∧ t.ref.missOne = min 0xFF (s.ref.missOne + 1) ∧ t.ref.missRun = 0
      ∧ (t.ref.pll s.ref.tickSrc).state = s.ref.activeRoot.state
      ∧ (t.ref.pll s.ref.tickSrc).ref = s.ref.activeRoot.ref
      ∧ (s.ref.onRef = true → (t.ref.pll s.ref.tickSrc).frozen = false)
      ∧ (∀ f, t.ref.input f = s.ref.input f) ∧ t.ref.refEvent = s.ref.refEvent
      ∧ t.ref.pll (otherRoot s.ref.tickSrc) = s.ref.standbyRoot ∧ t.ref.tickSrc = s.ref.tickSrc

/-- The missing-edge monitor watches the active reference (R54): the active root is locked to it, or (the model's
reading, log entry 19) is in FAULT or ACQUIRE while the reference is QUALIFIED. -/
abbrev ActiveRefWatched (s : State) : Prop :=
  s.ref.onRef = true ∨ (s.ref.activeRoot.state ≠ .holdover ∧ s.ref.qualified s.ref.activeRef = true)

/-- SW_REFUSED, where a FORCE_SWITCH of this die tick is turned away after all (R69, R76). -/
abbrev forcedBit (s : State) : Word := if s.ref.forcedAt = some s.now then oneBit 8 else 0

/-- Loss of the active reference (R56, R66, R67): the first window without an edge freezes the active root, the
second declares loss: LOS, the reference ABSENT, and either the standby takes over in two edges, or the
active root enters HOLDOVER. Disabling the active reference declares its loss as well (R83). -/
def LossOfTheActiveReference : Prop :=
  (∀ s : State, Live s → s.ref.tickValid = true → (s.ref.input s.ref.activeRef).state ≠ .absent →
    ActiveRefWatched s → s.ref.missRun = 0 →
    Completes .missingEdgeWindowClose s fun t => Only [.ref] s t
      ∧ (t.ref.pll s.ref.tickSrc).frozen = true
      ∧ (t.ref.pll s.ref.tickSrc).state = s.ref.activeRoot.state
      ∧ t.ref.missRun = 1 ∧ t.ref.refEvent = s.ref.refEvent ∧ (∀ f, t.ref.input f = s.ref.input f)
      ∧ t.ref.standbyRoot = s.ref.standbyRoot ∧ t.ref.tickSrc = s.ref.tickSrc)
  ∧ (∀ (c : Instr) (s : State), Live s → s.ref.tickValid = true →
    (s.ref.input s.ref.activeRef).state ≠ .absent → ActiveRefWatched s →
    (c = .missingEdgeWindowClose ∧ s.ref.missRun ≠ 0
      ∨ ∃ p, c = .refEnable p s.ref.activeRef false ∧ s.mayWrite p 0x01000 = true
          ∧ s.before p 0x01000 = none) →
    Completes c s fun t => RefFrame s t
      ∧ (t.ref.input s.ref.activeRef).state = .absent
      ∧ (t.ref.input (otherRef s.ref.activeRef)).state = (s.ref.input (otherRef s.ref.activeRef)).state
      ∧ t.ref.tickSrc = s.ref.tickSrc ∧ t.ref.tickValid = true
      ∧ (s.ref.eligible s.now = true → s.ref.standbyRoot.ref ≠ s.ref.activeRef →
          s.ref.watchRef = otherRef s.ref.activeRef → s.ref.switchDue = none →
          t.ref.switchDue = some (s.now + 2)
            ∧ t.ref.refEvent = s.ref.refEvent ||| (losBit s.ref.activeRef ||| forcedBit s))
      ∧ (¬(s.ref.eligible s.now = true ∧ s.ref.standbyRoot.ref ≠ s.ref.activeRef) → s.ref.onRef = true →
          s.ref.switchDue = none →
          (t.ref.pll s.ref.tickSrc).state = .holdover ∧ (t.ref.pll s.ref.tickSrc).frozen = true
            ∧ t.ref.detPhase = false ∧ t.ref.holdovers = min 0xFFFF (s.ref.holdovers + 1)
            ∧ t.ref.refEvent = s.ref.refEvent ||| (losBit s.ref.activeRef ||| (forcedBit s ||| oneBit 5))))

/-- Root PLLs (R58, R62, R64, R81, R461, R464): a lock comes within 400 µs, on a QUALIFIED reference; the first
one, within ±25 ps of it, gives the die tick, with TICK at 0 and the sequencer started; the other root's lock
makes it the STANDBY; a retried active root takes its reference up as R71 says; no lock within 400 µs, or a
root fault, is FAULT with its bit. -/
def RootsLockAndFault : Prop :=
  (∀ (x : Root) (res phase : Int) (s : State), Live s → NoOrderNow s → s.ref.tickValid = false →
    (s.ref.pll x).state = .acquire → s.ref.qualified (s.ref.pll x).ref = true →
    s.now ≤ (s.ref.pll x).acqAt + 210000 → (wrapPhase phase).natAbs ≤ 25 →
    Completes (.rootLock x res phase) s fun t =>
      Only [.ref, .hz, .pool, .tick, .seq] s t ∧ Told s t
      ∧ t.tick = 0 ∧ t.ref.tickValid = true ∧ t.ref.tickSrc = x ∧ (t.ref.pll x).state = .active
      ∧ t.ref.detPhase = true ∧ t.ref.phaseOfs = wrapPhase phase ∧ t.seq.mode = .loading
      ∧ (t.task 0).state = .ready ∧ (∀ k, k < 4 → k ≠ 0 → (t.task k).state = .stopped)
      ∧ t.seq.imem = s.seq.imem ∧ t.seq.dmem = s.seq.dmem ∧ t.seq.scratch = s.seq.scratch)
  ∧ (∀ (x : Root) (res phase : Int) (s : State), Live s → NoOrderNow s → s.ref.tickValid = true →
    (s.ref.pll x).state = .acquire → s.ref.qualified (s.ref.pll x).ref = true →
    s.now ≤ (s.ref.pll x).acqAt + 210000 → x = s.ref.tickSrc →
    Completes (.rootLock x res phase) s fun t => RefFrame s t
      ∧ (t.ref.pll x).state = (if (wrapPhase phase).natAbs ≤ 25 then .active else .slew)
      ∧ (t.ref.pll x).ref = (s.ref.pll x).ref ∧ t.ref.phaseOfs = wrapPhase phase
      ∧ t.ref.detPhase = decide ((wrapPhase phase).natAbs ≤ 25)
      ∧ t.ref.refEvent = s.ref.refEvent ||| (if (wrapPhase phase).natAbs ≤ 25 then 0 else oneBit 7))
  ∧ (∀ (x : Root) (res phase : Int) (s : State), Live s → NoOrderNow s → s.ref.tickValid = true →
    (s.ref.pll x).state = .acquire → s.ref.qualified (s.ref.pll x).ref = true →
    s.now ≤ (s.ref.pll x).acqAt + 210000 → x ≠ s.ref.tickSrc →
    Completes (.rootLock x res phase) s fun t => RefFrame s t
      ∧ (t.ref.pll x).state = .standby ∧ (t.ref.pll x).ref = (s.ref.pll x).ref ∧ t.ref.residual = res
      ∧ t.ref.activeRoot = s.ref.activeRoot ∧ t.ref.refEvent = s.ref.refEvent)
  ∧ (∀ (x : Root) (res phase : Int) (s : State),
    s.ref.qualified (s.ref.pll x).ref = false ∨ (s.ref.pll x).acqAt + 210000 < s.now →
    Sys2Proof.Machine.exec (.rootLock x res phase) s = .next s)
  ∧ (∀ (x : Root) (s : State), Live s → NoOrderNow s → (s.ref.pll x).state = .acquire →
    (s.ref.pll x).acqAt + 210000 ≤ s.now →
    Completes (.rootAcquireTimeout x) s fun t => RefFrame s t
      ∧ (t.ref.pll x).state = .fault ∧ t.ref.tickSrc = s.ref.tickSrc
      ∧ t.ref.refEvent = s.ref.refEvent ||| (match x with | .rpa => oneBit 11 | .rpb => oneBit 12))
  ∧ (∀ (x : Root) (s : State), Live s → NoOrderNow s →
    ((s.ref.pll x).state = .active ∨ (s.ref.pll x).state = .slew ∨ (s.ref.pll x).state = .standby) →
    Completes (.rootFault x) s fun t => RefFrame s t
      ∧ (t.ref.pll x).state = .fault ∧ (t.ref.pll x).frozen = true ∧ t.ref.tickSrc = s.ref.tickSrc
      ∧ t.ref.refEvent = s.ref.refEvent ||| (match x with | .rpa => oneBit 11 | .rpb => oneBit 12))
  ∧ (∀ (p : Path) (x : Root) (f : Ref) (s : State), Live s → NoOrderNow s → s.mayWrite p 0x0101C = true →
    s.ref.tickValid = true → x = s.ref.tickSrc → s.ref.activeRoot.state = .fault →
    (s.ref.qualified s.ref.preferred = true ∧ f = s.ref.preferred
      ∨ s.ref.qualified s.ref.preferred = false ∧ s.ref.qualified (otherRef s.ref.preferred) = true
        ∧ f = otherRef s.ref.preferred) →
    Completes (.retry p (x = .rpa) (x = .rpb)) s fun t => RefFrame s t
      ∧ (t.ref.pll x).state = .acquire ∧ (t.ref.pll x).ref = f ∧ (t.ref.pll x).acqAt = s.now
      ∧ t.ref.refEvent = s.ref.refEvent)

/-- A RETRY of a root that is not in FAULT, or for which no reference is QUALIFIED, sets SW_REFUSED and has no
other effect (R466). -/
def RetryRefused : Prop :=
  ∀ (p : Path) (x : Root) (s : State), Live s → s.mayWrite p 0x0101C = true →
    ((s.ref.pll x).state ≠ .fault
      ∨ s.ref.qualified .A = false ∧ s.ref.qualified .B = false) →
    Completes (.retry p (x = .rpa) (x = .rpb)) s fun t => RefFrame s t
      ∧ t.ref = { s.ref with refEvent := s.ref.refEvent ||| oneBit 8 }

/-- A write of 1 to FORCE_SWITCH performs a switchover under R66 if the standby is eligible; otherwise
SW_REFUSED is set and no state changes (R69). One that comes while a switchover is already under way is
refused as well (R76); and one is refused after all where the standby's reference is lost in the same die tick
(the model's reading of R76, log entry 19). -/
def ForceSwitchOrRefused : Prop :=
  (∀ (p : Path) (s : State), Live s → s.mayWrite p 0x01000 = true →
    s.ref.eligible s.now = true → s.ref.switchDue = none → s.ref.watchFix s.now = s.ref →
    Completes (.forceSwitch p) s fun t => RefFrame s t
      ∧ RefFollows { s.ref with switchDue := some (s.now + 2), forcedAt := some s.now } 0 t
      ∧ t.ref.switchDue = some (s.now + 2))
  ∧ (∀ (p : Path) (s : State), Live s → s.mayWrite p 0x01000 = true →
    ¬(s.ref.eligible s.now = true ∧ s.ref.switchDue = none) →
    Completes (.forceSwitch p) s fun t => RefFrame s t
      ∧ t.ref = { s.ref with refEvent := s.ref.refEvent ||| oneBit 8 })
  ∧ (∀ s : State, Live s → s.ref.tickValid = true → s.ref.forcedAt = some s.now →
    s.ref.switchDue = some (s.now + 2) → s.ref.onRef = true →
    (s.ref.input s.ref.activeRef).state ≠ .absent → s.ref.watchRef = otherRef s.ref.activeRef →
    s.ref.standbyRoot.ref = s.ref.watchRef → (s.ref.input s.ref.watchRef).state ≠ .absent →
    Completes (.watchPeriodFail (.missing true)) s fun t => RefFrame s t
      ∧ t.ref.switchDue = none ∧ t.ref.tickSrc = s.ref.tickSrc ∧ t.ref.activeRoot = s.ref.activeRoot
      ∧ t.ref.refEvent = s.ref.refEvent ||| (losBit s.ref.watchRef ||| oneBit 8))

/-- The watch channel stands where R53 has it after reset, and putting it there again changes nothing. -/
def WatchChannelStandsWhereItMust : Prop :=
  State.reset.ref.watchFix State.reset.now = State.reset.ref
  ∧ ∀ x : RefRoot, ∀ now : Nat, (x.watchFix now).watchFix now = x.watchFix now

/-- A switchover ordered two edges before hands the die tick to the standby root: SWITCHOVER, RESYNC_PENDING,
DET_PHASE 0 (R64, R66, R73). Where both references have gone meanwhile the root that takes over is in HOLDOVER
(R67). An order lapses where the standby has faulted or alone has lost its reference; an active root that has
lost its own then enters HOLDOVER (the model's reading of R66 and R67, log entry 19). The revertive one is
ordered once the preferred reference has been eligible for REVERT_HOLDOFF ms, 0 taken as 1 (R68, R83). The end
of a SLEW sets SLEW_DONE and DET_PHASE, no sooner than SLEW_PPM allows (R62, R72, R73). TICK is untouched by
all of them. -/
def SwitchoverAndSlew : Prop :=
  (∀ (phase : Int) (d : Nat) (s : State), Live s → s.ref.switchDue = some d → d ≤ s.now →
    s.ref.standbyRoot.state = .standby →
    (s.ref.qualified s.ref.standbyRoot.ref = true
      ∨ ¬(s.ref.onRef = true ∧ s.ref.qualified s.ref.activeRef = true)) →
    Completes (.switchover phase) s fun t => RefFrame s t
      ∧ t.ref.tickSrc = otherRoot s.ref.tickSrc
      ∧ (t.ref.pll (otherRoot s.ref.tickSrc)).state
          = (if s.ref.qualified s.ref.standbyRoot.ref = true then .active else .holdover)
      ∧ (t.ref.pll (otherRoot s.ref.tickSrc)).ref = s.ref.standbyRoot.ref
      ∧ (s.ref.activeRoot.state = .fault ∨ s.ref.activeRoot.state = .acquire →
          t.ref.pll s.ref.tickSrc = s.ref.activeRoot)
      ∧ (s.ref.activeRoot.state ≠ .fault → s.ref.activeRoot.state ≠ .acquire →
          (t.ref.pll s.ref.tickSrc).state = .standby ∧ (t.ref.pll s.ref.tickSrc).frozen = true)
      ∧ t.ref.resync = true ∧ t.ref.detPhase = false ∧ t.ref.phaseOfs = wrapPhase phase
      ∧ t.ref.switchovers = min 0xFFFF (s.ref.switchovers + 1)
      ∧ t.ref.refEvent = s.ref.refEvent
          ||| (oneBit 4 ||| (if s.ref.activeRoot.state = .holdover then oneBit 6 else 0)
            ||| (if s.ref.qualified s.ref.standbyRoot.ref = true then 0 else oneBit 5)))
  ∧ (∀ (phase : Int) (d : Nat) (s : State), Live s → s.ref.switchDue = some d → d ≤ s.now →
    (s.ref.standbyRoot.state ≠ .standby
      ∨ s.ref.qualified s.ref.standbyRoot.ref = false ∧ s.ref.onRef = true
        ∧ s.ref.qualified s.ref.activeRef = true) →
    Completes (.switchover phase) s fun t => RefFrame s t
      ∧ t.ref.tickSrc = s.ref.tickSrc ∧ t.ref.switchovers = s.ref.switchovers
      ∧ (s.ref.onRef = true → s.ref.qualified s.ref.activeRef = true →
          t.ref.activeRoot = s.ref.activeRoot ∧ t.ref.refEvent = s.ref.refEvent)
      ∧ (s.ref.onRef = true → s.ref.qualified s.ref.activeRef = false →
          t.ref.activeRoot.state = .holdover ∧ t.ref.refEvent = s.ref.refEvent ||| oneBit 5))
  ∧ (∀ (since : Nat) (s : State), Live s → bit s.ref.refCtl 3 = true → s.ref.eligible s.now = true →
    s.ref.switchDue = none → s.ref.revertSince = some since → s.ref.watchFix s.now = s.ref →
    since + max 1 (fld s.ref.refCtl 8 8) * 525000 ≤ s.now →
    Completes .revertiveSwitchover s fun t => RefFrame s t
      ∧ RefFollows { s.ref with switchDue := some (s.now + 2) } 0 t ∧ t.ref.switchDue = some (s.now + 2))
  ∧ (∀ (phase : Int) (s : State), Live s → NoOrderNow s → s.ref.activeRoot.state = .slew →
    (wrapPhase phase).natAbs ≤ 25 → 525 * (s.ref.phaseOfs - wrapPhase phase).natAbs ≤ s.ref.slewRoom →
    Completes (.slewDone phase) s fun t => RefFrame s t
      ∧ (t.ref.pll s.ref.tickSrc).state = .active ∧ t.ref.detPhase = true ∧ t.ref.phaseOfs = wrapPhase phase
      ∧ t.ref.tickSrc = s.ref.tickSrc ∧ t.ref.refEvent = s.ref.refEvent ||| oneBit 13)

/-- The messages still on their way that a swap of segment `seg` finds: one arm or cancel message of a slot, one
broadcast, to a tap of that segment (R79). -/
def OnItsWay (seg : Nat) (s : State) : CtlMsg → Prop
  | .arm k r => r / 8 = seg ∧ (s.slot k).armOut.getLsbD r = true
  | .cancel k r => r / 8 = seg ∧ (s.slot k).canOut.getLsbD r = true
  | .bcast n r => r / 8 = seg ∧ ∃ b, s.seq.bcasts[n]? = some b ∧ b.set.getLsbD r = true

/-- The message is gone and no other one is. -/
def MessageCut (s t : State) : CtlMsg → Prop
  | .arm k r => t.seq = s.seq ∧ SlotsBut k s t
      ∧ t.slot k = { s.slot k with armOut := (s.slot k).armOut &&& ~~~setOne r }
  | .cancel k r => t.seq = s.seq ∧ SlotsBut k s t
      ∧ t.slot k = { s.slot k with canOut := (s.slot k).canOut &&& ~~~setOne r }
  | .bcast n r => t.doors = s.doors
      ∧ t.seq = { s.seq with bcasts := t.seq.bcasts }
      ∧ (∀ b, s.seq.bcasts[n]? = some b →
          t.seq.bcasts = s.seq.bcasts.set n { b with set := b.set &&& ~~~setOne r })

/-- A failed spine segment is taken over by the spare trunk of its half where that is free and sound: SEG_SWAP,
and each control message on its way there that is cut is discarded and counted (R77, R79); where not, it is
dead: SEG_DEAD and its bit of SEG_FAILED (R80). A spare trunk that fails leaves the segment it carries dead
(R462). -/
def SpineSegments : Prop :=
  (∀ (seg : Nat) (cut : List CtlMsg) (s : State), Live s → NoOrderNow s → seg < 26 → s.ref.tickValid = true →
    bit s.ref.segFailed seg = false → s.ref.spareSeg (segHalf seg) = none →
    s.ref.spareFail (segHalf seg) = false →
    Completes (.segSwap seg cut) s fun t =>
      Only [.ref, .hz, .pool, .doors, .seq] s t ∧ Told s t
      ∧ t.ref.spareSeg (segHalf seg) = some seg ∧ t.ref.segFailed = s.ref.segFailed
      ∧ t.ref.refEvent = s.ref.refEvent ||| oneBit 9
      ∧ (cut = [] → RefFrame s t ∧ RefFollows (s.ref.setSpareSeg (segHalf seg) (some seg)) (oneBit 9) t)
      ∧ (∀ m, cut = [m] → OnItsWay seg s m →
          RefFollows { s.ref.setSpareSeg (segHalf seg) (some seg) with
            ctlLost := min 0xFFFF (s.ref.ctlLost + 1) } (oneBit 9) t ∧ MessageCut s t m)
      ∧ (∀ m, cut = [m] → ¬OnItsWay seg s m →
          RefFrame s t ∧ RefFollows (s.ref.setSpareSeg (segHalf seg) (some seg)) (oneBit 9) t))
  ∧ (∀ (seg : Nat) (cut : List CtlMsg) (s : State), Live s → NoOrderNow s → seg < 26 → s.ref.tickValid = true →
    bit s.ref.segFailed seg = false → s.ref.spareSeg (segHalf seg) ≠ some seg →
    ¬(s.ref.spareSeg (segHalf seg) = none ∧ s.ref.spareFail (segHalf seg) = false) →
    Completes (.segSwap seg cut) s fun t => RefFrame s t
      ∧ RefFollows { s.ref with segFailed := s.ref.segFailed ||| oneBit seg,
                                deadAt := tput s.ref.deadAt seg s.now } (oneBit 10) t)
  ∧ (∀ (half : Nat) (s : State), Live s → NoOrderNow s → half < 2 → s.ref.tickValid = true →
    s.ref.spareFail half = false →
    Completes (.spareTrunkFail half) s fun t => RefFrame s t
      ∧ t.ref.spareFail half = true ∧ t.ref.spareSeg half = none
      ∧ t.ref.spareSeg (1 - half) = s.ref.spareSeg (1 - half)
      ∧ t.ref.spareFail (1 - half) = s.ref.spareFail (1 - half)
      ∧ t.ref.segFailed = (match s.ref.spareSeg half with
          | some seg => s.ref.segFailed ||| oneBit seg
          | none => s.ref.segFailed)
      ∧ t.ref.refEvent = s.ref.refEvent ||| (if s.ref.spareSeg half = none then 0 else oneBit 10))

/-! ## Regional generators (chapter 03) -/

/-- Generator of a region. -/
abbrev gen (s : State) (r : Nat) : Racg := (s.region r).racg

/-- No hardware event of the region is due in this die tick that a command written in it would come after: neither
its armed door nor its lock (R125). -/
abbrev NothingDue (r : Nat) (s : State) : Prop := s.doorDue r = false ∧ (gen s r).lockDue s.now = false

/-- A write of RACG_CMD by this path reaches region `r` and is carried out. -/
abbrev CmdReaches (p : Path) (r : Nat) (s : State) : Prop :=
  Live s ∧ r < 208 ∧ s.mayWrite p (regionPage r + 0x04) = true ∧ NothingDue r s

/-- An acquisition starts (R97): ACQUIRE at the gear, RATIO at 32 × N, DCW at the ceiling less ACQ_BACKOFF or 0;
the calibration is void (R148). The ceiling is that of the gear, but for a CEIL_TBL written in this die tick
(R92). -/
def AcquisitionStarts (r gear : Nat) (dco : Bool) (s t : State) : Prop :=
  (gen t r).state = .acquire ∧ (gen t r).gear = gear ∧ (gen t r).dcoSel = dco
    ∧ (gen t r).ratio = 32 * s.gearN gear ∧ (gen t r).moving = false ∧ (gen t r).acqAt = s.now
    ∧ (gen t r).dcw = (t.region r).ceil - fld (s.region r).regs.acqCfg 0 12
    ∧ ((s.region r).regs.was = [] → (t.region r).ceil = (s.region r).ceilField dco gear)
    ∧ (gen t r).shutter = (gen s r).shutter ∧ (gen t r).armed = (gen s r).armed
    ∧ (t.region r).regs.acqCount = min 0xFFFF ((s.region r).regs.acqCount + 1)
    ∧ (t.region r).cal.valid = false
    ∧ bit (t.region r).droop.event 3 = (bit (s.region r).droop.event 3 || (s.region r).cal.valid)
    ∧ (t.region r).regs.event = (s.region r).regs.event

/-- Each command of R96 that its state and condition allow has the effect of its row; START comes after the die
tick and the sequencer of the readiness order (R31). The last: behind a clock that stands CLOSE completes at
once (R333). -/
def RacgCommandsCarriedOut : Prop :=
  ∀ (p : Path) (r : Nat) (s : State), CmdReaches p r s →
    (∀ gear, gear < 16 → (gen s r).refLost = false → s.ref.tickValid = true → s.seq.ready = true →
      (gen s r).state = .off → s.gearValid gear = true →
      (s.region r).ceilField (gen s r).dcoSel gear ≠ 0 →
      Completes (.racgStart p r gear) s fun t => RegionFrame r s t
        ∧ AcquisitionStarts r gear (gen s r).dcoSel s t)
    ∧ ((gen s r).state ≠ .off → (gen s r).shutter = false → (gen s r).armed = false →
      Completes (.racgStop p r) s fun t => RegionFrame r s t
        ∧ (gen t r).state = .off ∧ (gen t r).gear = (gen s r).gear ∧ (gen t r).dcoSel = (gen s r).dcoSel
        ∧ (gen t r).outSwitch = (gen s r).outSwitch.filter (·.enter)
        ∧ (gen t r).swapping = (gen s r).swapping
        ∧ (gen t r).moving = false ∧ (t.region r).droop.episode = none
        ∧ (t.hzr r).h = (if (s.hzr r).fenced then (s.hzr r).h else 0)
        ∧ ((s.hzr r).fenced = false → (t.hzr r).next = none)
        ∧ (t.region r).regs.event = (s.region r).regs.event)
    ∧ (∀ gear, gear < 16 → (gen s r).refLost = false → (gen s r).state = .bypass → s.gearValid gear = true →
      (s.region r).ceilField (gen s r).dcoSel gear ≠ 0 → (gen s r).armed = false →
      Completes (.racgAcquire p r gear) s fun t => RegionFrame r s t
        ∧ AcquisitionStarts r gear (gen s r).dcoSel s t)
    ∧ ((gen s r).refLost = false → s.frozen p = false →
      ((gen s r).state = .ready ∨ (gen s r).state = .locked ∨ (gen s r).state = .bypass) →
      (s.region r).ceilField (!(gen s r).dcoSel) (gen s r).gear ≠ 0 → (gen s r).armed = false →
      Completes (.racgSwap p r) s fun t => RegionFrame r s t
        ∧ AcquisitionStarts r (gen s r).gear (!(gen s r).dcoSel) s t ∧ (gen t r).swapping = true
        ∧ (t.region r).regs.measRun = none
        ∧ ((s.region r).regs.measRun.isSome = true → (t.region r).regs.measValid = false)
        ∧ ((gen s r).state = .locked → (gen t r).outSwitch = some { toDco := false, due := s.now + 2 }))
    ∧ ((gen s r).refLost = false → (gen s r).state = .ready → (s.region r).cal.valid = true →
      Completes (.racgReturn p r) s fun t => RegionFrame r s t
        ∧ gen t r = { gen s r with outSwitch := some { toDco := true, due := s.now + 2 } }
        ∧ (t.region r).regs = (s.region r).regs)
    ∧ ((gen s r).refLost = false →
      ((gen s r).state = .acquire ∨ (gen s r).state = .ready ∨ (gen s r).state = .locked
        ∨ (gen s r).state = .ramp) →
      Completes (.toBypass p r) s fun t => RegionFrame r s t
        ∧ (gen t r).state = .bypass ∧ (gen t r).gear = (gen s r).gear ∧ (gen t r).moving = false
        ∧ (gen t r).ceilGear = (gen s r).gear
        ∧ (gen t r).shutter = (gen s r).shutter ∧ (gen t r).armed = (gen s r).armed
        ∧ ((gen s r).state = .locked ∨ (gen s r).state = .ramp →
            (gen t r).outSwitch = some { toDco := false, due := s.now + 2, enter := true }
              ∧ (t.region r).regs.event = (s.region r).regs.event)
        ∧ ((gen s r).state = .acquire ∨ (gen s r).state = .ready → (gen s r).outSwitch = none →
            (gen t r).outSwitch = none ∧ (t.region r).regs.event = (s.region r).regs.event ||| oneBit 3))
    ∧ ((gen s r).refLost = false → (gen s r).state ≠ .off → (gen s r).shutter = false →
      (s.region r).cal.valid = true →
      Completes (.racgOpen p r) s fun t => RegionFrame r s t
        ∧ gen t r = { gen s r with shutterTo := some true } ∧ (t.region r).regs = (s.region r).regs)
    ∧ ((gen s r).shutter = true → (gen s r).stopped = false →
      Completes (.racgClose p r) s fun t => RegionFrame r s t
        ∧ gen t r = { gen s r with shutterTo := some false } ∧ (t.region r).regs = (s.region r).regs)
    ∧ ((gen s r).shutter = true → (gen s r).stopped = true →
      Completes (.racgClose p r) s fun t => Only [.regions, .hz, .pool, .fc] s t ∧ Told s t
        ∧ RegionsBut r s t ∧ (gen t r).shutter = false ∧ (gen t r).shutterTo = none
        ∧ (gen t r).gear = (gen s r).gear ∧ (t.region r).regs = (s.region r).regs)

/-- A command written in the die tick of its region's door is judged after the door (R125). -/
def DueDoorComesFirst : Prop :=
  ∀ (p : Path) (r : Nat) (c : Instr) (s t : State), Live s → r < 208 → s.doorDue r = true →
    s.mayWrite p (regionPage r + 0x04) = true →
    (c = .racgStop p r ∨ c = .racgSwap p r ∨ c = .racgReturn p r ∨ c = .toBypass p r ∨ c = .racgOpen p r
      ∨ c = .racgClose p r ∨ (∃ gear, c = .racgStart p r gear) ∨ (∃ gear, c = .racgAcquire p r gear)) →
    s.frozen p = false →
    Sys2Proof.Machine.exec (.doorTaken r) s = .next t →
    Sys2Proof.Machine.exec c s = Sys2Proof.Machine.exec c t

/-- The commands that R96 refuses; `cal` says that the refusal is for lack of calibration. While the die tick
is lost only STOP and CLOSE are judged at all (R123). -/
def RacgRefused (p : Path) (r : Nat) (s : State) (c : Instr) (cal : Bool) : Prop :=
  let x := s.region r
  let g := x.racg
  (g.refLost = false ∧
    ((∃ gear, gear < 16 ∧ c = .racgStart p r gear ∧ cal = false ∧
        ¬(s.ref.tickValid = true ∧ s.seq.ready = true ∧ g.state = .off ∧ s.gearValid gear = true
          ∧ x.ceilField g.dcoSel gear ≠ 0))
    ∨ (∃ gear, gear < 16 ∧ c = .racgAcquire p r gear ∧ cal = false ∧
        ¬(g.state = .bypass ∧ g.armed = false ∧ s.gearValid gear = true
          ∧ x.ceilField g.dcoSel gear ≠ 0))
    ∨ (c = .racgSwap p r ∧ cal = false ∧ s.frozen p = false ∧
        ¬((g.state = .ready ∨ g.state = .locked ∨ g.state = .bypass) ∧ g.armed = false
          ∧ x.ceilField (!g.dcoSel) g.gear ≠ 0))
    ∨ (c = .racgReturn p r ∧ cal = false ∧ g.state ≠ .ready)
    ∨ (c = .racgReturn p r ∧ cal = true ∧ g.state = .ready ∧ x.cal.valid = false)
    ∨ (c = .toBypass p r ∧ cal = false ∧
        (g.state = .off ∨ g.state = .bypass ∨ g.state = .hold))
    ∨ (c = .racgOpen p r ∧ cal = false ∧ ¬(g.state ≠ .off ∧ g.shutter = false))
    ∨ (c = .racgOpen p r ∧ cal = true ∧ g.state ≠ .off ∧ g.shutter = false ∧ x.cal.valid = false)
    ∨ (∃ code, 9 ≤ code ∧ code ≤ 15 ∧ c = .racgReservedCmd p r code ∧ cal = false)))
  ∨ (c = .racgStop p r ∧ cal = false ∧ ¬(g.state ≠ .off ∧ g.shutter = false ∧ g.armed = false))
  ∨ (c = .racgClose p r ∧ cal = false ∧ g.shutter = false)

/-- A command written in a state not listed for it, or refused by its condition, sets CMD_REFUSED and has no
other effect; a refusal for lack of calibration also sets CAL_REFUSED (R96). A LIVE probe window that R144
does not let go on (none is found so in a run) ends with any operation of the region. The host's SWAP is
without effect while the sequencer is halted (R30; the model's reading, log entry 20). -/
def RacgCommandsRefused : Prop :=
  (∀ (p : Path) (r : Nat) (c : Instr) (cal : Bool) (s : State), CmdReaches p r s → RacgRefused p r s c cal →
    Completes c s fun t => Only [.regions, .pool] s t ∧ Told s t ∧ RegionsBut r s t
      ∧ gen t r = gen s r ∧ (t.region r).thermal = (s.region r).thermal
      ∧ (t.region r).regs = { (s.region r).regs with
          event := (s.region r).regs.event ||| (oneBit 8 ||| if cal then oneBit 12 else 0) }
      ∧ ((s.region r).liveCut = none →
          (t.region r).cal = (s.region r).cal ∧ (t.region r).droop = (s.region r).droop
            ∧ (t.region r).ledger = (s.region r).ledger ∧ (t.region r).phase = (s.region r).phase))
  ∧ (∀ (p : Path) (r : Nat) (s : State), r < 208 → s.mayWrite p (regionPage r + 0x04) = true →
    s.frozen p = true → Sys2Proof.Machine.exec (.racgSwap p r) s = .next s)

/-- A condition of R101 holds in this die tick: a phase error above LOL_PHASE, 0 taken as 1, for LOL_COUNT tk, 0
taken as 1, all since lock; a count of cycles in 8 tk more than one from RATIO / 32; no DCO edge. -/
def LockIsLost (r : Nat) (s : State) : LolCause → Prop
  | .phase err tk => max 1 (fld (s.region r).loopNow 0 6) < err ∧ max 1 (fld (s.region r).loopNow 8 5) ≤ tk
      ∧ (gen s r).lockAt + tk ≤ s.now + 1
  | .cycles n => 32 < ((32 * n : Int) - (gen s r).ratio).natAbs ∧ (gen s r).lockAt + 8 ≤ s.now
  | .noEdge => (gen s r).lockAt < s.now

/-- Lock, its failure, loss of lock, output switches, CEIL_LIMITED (R93, R94, R97, R98, R101, R103, R116). The
selector's position after a lock is a free value below 64 (log entry 3); an acquisition fails where its DCW,
free within the ceiling (log entry 24), has stood at the ceiling for the last 1,024 tk. -/
def LockAndOutputSwitches : Prop :=
  ∀ (r : Nat) (s : State), Live s → r < 208 →
    (∀ dcw, (gen s r).state = .acquire → (gen s r).acqAt + 4096 ≤ s.now → (gen s r).acqClamped r = false →
      Completes (.lock r dcw) s fun t => RegionFrame r s t
        ∧ (gen t r).state = (if (gen s r).shutter then .ready else .locked)
        ∧ (gen t r).outSwitch = (if (gen s r).shutter then (gen s r).outSwitch
            else some { toDco := true, due := s.now + 2 })
        ∧ (gen t r).dcw = min dcw (s.region r).ceil ∧ (gen t r).gear = (gen s r).gear
        ∧ (t.region r).phase.pos < 64
        ∧ (t.region r).regs.event = (s.region r).regs.event ||| (oneBit 0
            ||| if (gen s r).shutter = false ∧ (gen s r).swapping = true then oneBit 10 else 0))
    ∧ (∀ dcw, (gen s r).state = .acquire → (gen s r).acqAt + 4096 ≤ s.now → (gen s r).acqClamped r = true →
      (gen s r).outSwitch = none →
      Completes (.lock r dcw) s fun t => RegionFrame r s t
        ∧ (gen t r).state = .bypass ∧ (gen t r).shutter = (gen s r).shutter
        ∧ (t.region r).regs.event = (s.region r).regs.event ||| (oneBit 1 ||| oneBit 3))
    ∧ (∀ c, ((gen s r).state = .ready ∨ (gen s r).state = .locked ∨ (gen s r).state = .ramp) →
      (gen s r).refLost = false → s.tickLost r = false → LockIsLost r s c →
      Completes (.lossOfLock r c) s fun t => RegionFrame r s t
        ∧ (gen t r).state = .bypass ∧ (gen t r).shutter = (gen s r).shutter
        ∧ (gen t r).gear = (gen s r).gear ∧ (gen t r).moving = false
        ∧ (t.region r).regs.lolCount = min 0xFFFF ((s.region r).regs.lolCount + 1)
        ∧ ((gen s r).state ≠ .ready →
            (gen t r).outSwitch = some { toDco := false, due := s.now + 2, enter := true }
              ∧ (t.region r).regs.event = (s.region r).regs.event ||| oneBit 2)
        ∧ ((gen s r).state = .ready → (gen s r).outSwitch = none →
            (t.region r).regs.event = (s.region r).regs.event ||| (oneBit 2 ||| oneBit 3)))
    ∧ (∀ c, ¬LockIsLost r s c → Sys2Proof.Machine.exec (.lossOfLock r c) s = .next s)
    ∧ (∀ due enter, (gen s r).outSwitch = some { toDco := false, due := due, enter := enter } → due ≤ s.now →
      Completes (.outputSwitchComplete r) s fun t => RegionFrame r s t
        ∧ gen t r = { gen s r with outSwitch := none }
        ∧ (t.region r).regs.event = (s.region r).regs.event ||| (if enter then oneBit 3 else 0))
    ∧ (∀ due enter, (gen s r).outSwitch = some { toDco := true, due := due, enter := enter } → due ≤ s.now →
      Completes (.outputSwitchComplete r) s fun t => RegionFrame r s t
        ∧ (gen t r).outSwitch = none ∧ (gen t r).swapping = false
        ∧ (gen t r).state = (if (gen s r).state = .ready then
            (if (gen s r).moving then .ramp else .locked) else (gen s r).state)
        ∧ (t.region r).regs.event = (s.region r).regs.event
            ||| (if (gen s r).swapping then oneBit 10 else 0))
    ∧ (∀ since, ((gen s r).state = .locked ∨ (gen s r).state = .ramp) →
      (s.region r).margin.told = false → (s.region r).margin.since = some since →
      since + 8 * max 1 (fld (s.region r).loopNow 16 8) ≤ s.now →
      Completes (.ceilLimited r) s fun t => RegionFrame r s t
        ∧ gen t r = gen s r ∧ (t.region r).margin = { (s.region r).margin with told := true }
        ∧ (t.region r).regs.event = (s.region r).regs.event ||| oneBit 4)

/-- The timer of CEIL_LIMITED runs from the die tick in which DCW came to equal the ceiling in LOCKED or RAMP, and
no further once they differ (R93). -/
def CeilingTimer : Prop :=
  ∀ (x : Region) (now : Nat),
    ((x.racg.state = .locked ∨ x.racg.state = .ramp) → x.racg.dcw = x.ceil →
      (x.noteMargin now).margin.since = some (x.margin.since.getD now))
    ∧ (¬((x.racg.state = .locked ∨ x.racg.state = .ramp) ∧ x.racg.dcw = x.ceil) →
      (x.noteMargin now).margin.since = none ∧ (x.noteMargin now).margin.told = false)

/-- An RACG acknowledges an arming only in READY, LOCKED or BYPASS, with ARMED 0 and a ceiling for the target
gear; otherwise it sets ARM_REFUSED and does not acknowledge; on acknowledging it sets ARMED and records the
target gear (R106). -/
def ArmingAcknowledgedOrRefused : Prop :=
  ∀ (k r : Nat) (s : State), Live s → k < 4 → r < 208 → (s.slot k).armOut.getLsbD r = true →
    (s.slot k).goAt + 2 ≤ s.now → (gen s r).refLost = false →
    Completes (.armMessage k r) s fun t => Only [.regions, .doors, .hz, .pool] s t ∧ Told s t
      ∧ RegionsBut r s t ∧ SlotsBut k s t
      ∧ (t.slot k).armOut.getLsbD r = false
      ∧ (((gen s r).state = .ready ∨ (gen s r).state = .locked ∨ (gen s r).state = .bypass)
          ∧ (gen s r).armed = false
          ∧ (s.region r).ceilField (gen s r).dcoSel (s.slot k).target ≠ 0 →
          gen t r = { gen s r with armed := true, armGear := (s.slot k).target,
                                   armDoor := (s.slot k).door, armSlot := k,
                                   armFlag := (s.slot k).flagged }
            ∧ (t.slot k).ackOut.getLsbD r = true
            ∧ (t.region r).regs.event = (s.region r).regs.event)
      ∧ (¬(((gen s r).state = .ready ∨ (gen s r).state = .locked ∨ (gen s r).state = .bypass)
          ∧ (gen s r).armed = false
          ∧ (s.region r).ceilField (gen s r).dcoSel (s.slot k).target ≠ 0) →
          gen t r = gen s r ∧ (t.slot k).ackOut = (s.slot k).ackOut
            ∧ (t.region r).regs.event = (s.region r).regs.event ||| oneBit 7)

/-- Doors, ramps and the ceiling table (R90 to R92, R106 to R109, R148): what the generator does when TICK reaches
its armed door, in each state; each step of a ramp; a write of CEIL_TBL, whose effect on DCW comes with the
next die tick. -/
def DoorsAndRamps : Prop :=
  ∀ (r : Nat) (s : State), Live s → r < 208 →
    ((gen s r).armed = true → (gen s r).refLost = false → (gen s r).armDoor.toNat ≤ s.tick.toNat →
      Completes (.doorTaken r) s fun t =>
        Only [.regions, .hz, .pool, .doors, .ref] s t ∧ Told s t ∧ RegionsBut r s t
        ∧ SlotsBut (gen s r).armSlot s t
        ∧ (gen t r).armed = false ∧ (gen t r).shutter = (gen s r).shutter
        ∧ ((gen s r).state = .off ∨ (gen s r).state = .acquire ∨ (gen s r).state = .hold →
            (gen t r).state = (gen s r).state ∧ (gen t r).gear = (gen s r).gear
              ∧ (t.region r).regs.event = (s.region r).regs.event)
        ∧ ((gen s r).state = .ready ∨ (gen s r).state = .locked ∨ (gen s r).state = .bypass →
            (gen t r).gear = (gen s r).armGear
              ∧ (t.region r).regs.event = (s.region r).regs.event ||| oneBit 5
              ∧ ((gen s r).gear ≠ (gen s r).armGear → (t.region r).cal.valid = false))
        ∧ ((gen s r).state = .bypass → (gen t r).state = .bypass ∧ (gen t r).ratio = (gen s r).ratio
            ∧ (gen t r).moving = (gen s r).moving)
        ∧ ((gen s r).state = .ready ∨ (gen s r).state = .locked →
            s.gearN (gen s r).gear = s.gearN (gen s r).armGear →
            (gen t r).state = (gen s r).state ∧ (gen t r).ratio = (gen s r).ratio
              ∧ (gen t r).moving = (gen s r).moving ∧ (gen t r).ceilGear = (gen s r).armGear)
        ∧ ((gen s r).state = .ready ∨ (gen s r).state = .locked →
            s.gearN (gen s r).gear ≠ s.gearN (gen s r).armGear →
            (gen t r).state = (if (gen s r).state = .locked then .ramp else .ready)
              ∧ (gen t r).moving = true ∧ (gen t r).ratio = (gen s r).ratio
              ∧ (gen t r).ratioTo = 32 * s.gearN (gen s r).armGear
              ∧ (gen t r).rampDoor = (gen s r).armDoor ∧ (gen t r).rampSteps = 0
              ∧ (gen t r).ceilGear = (if s.gearN (gen s r).armGear < s.gearN (gen s r).gear
                  then (gen s r).gear else (gen s r).armGear)))
    ∧ (∀ dcw, (gen s r).moving = true → ((gen s r).state = .ramp ∨ (gen s r).state = .ready) →
      (gen s r).rampDoor.toNat + 8 * ((gen s r).rampSteps + 1) ≤ s.tick.toNat →
      Completes (.rampStep r dcw) s fun t => RegionFrame r s t
        ∧ (gen t r).ratio = (if (gen s r).ratio < (gen s r).ratioTo then (gen s r).ratio + 1
            else (gen s r).ratio - 1)
        ∧ (gen t r).rampSteps = (gen s r).rampSteps + 1 ∧ (gen t r).gear = (gen s r).gear
        ∧ (gen t r).dcw = min dcw (s.region r).ceil
        ∧ ((gen t r).ratio = (gen s r).ratioTo → (gen t r).moving = false
            ∧ (gen t r).state = (if (gen s r).state = .ramp then .locked else .ready)
            ∧ (gen t r).ceilGear = (gen s r).gear
            ∧ (t.region r).regs.event = (s.region r).regs.event ||| oneBit 6)
        ∧ ((gen t r).ratio ≠ (gen s r).ratioTo → (gen t r).moving = true
            ∧ (gen t r).state = (gen s r).state
            ∧ (t.region r).regs.event = (s.region r).regs.event))
    ∧ (∀ p g v, g < 16 → s.mayWrite p (regionPage r + (0x40 + 4 * g)) = true →
      s.before p (regionPage r + (0x40 + 4 * g)) = none → (gen s r).refLost = false →
      Completes (.ceilTblWrite p r g v) s fun t => Only [.regions] s t ∧ RegionsBut r s t
        ∧ (∀ h, h ≠ g → tget 0 (t.region r).regs.ceilTbl h = tget 0 (s.region r).regs.ceilTbl h)
        ∧ (t.region r).ceilField false g = fld v 0 14 ∧ (t.region r).ceilField true g = fld v 16 14
        ∧ gen t r = gen s r ∧ (t.region r).ledger = (s.region r).ledger ∧ r ∈ t.log.soon)

/-- A die tick that finds work in a region (R92, R200): from it on the ceiling in force is that of CEIL_TBL, and DCW
equals it where it has fallen below DCW. -/
def CeilingFromTheNextTick : Prop :=
  ∀ (r : Nat) (s : State), (s.region r).thermal.guard = false → (s.region r).ledger.due = 0 →
    ((s.regionTick r).region r).ceil = (s.region r).ceilField (gen s r).dcoSel (gen s r).ceilGear
    ∧ (gen (s.regionTick r) r).dcw = (if (gen s r).state.dcoRuns = true
          ∧ (s.region r).ceilField (gen s r).dcoSel (gen s r).ceilGear < (gen s r).dcw then
        (s.region r).ceilField (gen s r).dcoSel (gen s r).ceilGear else (gen s r).dcw)
    ∧ (gen (s.regionTick r) r).state = (gen s r).state ∧ RegionsBut r s (s.regionTick r)

/-- The die tick lost at a tap, and its return (R94, R122, R123): once two expected edges have not come LOCKED and
RAMP go to HOLD, ACQUIRE and READY to BYPASS, an armed door is dropped, REF_LOST is set, the page is held as the
die tick ends, and a core region asks to be fenced (R316); with the edges back, from HOLD for 64 tk, REF_LOST
falls and HOLD goes to BYPASS. While it lasts every write of the page but STOP and CLOSE is ignored. -/
def DieTickLostAtATap : Prop :=
  (∀ (r : Nat) (s : State), Live s → r < 208 →
    ((gen s r).refLost = false → bit s.ref.segFailed (r / 8) = true →
      tget 0 s.ref.deadAt (r / 8) + 1 ≤ s.now →
      Completes (.refLost r) s fun t => Only [.regions, .hz, .pool] s t ∧ Told s t
        ∧ RegionsBut r s t ∧ HzrsBut r s t
        ∧ (gen t r).refLost = true ∧ (gen t r).armed = false ∧ (gen t r).shutter = (gen s r).shutter
        ∧ (gen t r).gear = (gen s r).gear ∧ (gen t r).lostAt = s.now
        ∧ (gen t r).state = (match (gen s r).state with
            | .locked => .hold
            | .ramp => .hold
            | .acquire => .bypass
            | .ready => .bypass
            | .off => .off
            | .bypass => .bypass
            | .hold => .hold)
        ∧ bit (t.region r).regs.event 9 = true
        ∧ r ∈ t.log.lost
        ∧ (r < 160 → (s.hzr r).fenced = false → (t.hzr r).fenceReq = true))
    ∧ ((gen s r).refLost = true → (gen s r).state = .hold → (gen s r).lostAt + 64 ≤ s.now →
      Completes (.holdExit r) s fun t => RegionFrame r s t
        ∧ (gen t r).state = .bypass ∧ (gen t r).refLost = false
        ∧ (gen t r).outSwitch = some { toDco := false, due := s.now + 2, enter := true }
        ∧ (gen t r).gear = (gen s r).gear)
    ∧ ((gen s r).refLost = true → (gen s r).state ≠ .hold → (gen s r).lostAt + 1 ≤ s.now →
      Completes (.holdExit r) s fun t => RegionFrame r s t
        ∧ gen t r = { gen s r with refLost := false }
        ∧ (t.region r).regs.event = (s.region r).regs.event ∧ r ∈ t.log.soon)
    ∧ (∀ p c, (gen s r).refLost = true → s.mayWrite p (regionPage r + 0x04) = true →
      (c = .racgSwap p r ∨ c = .racgReturn p r ∨ c = .toBypass p r ∨ c = .racgOpen p r
        ∨ (∃ gear, c = .racgStart p r gear) ∨ (∃ gear, c = .racgAcquire p r gear)) →
      Sys2Proof.Machine.exec c s = .next s))
  ∧ (∀ (r : Nat) (s : State), r ∈ s.log.lost → (s.holdPages.region r).regs.heldPage.isSome = true)
  ∧ (∀ (r : Nat) (s : State), (s.region r).thermal.guard = false → (gen s r).refLost = false →
    (s.region r).ledger.due = 0 → ((s.regionTick r).region r).regs.heldPage = none)

/-- How a walk goes on (R119, R120): one step a local period of 65/64, towards PHASE_TARGET and no further, only in
LOCKED or READY with the ratio at rest and s 0; each counts in W behind an open shutter of a LOCKED region, and
takes the ledger a sixty-fourth of a period. -/
def WalkSteps : Prop :=
  ∀ (x : Region) (w : Walk) (now n : Nat), x.phase.walk = some w → w.since < now →
    n = min x.walkLeft ((w.acc + (now - w.since) * x.racg.ratio) / 260) →
    ((x.racg.state = .locked ∨ x.racg.state = .ready) → x.racg.moving = false → x.droop.sNow = 0 →
      (x.walkTo now).phase.pos = (x.phase.pos + n) % 64
      ∧ (x.walkTo now).ledger.wTot = x.ledger.wTot
          + (if x.racg.shutter = true ∧ x.racg.state = .locked then BitVec.ofNat 32 n else 0)
      ∧ (x.walkTo now).racg = x.racg ∧ (x.walkTo now).regs = x.regs)
    ∧ (¬((x.racg.state = .locked ∨ x.racg.state = .ready) ∧ x.racg.moving = false ∧ x.droop.sNow = 0) →
      (x.walkTo now).phase.pos = x.phase.pos ∧ (x.walkTo now).ledger = x.ledger)

/-- The spare DCO's characterisation (R114, R115), phase stepping (R117 to R120), the margin register (R126), the
shutter (R111, R112, R151). A walk is done when the selector stands at PHASE_TARGET. -/
def MeasurePhaseShutter : Prop :=
  ∀ (r : Nat) (s : State), Live s → r < 208 →
    (∀ p code, s.mayWrite p (regionPage r + 0x28) = true → (gen s r).refLost = false →
      Completes (.dcoMeasStart p r code) s fun t => Only [.regions] s t ∧ RegionsBut r s t
        ∧ t.region r = { s.region r with regs := { (s.region r).regs with
            measCode := code % 16384,
            measRun := (match (s.region r).regs.measRun with
              | some x => some x
              | none => some (code % 16384, s.now)),
            measValid := (s.region r).regs.measValid && (s.region r).regs.measRun.isSome } })
    ∧ (∀ count code start, (s.region r).regs.measRun = some (code, start) → start + 4096 ≤ s.now →
      Completes (.measDone r count) s fun t => RegionFrame r s t ∧ gen t r = gen s r
        ∧ (t.region r).regs = { (s.region r).regs with
            measRun := none, measCount := count % 2 ^ 20, measValid := true,
            event := (s.region r).regs.event ||| oneBit 13 })
    ∧ (∀ p v, s.mayWrite p (regionPage r + 0x20) = true → s.before p (regionPage r + 0x20) = none →
      (gen s r).refLost = false →
      Completes (.phaseCtlWrite p r v) s fun t => Only [.regions] s t ∧ RegionsBut r s t
        ∧ gen t r = gen s r
        ∧ (204 ≤ r → t.region r = s.region r)
        ∧ (r < 204 → (t.region r).regs = { (s.region r).regs with phaseCtl := v &&& 0x33F }
            ∧ (t.region r).phase.pos = ((s.region r).phaseTo s.now s.tick).phase.pos
            ∧ ((s.region r).phase.walk = none → (t.region r).phase.walk = some { since := s.now })
            ∧ (t.region r).phase.walk.isSome = true))
    ∧ (((s.region r).phaseTo s.now s.tick).walking s.now = true →
      ((gen s r).state = .locked ∨ (gen s r).state = .ready) →
      ((s.region r).phaseTo s.now s.tick).walkLeft = 0 →
      Completes (.phaseDone r) s fun t => RegionFrame r s t ∧ gen t r = gen s r
        ∧ (t.region r).phase.walk = none
        ∧ (t.region r).phase.pos % 64 = fld (s.region r).regs.phaseCtl 0 6
        ∧ (t.region r).regs = { (s.region r).regs with event := (s.region r).regs.event ||| oneBit 11 }
        ∧ (t.region r).ledger = ((s.region r).phaseTo s.now s.tick).ledger)
    ∧ ((gen s r).shutterTo = some false →
      Completes (.shutterClosed r) s fun t => Only [.regions, .hz, .pool, .fc] s t ∧ Told s t
        ∧ RegionsBut r s t ∧ (gen t r).shutter = false ∧ (gen t r).shutterTo = none
        ∧ (gen t r).gear = (gen s r).gear
        ∧ (gen t r).state = (if (gen s r).state = .ready then
            (if (gen s r).moving then .ramp else .locked) else (gen s r).state))
    ∧ ((gen s r).shutterTo = some true →
      Completes (.shutterOpened r) s fun t => RegionFrame r s t
        ∧ gen t r = { gen s r with shutter := true, shutterTo := none })
    ∧ (∀ p, s.mayWrite p (regionPage r + 0x18) = true → (gen s r).refLost = false →
      Completes (.clrMargin p r) s fun t => Only [.regions] s t ∧ RegionsBut r s t
        ∧ t.region r = { s.region r with margin := { (s.region r).margin with min := 0x3FFF } })

/-! ## Droop, calibration, ledger, thermal (chapter 04) -/

/-- k of a sample whose lowest reading among active detectors is `low` (R134), with the thresholds as the die tick
found them (R138). -/
def sampleDepth (s : State) (r : Nat) (low : Nat) : Nat :=
  if low ≤ s.eff r then min 8 (1 + (s.eff r - low) / max 1 (fld (s.region r).sampling.thresh 24 3)) else 0

/-- A sample that crosses (R133 to R136, R138, R149, R153, R156). Where the stretch engine acts (LOCKED, RAMP, HOLD)
the edge of the sample carries s = max(k of two edges before, s − 1), the ledger counts it behind an open
shutter, the sample's k waits for its edge, and an episode is in progress; elsewhere nothing is stretched, no
episode starts, and a crossing sets CROSS_UNSTRETCHED. The generator's record stays: a stretch changes neither
frequency nor state. Masks, selection and thresholds are those of the die tick before. -/
def CrossingStretches : Prop :=
  ∀ (r quiet low : Nat) (readings : List Nat) (s : State), Live s → r < 208 → s.ref.tickValid = true →
    low = (s.region r).sampling.lowest (clipReadings r readings) →
    (((gen s r).state = .locked ∨ (gen s r).state = .ramp ∨ (gen s r).state = .hold) →
      Completes (.droopCrossing r quiet readings) s fun t => RegionFrame r s t ∧ gen t r = gen s r
        ∧ (t.region r).droop.k1 = sampleDepth s r low
        ∧ (sampleDepth s r low ≠ 0 → (t.region r).droop.episode.isSome = true
            ∧ ((s.region r).droop.episode = none → bit (t.region r).droop.event 0 = true))
        ∧ (quiet = 0 → (t.region r).droop.sNow = max (s.region r).droop.k2 ((s.region r).droop.sNow - 1)
            ∧ (t.region r).droop.k2 = (s.region r).droop.k1
            ∧ (t.region r).ledger.sTot = (s.region r).ledger.sTot + (if (gen s r).shutter then
                BitVec.ofNat 64 (max (s.region r).droop.k2 ((s.region r).droop.sNow - 1)) else 0)
            ∧ (t.region r).ledger.wTot = ((s.region r).phaseTo s.now s.tick).ledger.wTot))
    ∧ (((gen s r).state = .off ∨ (gen s r).state = .acquire ∨ (gen s r).state = .ready
          ∨ (gen s r).state = .bypass) → (gen s r).refLost = false →
      Completes (.droopCrossing r quiet readings) s fun t => RegionFrame r s t ∧ gen t r = gen s r
        ∧ (t.region r).droop.episode = (s.region r).droop.episode
        ∧ (t.region r).droop.sNow = (s.region r).droop.sNow
        ∧ (t.region r).droop.kNow = sampleDepth s r low
        ∧ (t.region r).ledger = (s.region r).ledger ∧ (t.region r).regs = (s.region r).regs
        ∧ (t.region r).droop.event = (s.region r).droop.event
            ||| (if sampleDepth s r low = 0 then 0 else oneBit 7))

/-- Episodes end and are counted (R153 to R155, R273): when the crossings are over the edges go by until s is 0 with
no k waiting, and no episode is left; 65,536 lc complete a piece, whose coach an episode that goes on sends; at
the end of a span of 1,024 tk every region's counts move to EPISODE_HIST and start again. What a piece starts
with is the model's choice, log entry 23. -/
def EpisodesEndAndCount : Prop :=
  (∀ (r : Nat) (readings : List Nat) (s : State), Live s → r < 208 → (s.region r).droop.episode.isSome = true →
    s.eff r < (s.region r).sampling.lowest (clipReadings r readings) →
    Completes (.episodeEnd r readings) s fun t => RegionFrame r s t ∧ gen t r = gen s r
      ∧ (t.region r).droop.episode = none ∧ (t.region r).droop.sNow = 0
      ∧ (t.region r).droop.k1 = 0 ∧ (t.region r).droop.k2 = 0)
  ∧ (∀ (e : Episode) (sj : Nat),
    (e.length + 1 < 65536 → (e.edge sj).length = e.length + 1 ∧ (e.edge sj).pieces = e.pieces)
    ∧ (e.length + 1 = 65536 → (e.edge sj).length = 0
        ∧ (e.edge sj).pieces = e.pieces ++ [(max e.maxS sj, e.totS + sj, e.dets, e.lowest)])
    ∧ (e.edge sj).peak = max e.peak sj ∧ (e.edge sj).start = e.start)
  ∧ (∀ (r : Nat) (e : Episode) (s : State), Live s → r < 208 → (s.region r).droop.episode = some e →
    e.pieces ≠ [] →
    Completes (.episodeContinued r) s fun t => RegionFrame r s t ∧ gen t r = gen s r
      ∧ (t.region r).droop = { (s.region r).droop with episode := some { e with pieces := e.pieces.drop 1 } }
      ∧ (t.region r).ledger = (s.region r).ledger)
  ∧ (∀ s : State, Live s →
    (spanStart s.pool.spanAt).toNat < (spanStart s.tick).toNat →
    Completes .episodeHistSpan s fun t => Only [.regions, .hz, .pool] s t
      ∧ t.pool.carts = s.pool.carts
      ∧ ∀ r, r < 208 → gen t r = gen s r ∧ (t.region r).ledger = (s.region r).ledger
        ∧ (t.region r).droop.histLast = (s.region r).droop.bins
        ∧ (t.region r).droop.bins = [0, 0, 0, 0, 0, 0, 0, 0]
        ∧ (t.region r).droop.episode = (s.region r).droop.episode)

/-- Detector masks, the calibration selection and the trims are taken, or refused in full with DET_REFUSED
(R139 to R141). A region keeps at least 12 of 16 detectors active, or 6 of 8; a mask of both thermal sensors
is refused; the trim of an active detector does not change. Masks and selection do not act on a sample of this
die tick (R138). -/
def DetectorSelection : Prop :=
  ∀ (p : Path) (r : Nat) (s : State), Live s → r < 208 → (gen s r).refLost = false →
    (∀ v w, s.mayWrite p (regionPage r + 0x80) = true → s.before p (regionPage r + 0x80) = none →
      w = v &&& (if r < 160 then 0x3FFFF else 0x300FF) →
      Completes (.detMaskWrite p r v) s fun t => Only [.regions, .pool] s t ∧ Told s t ∧ RegionsBut r s t
        ∧ (t.region r).sampling.detMask = (s.region r).sampling.detMask
        ∧ t.region r = (if (if r < 160 then 12 else 6) ≤ activeCount r w (s.region r).droop.calSel
              ∧ ¬(bit w 16 = true ∧ bit w 17 = true) then
            { (s.region r).keep 0x80 (s.region r).droop.detMask with
              droop := { (s.region r).droop with detMask := w } }
          else { s.region r with droop := { (s.region r).droop with
            event := (s.region r).droop.event ||| oneBit 4 } }))
    ∧ (∀ v w, s.mayWrite p (regionPage r + 0x84) = true → s.before p (regionPage r + 0x84) = none →
      w = v &&& (if r < 160 then 0xFFFF else 0xFF) →
      Completes (.detCalSelWrite p r v) s fun t => Only [.regions, .pool] s t ∧ Told s t ∧ RegionsBut r s t
        ∧ (t.region r).sampling.calSel = (s.region r).sampling.calSel
        ∧ t.region r = (if (if r < 160 then 12 else 6) ≤ activeCount r (s.region r).droop.detMask w then
            { (s.region r).keep 0x84 (s.region r).droop.calSel with
              droop := { (s.region r).droop with calSel := w } }
          else { s.region r with droop := { (s.region r).droop with
            event := (s.region r).droop.event ||| oneBit 4 } }))
    ∧ (∀ k v, k < 4 → s.mayWrite p (regionPage r + (0x90 + 4 * k)) = true →
      s.before p (regionPage r + (0x90 + 4 * k)) = none → 4 * k < (if r < 160 then 16 else 8) →
      Completes (.detTrimWrite p r k v) s fun t => Only [.regions, .pool] s t ∧ Told s t ∧ RegionsBut r s t
        ∧ (∀ j, j < 4 → tget 0 (t.region r).droop.trims (4 * k + j) =
            (if (s.region r).droop.activeDet (4 * k + j) then tget 0 (s.region r).droop.trims (4 * k + j)
             else fld v (8 * j) 6))
        ∧ (∀ i, (i < 4 * k ∨ 4 * k + 4 ≤ i) →
            tget 0 (t.region r).droop.trims i = tget 0 (s.region r).droop.trims i)
        ∧ (t.region r).droop.event = (s.region r).droop.event
            ||| (if (List.range 4).any (fun j => (s.region r).droop.activeDet (4 * k + j)
                  && decide (tget 0 (s.region r).droop.trims (4 * k + j) ≠ fld v (8 * j) 6))
                then oneBit 4 else 0)
        ∧ gen t r = gen s r)

/-- The margin probe (R142 to R144): a START runs a window unless one runs; a LIVE one needs LOCKED and an open
shutter, else DET_REFUSED; once it has 1,024 cycles of the detectors' clock in which s was 0 and no walk step was
applied, or 65,536 cycles in all, it ends with VALID, FAIL, SHORT, IDLE and PROBE_DONE. -/
def MarginProbe : Prop :=
  (∀ (p : Path) (r adv : Nat) (live : Bool) (s : State), Live s → r < 208 → (gen s r).refLost = false →
    s.mayWrite p (regionPage r + 0xC0) = true → (s.region r).cal.probeRun = none →
    Completes (.probeStart p r adv live) s fun t => Only [.regions, .pool] s t ∧ Told s t ∧ RegionsBut r s t
      ∧ (t.region r).cal.probeAdv = adv % 64 ∧ (t.region r).cal.probeSrc = live
      ∧ (t.region r).cal.valid = (s.region r).cal.valid ∧ gen t r = gen s r
      ∧ (live = true ∧ ¬((gen s r).state = .locked ∧ (gen s r).shutter = true) →
          (t.region r).cal.probeRun = none
            ∧ (t.region r).droop.event = (s.region r).droop.event ||| oneBit 4)
      ∧ (¬(live = true ∧ ¬((gen s r).state = .locked ∧ (gen s r).shutter = true)) →
          (t.region r).cal.probeRun = some {
              adv := adv % 64, live := live,
              cycles := ((s.region r).phaseTo s.now s.tick).cal.clk.cycles s.now,
              skipped := ((s.region r).phaseTo s.now s.tick).cal.clk.skipped }
            ∧ (t.region r).cal.prValid = false
            ∧ (t.region r).droop = (s.region r).droop))
  ∧ (∀ (r changes : Nat) (q : ProbeRun) (late : Bool) (lowest : List Nat) (s : State), Live s →
    r < 208 → (s.region r).cal.probeRun = some q →
    (1024 ≤ ((s.region r).probeCount q s.now s.tick).1 - ((s.region r).probeCount q s.now s.tick).2
      ∨ 65536 ≤ ((s.region r).probeCount q s.now s.tick).1) →
    Completes (.probeDone r changes late lowest) s fun t =>
      Only [.regions, .pool] s t ∧ Told s t ∧ RegionsBut r s t
      ∧ (t.region r).cal = { (s.region r).cal with
          probeRun := none, prValid := true, prFail := late,
          prShort := decide (((s.region r).probeCount q s.now s.tick).1
            - ((s.region r).probeCount q s.now s.tick).2 < 1024),
          prIdle := q.live && decide (changes < 64), prAdv := q.adv,
          prSkipped := min 0xFFFF ((s.region r).probeCount q s.now s.tick).2 }
      ∧ (t.region r).droop.event = (s.region r).droop.event ||| oneBit 5
      ∧ gen t r = gen s r ∧ (t.region r).ledger = (s.region r).ledger)

/-- CAL_DONE is accepted only in READY or LOCKED, with DET_CAL_SEL at 0 and no door taken in the die tick;
otherwise CAL_DONE_REFUSED and nothing else (R146). Accepted, it sets VALID, CAL_GEAR and AGE 0, and DRIFT to the
largest difference of an unmasked detector's trim, 0 at the first (R147). An AGE above MAX_AGE ends the validity
with CAL_EXPIRED. -/
def CalibrationRecord : Prop :=
  (∀ (p : Path) (r : Nat) (s : State), Live s → r < 208 → (gen s r).refLost = false →
    s.mayWrite p (regionPage r + 0xBC) = true → s.frozen p = false →
    Completes (.calDone p r) s fun t => Only [.regions, .pool] s t ∧ Told s t ∧ RegionsBut r s t
      ∧ gen t r = gen s r
      ∧ (((gen s r).state = .ready ∨ (gen s r).state = .locked) ∧ (s.region r).droop.calSel = 0
            ∧ (gen s r).doorAt ≠ some s.now
            ∧ ¬((gen s r).armed = true ∧ (gen s r).armDoor.toNat ≤ s.tick.toNat) →
          (t.region r).droop = (s.region r).droop
            ∧ (t.region r).cal = { (s.region r).cal with
                valid := true, gear := (gen s r).gear, doneAt := some s.now,
                trims := some (s.region r).droop.trims, drift := (t.region r).cal.drift }
            ∧ (t.region r).cal.age s.now = 0
            ∧ ((s.region r).cal.trims = none → (t.region r).cal.drift = 0)
            ∧ (∀ old, (s.region r).cal.trims = some old →
                (∀ i, i < (if r < 160 then 16 else 8) → bit (s.region r).droop.detMask i = false →
                  absI (((tget 0 (s.region r).droop.trims i : Nat) : Int) - ((tget 0 old i : Nat) : Int))
                    ≤ (t.region r).cal.drift)
                ∧ ((t.region r).cal.drift = 0 ∨ ∃ i, i < (if r < 160 then 16 else 8)
                    ∧ bit (s.region r).droop.detMask i = false
                    ∧ (t.region r).cal.drift
                      = absI (((tget 0 (s.region r).droop.trims i : Nat) : Int) - ((tget 0 old i : Nat) : Int)))))
      ∧ (¬(((gen s r).state = .ready ∨ (gen s r).state = .locked) ∧ (s.region r).droop.calSel = 0
            ∧ (gen s r).doorAt ≠ some s.now
            ∧ ¬((gen s r).armed = true ∧ (gen s r).armDoor.toNat ≤ s.tick.toNat)) →
          t.region r = { s.region r with droop := { (s.region r).droop with
            event := (s.region r).droop.event ||| oneBit 6 } }))
  ∧ (∀ (r : Nat) (s : State), Live s → r < 208 → (s.region r).cal.valid = true →
    max 1 (s.region r).cal.maxAge < (s.region r).cal.age s.now →
    Completes (.calExpired r) s fun t => Only [.regions, .pool] s t ∧ Told s t ∧ RegionsBut r s t
      ∧ (t.region r).cal = { (s.region r).cal with valid := false }
      ∧ (t.region r).droop.event = (s.region r).droop.event ||| oneBit 2 ∧ gen t r = gen s r)

/-- A region's ledger after a snapshot at the edge that begins this die tick (R150): TICK, LC, S and W latched,
CUR_MAX moved into MAXDEPTH and cleared, LEDGER_SNAP set. While the tap has no die tick its TICK stands (R122; the
model's choice, log entry 23). -/
def LedgerLatched (r : Nat) (s t : State) : Prop :=
  (t.region r).ledger.tick = (if (gen s r).refLost then (gen s r).lostTick else s.tick)
    ∧ (t.region r).ledger.lc = BitVec.ofNat 64 (((s.region r).phaseTo s.now s.tick).ledger.lcAt s.now)
    ∧ (t.region r).ledger.s = (s.region r).ledger.sTot
    ∧ (t.region r).ledger.w = ((s.region r).phaseTo s.now s.tick).ledger.wTot
    ∧ (t.region r).ledger.maxDepth = (s.region r).ledger.curMax ∧ (t.region r).ledger.curMax = 0
    ∧ (t.region r).ledger.seq = ((s.region r).ledger.seq + 1) % 65536
    ∧ (t.region r).droop.event = (s.region r).droop.event ||| oneBit 8

/-- Snapshots (R150, R151): one written is due at the next die-tick edge, which takes it; a periodic one is taken
at the TICK that is a multiple of its period; one edge takes one (R157). -/
def LedgerSnapshots : Prop :=
  ∀ (r : Nat) (s : State),
    (∀ p, Live s → r < 208 → s.mayWrite p (regionPage r + 0xD0) = true → (gen s r).refLost = false →
      Completes (.snap p r) s fun t => RegionFrame r s t
        ∧ t.region r = { s.region r with ledger := { (s.region r).ledger with
            due := (s.region r).ledger.due ||| 1 } }
        ∧ r ∈ t.log.soon)
    ∧ ((s.region r).ledger.due ≠ 0 → (s.region r).ledger.snapAt ≠ some s.now →
      (s.region r).thermal.guard = false →
      LedgerLatched r s (s.regionTick r) ∧ ((s.regionTick r).region r).ledger.due = 0
        ∧ RegionsBut r s (s.regionTick r))
    ∧ (∀ k, Live s → r < 208 → s.ref.tickValid = true → (gen s r).refLost = false →
      k = fld (s.region r).ledger.ctl 8 6 → k ≠ 0 → s.tick.toNat % 2 ^ max 16 k = 0 →
      Completes (.periodicSnapshot r) s fun t => RegionFrame r s t ∧ gen t r = gen s r
        ∧ ((s.region r).ledger.snapAt ≠ some s.now → LedgerLatched r s t)
        ∧ ((s.region r).ledger.snapAt = some s.now → t.region r = s.region r))

/-- After each conversion a region is hot when the higher of its unmasked readings is at least HOT, and stops
being hot when that is below HOT by 8 or more; a bit that rises sets THERM_HOT and raises line 62 (R199). While
TRIP_EN is 1 a reading of at least CRIT sets the trip bit, THERM_TRIP where it rises, and the region goes to BYPASS
with the next die tick; a region with its trip bit at 1 is taken there again by each such conversion (R200). -/
def ThermalGuard : Prop :=
  (∀ (r : Nat) (t0 t1 high : Int) (s : State), Live s → r < 208 → s.ref.tickValid = true →
    (∀ u, (s.region r).thermal.convAt = some u → u + 65536 ≤ s.now) →
    -512 ≤ t0 → t0 ≤ 511 → -512 ≤ t1 → t1 ≤ 511 →
    high = (if bit (s.region r).droop.detMask 16 then t1
      else if bit (s.region r).droop.detMask 17 then t0 else max t0 t1) →
    Completes (.thermalConversion r t0 t1) s fun t =>
      Only [.regions, .hz, .pool, .doors, .seq] s t ∧ Told s t ∧ RegionsBut r s t ∧ HzrsBut r s t
      ∧ (t.region r).thermal.t0 = t0 ∧ (t.region r).thermal.t1 = t1 ∧ gen t r = gen s r
      ∧ ((fld s.doors.thermLimit 0 10 : Int) ≤ high → (t.region r).thermal.hot = true)
      ∧ (high + 8 ≤ (fld s.doors.thermLimit 0 10 : Int) → (t.region r).thermal.hot = false)
      ∧ (high < (fld s.doors.thermLimit 0 10 : Int) → (fld s.doors.thermLimit 0 10 : Int) < high + 8 →
          (t.region r).thermal.hot = (s.region r).thermal.hot)
      ∧ ((t.region r).thermal.hot = true → (s.region r).thermal.hot = false →
          bit t.doors.event 25 = true ∧ bit t.seq.flags 62 = true)
      ∧ (¬((t.region r).thermal.hot = true ∧ (s.region r).thermal.hot = false) → t.seq = s.seq
          ∧ bit t.doors.event 25 = bit s.doors.event 25)
      ∧ (bit s.doors.cfg 1 = true → (fld s.doors.thermLimit 16 10 : Int) ≤ high →
          (t.region r).thermal.trip = true ∧ (t.region r).thermal.guard = true ∧ r ∈ t.log.soon
            ∧ bit t.doors.event 26 = (bit s.doors.event 26 || !(s.region r).thermal.trip))
      ∧ ((s.region r).thermal.trip = true → (fld s.doors.thermLimit 16 10 : Int) ≤ high →
          (t.region r).thermal.guard = true)
      ∧ (¬(bit s.doors.cfg 1 = true ∧ (fld s.doors.thermLimit 16 10 : Int) ≤ high) →
          (t.region r).thermal.trip = (s.region r).thermal.trip
            ∧ bit t.doors.event 26 = bit s.doors.event 26)
      ∧ (high < (fld s.doors.thermLimit 16 10 : Int) → (t.region r).thermal.guard = false))
  ∧ (∀ (r : Nat) (s : State), (s.region r).thermal.guard = true → (s.region r).ledger.due = 0 →
    (gen s r).refLost = false → s.doorDue r = false →
    ((gen s r).state = .acquire ∨ (gen s r).state = .ready ∨ (gen s r).state = .locked
      ∨ (gen s r).state = .ramp) →
    (gen (s.regionTick r) r).state = .bypass ∧ ((s.regionTick r).region r).thermal.guard = false)

/-! ## Forecasts, stagger, warnings, AVSBus (chapter 05) -/

/-- Forecasts (R159, R162 to R165, R170): those R163 names are discarded with their event and counter and a stagger
reply of 0; any other opens a window of its class that covers the ticks up to C − 1, after the oldest window
leaves where 4 are open, and gets a stagger of at most 63 lc, 0 with STAG_EN at 0, its class added to its slot
of the cluster's ledger. BASE is that of the die tick before a write of it (R180). -/
def ForecastsOpenWindows : Prop :=
  ∀ (r : Nat) (msg : Word) (s : State), Live s → r < 160 →
    (10 < fld msg 0 4 →
      Completes (.forecast r msg) s fun t => Only [.fc, .pool, .out] s t ∧ Told s t
        ∧ t.fc = { s.fc with badFmt := min 0xFFFF (s.fc.badFmt + 1), event := s.fc.event ||| oneBit 0 }
        ∧ t.out = { s.out with stagger := some (r, 0) })
    ∧ (fld msg 0 4 ≤ 10 → (fld msg 4 9 = 0 ∨ fld msg 13 9 = 0 ∨ (gen s r).shutter = false
          ∨ bit s.fc.ctl 0 = false) →
      Completes (.forecast r msg) s fun t => Only [.fc, .pool, .out] s t ∧ Told s t
        ∧ t.fc = { s.fc with discards := min 0xFFFF (s.fc.discards + 1), event := s.fc.event ||| oneBit 2 }
        ∧ t.out = { s.out with stagger := some (r, 0) })
    ∧ (∀ e cls live, fld msg 0 4 ≤ 10 → fld msg 4 9 ≠ 0 → fld msg 13 9 ≠ 0 → (gen s r).shutter = true →
      bit s.fc.ctl 0 = true →
      e = (8 * min 256 (fld msg 4 9) * min 256 (fld msg 13 9) + 65535) / 65536 →
      cls = min 7 ((s.fc.base (fld msg 0 4) * e + 7) / 8) →
      live = (s.fc.windowsOf r).filter (fun w => decide (s.tick.toNat < w.close)) →
      Completes (.forecast r msg) s fun t => Only [.fc, .pool, .out] s t ∧ Told s t
        ∧ ∃ d, d ≤ 63 ∧ (bit s.fc.ctl 1 = false → d = 0)
          ∧ t.out = { s.out with stagger := some (r, d) }
          ∧ (live.length < 4 → t.fc.windowsOf r = live ++ [{
              close := closeTick s.tick.toNat d (fld msg 22 8) (max 1 (gen s r).outN)
                (fld s.fc.winCfg 0 8), cls := cls }] ∧ t.fc.evicts = min 0xFFFF s.fc.evicts)
          ∧ (4 ≤ live.length → (t.fc.windowsOf r).length = live.length
              ∧ t.fc.evicts = min 0xFFFF (s.fc.evicts + 1) ∧ bit t.fc.event 3 = true)
          ∧ (∀ x, x ≠ r → t.fc.windowsOf x = s.fc.windowsOf x)
          ∧ t.fc.accepted = (s.fc.accepted + 1) % 65536
          ∧ t.fc.oversize = min 0xFFFF (s.fc.oversize
              + if 256 < fld msg 4 9 ∨ 256 < fld msg 13 9 then 1 else 0)
          ∧ (∀ k, k = landSlot s.fc.stagSlot s.tick.toNat (max 1 (gen s r).outN) d →
              tget 0 (tget [] t.fc.stagger (r / 10)) k
                = tget 0 (tget [] s.fc.stagger (r / 10)) k + cls)
          ∧ (∀ c, c ≠ r / 10 → tget [] t.fc.stagger c = tget [] s.fc.stagger c))

/-- Windows close at their tick C, ledger entries leave once their slot is past (R164, R168, R172); FC_EN at 0 closes every
window (R180); a LDWARN line deasserts once its rise is below WARN_STEP and WARN_MIN tk have passed (R174). -/
def WindowsAndWarningsEnd : Prop :=
  (∀ (r : Nat) (s : State), Live s → r < 160 →
    (s.fc.windowsOf r).any (fun w => decide (w.close ≤ s.tick.toNat)) = true →
    Completes (.windowClose r) s fun t => Only [.fc, .pool] s t ∧ Told s t
      ∧ t.fc.windowsOf r = (s.fc.windowsOf r).filter (fun w => decide (s.tick.toNat < w.close))
      ∧ (∀ x, x ≠ r → t.fc.windowsOf x = s.fc.windowsOf x) ∧ t.fc.stagger = s.fc.stagger)
  ∧ (∀ (c : Nat) (s : State), Live s → c < 16 →
    (tget [] s.fc.stagger c).any (fun e => decide ((e.1 + 1) * s.fc.stagSlot ≤ s.tick.toNat)) = true →
    Completes (.staggerSlotExpiry c) s fun t => Only [.fc] s t
      ∧ t.fc = { s.fc with stagger := t.fc.stagger }
      ∧ tget [] t.fc.stagger c = (tget [] s.fc.stagger c).filter
          (fun e => decide (s.tick.toNat < (e.1 + 1) * s.fc.stagSlot))
      ∧ (∀ x, x ≠ c → tget [] t.fc.stagger x = tget [] s.fc.stagger x))
  ∧ (∀ (p : Path) (en : Bool) (s : State), Live s → s.mayWrite p 0x03000 = true →
    s.before p 0x03000 = none →
    Completes (.fcEnWrite p en) s fun t => Only [.fc, .pool] s t ∧ Told s t
      ∧ bit t.fc.ctl 0 = en ∧ (∀ i, i < 32 → i ≠ 0 → bit t.fc.ctl i = bit s.fc.ctl i)
      ∧ (en = true → t.fc.windows = s.fc.windows ∧ t.pool = s.pool)
      ∧ (en = false → (∀ r, t.fc.windowsOf r = []) ∧ (∀ n, t.fc.railSum n = 0)))
  ∧ (∀ (p : Path) (en : Bool) (s : State), Live s → s.mayWrite p 0x03000 = true →
    s.before p 0x03000 = none →
    Completes (.warnEnWrite p en) s fun t => Only [.fc] s t
      ∧ bit t.fc.ctl 3 = en ∧ (∀ i, i < 32 → i ≠ 3 → bit t.fc.ctl i = bit s.fc.ctl i)
      ∧ t.fc = { s.fc with ctl := t.fc.ctl })
  ∧ (∀ (n : Nat) (s : State), Live s → n < 4 → (s.fc.rail n).warn = true →
    (s.fc.rail n).warnAt + max 1 (fld s.fc.warnCfg 24 8) ≤ s.now →
    (s.fc.rail n).rise (max 1 (fld s.fc.warnCfg 16 8)) s.now < max 1 (fld s.fc.warnCfg 0 10) →
    Completes (.ldwarnDeassert n) s fun t => Only [.fc] s t
      ∧ t.fc = { s.fc with rails := t.fc.rails } ∧ (t.fc.rail n).warn = false
      ∧ (∀ m, m ≠ n → t.fc.rail m = s.fc.rail m))

/-- The LDWARN lines as a die tick begins (R174, R175): with WARN_EN at 0 each is deasserted; a rise of WARN_STEP in
the tick that has ended is asserted in the next one, with its WARN_ON bit; a new RAIL_MAP governs from here
(R167). -/
def WarningsAsATickBegins : Prop :=
  (∀ (n : Nat) (s : State), bit s.fc.ctl 3 = false →
    ((s.railTick n).fc.rail n).warn = false ∧ (s.railTick n).fc.event = s.fc.event
      ∧ (∀ m, m ≠ n → (s.railTick n).fc.rail m = s.fc.rail m))
  ∧ (∀ (n : Nat) (s : State), n < 4 → bit s.fc.ctl 3 = true → (s.fc.rail n).due = some s.now →
    ((s.railTick n).fc.rail n).warn = true ∧ ((s.railTick n).fc.rail n).warnAt = s.now
      ∧ ((s.railTick n).fc.rail n).due = none
      ∧ (s.railTick n).fc.event = s.fc.event ||| oneBit (5 + n))
  ∧ (∀ (n : Nat) (s : State), n < 4 → bit s.fc.ctl 3 = true → (s.fc.rail n).due ≠ some s.now →
    (s.fc.rail n).warn = false →
    ((s.railTick n).fc.rail n).warn = false ∧ (s.railTick n).fc.event = s.fc.event
      ∧ (max 1 (fld s.fc.warnCfg 0 10) ≤ (s.fc.rail n).rise (max 1 (fld s.fc.warnCfg 16 8)) (s.now - 1) →
          ((s.railTick n).fc.rail n).due = some (s.now + 1)))
  ∧ (∀ s : State, s.fcTick.fc.was = [] ∧ ∀ c, s.fcTick.fc.clusterRail c = fld s.fc.railMap (2 * c) 2)

/-- The other request channels are as before. -/
def AvsBut (n : Nat) (s t : State) : Prop := ∀ m, m ≠ n → t.avs m = s.avs m

/-- AVSBus requests (R178, R179): a GO outside VMIN to VMAX, with VMAX 0, or before TICK_VALID is refused with its
bit; it starts at once on an idle channel, else queues, replacing a queued one with its bit; in the die tick in
which a request has ended it is the sole request of the next one (R180). A frame that fails
is retried twice, then RESULT is 2; a committed write settles, then is read back where READBACK is 1: RESULT 1 within
TOL, else 3. A queued request starts in the tick after. -/
def AvsRequests : Prop :=
  (∀ (p : Path) (n mv : Nat) (s : State), Live s → n < 4 → mv < 65536 →
    s.mayWrite p (0x03100 + 0x10 * n) = true →
    Completes (.avsGo p n mv) s fun t => Only [.fc] s t ∧ AvsBut n s t ∧ (t.avs n).mv = mv
      ∧ ((fld (s.avs n).limit 16 16 = 0 ∨ mv < fld (s.avs n).limit 0 16 ∨ fld (s.avs n).limit 16 16 < mv
            ∨ s.ref.tickValid = false) →
          (t.avs n).run = (s.avs n).run ∧ (t.avs n).queued = (s.avs n).queued
            ∧ t.fc.avsEvent = s.fc.avsEvent ||| oneBit (8 + n))
      ∧ (fld (s.avs n).limit 16 16 ≠ 0 → fld (s.avs n).limit 0 16 ≤ mv → mv ≤ fld (s.avs n).limit 16 16 →
          s.ref.tickValid = true → (s.avs n).endAt = some s.now →
          (t.avs n).run = some (mv, .writing) ∧ (t.avs n).startAt = s.now + 1
            ∧ t.fc.avsEvent = s.fc.avsEvent ||| (if (s.avs n).run = none then 0 else oneBit (16 + n)))
      ∧ (fld (s.avs n).limit 16 16 ≠ 0 → fld (s.avs n).limit 0 16 ≤ mv → mv ≤ fld (s.avs n).limit 16 16 →
          s.ref.tickValid = true → (s.avs n).endAt ≠ some s.now →
          ((s.avs n).run = none → (t.avs n).run = some (mv, .writing) ∧ (t.avs n).startAt = s.now
              ∧ t.fc.avsEvent = s.fc.avsEvent)
          ∧ ((s.avs n).run ≠ none → (t.avs n).run = (s.avs n).run ∧ (t.avs n).queued = some mv
              ∧ t.fc.avsEvent = s.fc.avsEvent
                ||| (if (s.avs n).queued = none then 0 else oneBit (16 + n)))))
  ∧ (∀ (n mv v : Nat) (s : State), Live s → n < 4 → s.avsOnBus = some n →
    (∀ resp, (resp = .noResponse ∨ resp = .crcFail ∨ resp = .statusError) →
      ((s.avs n).run = some (mv, .writing) ∨ (s.avs n).run = some (mv, .reading)) →
      Completes (.avsFrameEnd n resp) s fun t => Only [.fc, .out, .sb, .pool] s t ∧ Told s t ∧ AvsBut n s t
        ∧ ((s.avs n).retries < 2 → (t.avs n).run = (s.avs n).run
            ∧ (t.avs n).retries = (s.avs n).retries + 1 ∧ t.fc.avsEvent = s.fc.avsEvent)
        ∧ (2 ≤ (s.avs n).retries → (t.avs n).result = 2 ∧ (t.avs n).lastMv = mv
            ∧ t.fc.avsEvent = s.fc.avsEvent ||| oneBit (4 + n)
            ∧ (t.avs n).run = (s.avs n).queued.map (fun q => (q, .writing)))
        ∧ t.sb.busErrs = (if resp = .noResponse then min 0xFFFF (s.sb.busErrs + 1) else s.sb.busErrs))
    ∧ ((s.avs n).run = some (mv, .writing) →
      Completes (.avsFrameEnd n (.ok v)) s fun t => Only [.fc, .out] s t ∧ AvsBut n s t
        ∧ (t.avs n).run = some (mv, .settling (s.now + 1024 * fld (s.avs n).cfg 8 8))
        ∧ t.fc.avsEvent = s.fc.avsEvent)
    ∧ ((s.avs n).run = some (mv, .reading) → v < 65536 →
      Completes (.avsFrameEnd n (.ok v)) s fun t => Only [.fc, .out] s t ∧ AvsBut n s t
        ∧ (t.avs n).lastMv = v
        ∧ (t.avs n).result = (if ((v : Int) - mv).natAbs ≤ fld (s.avs n).cfg 16 8 then 1 else 3)
        ∧ t.fc.avsEvent = s.fc.avsEvent ||| (if ((v : Int) - mv).natAbs ≤ fld (s.avs n).cfg 16 8 then
            oneBit n else oneBit (12 + n))
        ∧ (t.avs n).run = (s.avs n).queued.map (fun q => (q, .writing))
        ∧ (t.avs n).queued = none))
  ∧ (∀ (n mv due : Nat) (s : State), Live s → n < 4 → (s.avs n).run = some (mv, .settling due) → due ≤ s.now →
    Completes (.avsSettleDone n) s fun t => Only [.fc] s t ∧ AvsBut n s t
      ∧ (bit (s.avs n).cfg 24 = true → (t.avs n).run = some (mv, .reading)
          ∧ t.fc.avsEvent = s.fc.avsEvent)
      ∧ (bit (s.avs n).cfg 24 = false → (t.avs n).result = 1 ∧ (t.avs n).lastMv = mv
          ∧ t.fc.avsEvent = s.fc.avsEvent ||| oneBit n
          ∧ (t.avs n).run = (s.avs n).queued.map (fun q => (q, .writing))))

/-! ## Gear table and doors (chapter 06) -/

/-- What an operation on one door slot leaves alone: the other slots, and every part but the door block and coaches
formed. -/
def SlotFrame (k : Nat) (s t : State) : Prop :=
  Only [.doors, .pool] s t ∧ Told s t ∧ SlotsBut k s t
    ∧ t.doors = { s.doors with slots := t.doors.slots, event := t.doors.event }

/-- The slot is in ARMING, ARMED, CANCELLING or OPEN. -/
abbrev SlotBusy (d : DoorSlot) : Prop :=
  d.state = .arming ∨ d.state = .armed ∨ d.state = .cancelling ∨ d.state = .opened

/-- A lead between 128 tk and 2^24 tk, counted while TICK is valid (R190). -/
abbrev LeadAllowed (s : State) (door : DWord) : Prop :=
  s.ref.tickValid = true ∧ s.tick.toNat + 128 ≤ door.toNat ∧ door.toNat ≤ s.tick.toNat + 2 ^ 24

/-- `why` is the REASON of the first check of R190 that a GO of slot `k` with this target fails; 0 for none. -/
abbrev GoReason (s : State) (k target why : Nat) : Prop :=
  (SlotBusy (s.slot k) ∧ why = 1)
  ∨ (¬SlotBusy (s.slot k) ∧ s.gearValid target = false ∧ why = 2)
  ∨ (¬SlotBusy (s.slot k) ∧ s.gearValid target = true ∧ (s.slot k).set = 0 ∧ why = 3)
  ∨ (¬SlotBusy (s.slot k) ∧ s.gearValid target = true ∧ (s.slot k).set ≠ 0
      ∧ ¬LeadAllowed s (s.slot k).door ∧ why = 4)
  ∨ (¬SlotBusy (s.slot k) ∧ s.gearValid target = true ∧ (s.slot k).set ≠ 0 ∧ LeadAllowed s (s.slot k).door
      ∧ (∃ j, j < 4 ∧ j ≠ k ∧ SlotBusy (s.slot j) ∧ (s.slot j).set &&& (s.slot k).set ≠ 0) ∧ why = 5)
  ∨ (¬SlotBusy (s.slot k) ∧ s.gearValid target = true ∧ (s.slot k).set ≠ 0 ∧ LeadAllowed s (s.slot k).door
      ∧ (∀ j, j < 4 → j ≠ k → SlotBusy (s.slot j) → (s.slot j).set &&& (s.slot k).set = 0)
      ∧ s.voltageShort (s.slot k).set target = true ∧ why = 6)
  ∨ (¬SlotBusy (s.slot k) ∧ s.gearValid target = true ∧ (s.slot k).set ≠ 0 ∧ LeadAllowed s (s.slot k).door
      ∧ (∀ j, j < 4 → j ≠ k → SlotBusy (s.slot j) → (s.slot j).set &&& (s.slot k).set = 0)
      ∧ s.voltageShort (s.slot k).set target = false ∧ why = 0)

/-- A GO and an ABORT (R190, R191, R194, R196): a GO that passes every check moves the slot to ARMING with ACK, EXCEPT and ABORTED
clear and its arm messages out; one that fails sets GO_REFUSED and the REASON of the first failing check and changes
nothing else but the SLOT_CTL fields written with it. An ABORT in ARMING or ARMED before door − 64 cancels on the whole
set, any other is refused with REASON 7. A GO that overlaps one of a higher slot in the same die tick is judged first,
and that one refused with OVERLAP (R201). The host's GO is without effect while the sequencer is halted (R30; the
model's reading, log entry 20). -/
def GoAndAbortJudged : Prop :=
  (∀ (p : Path) (k target why : Nat) (resync : Bool) (s : State), Live s → k < 4 → target < 16 →
    s.mayWrite p (slotPage k) = true → s.frozen p = false → s.laterSlots k (s.slot k).set = [] →
    GoReason s k target why →
    Completes (.slotGo p k target resync) s fun t => SlotFrame k s t
      ∧ (why = 0 → (t.slot k).state = .arming ∧ (t.slot k).target = target ∧ (t.slot k).set = (s.slot k).set
          ∧ (t.slot k).door = (s.slot k).door ∧ (t.slot k).ack = 0 ∧ (t.slot k).exc = 0
          ∧ (t.slot k).aborted = false ∧ (t.slot k).reason = 0 ∧ (t.slot k).goAt = s.now
          ∧ (t.slot k).flagged = (resync || s.ref.resync) ∧ (t.slot k).armOut = (s.slot k).set
          ∧ t.doors.event = s.doors.event)
      ∧ (why ≠ 0 → t.slot k = { s.slot k with
            target := (t.slot k).target, resync := resync, reason := why }
          ∧ (t.slot k).target = (if why = 1 then (s.slot k).target else target)
          ∧ t.doors.event = s.doors.event ||| BitVec.ofNat 32 (16 * 2 ^ (6 * k))))
  ∧ (∀ (p : Path) (k j target : Nat) (resync : Bool) (s : State), Live s → k < 4 → target < 16 →
    s.mayWrite p (slotPage k) = true → s.frozen p = false → s.laterSlots k (s.slot k).set = [j] →
    GoReason (s.undoGo j) k target 0 →
    Completes (.slotGo p k target resync) s fun t => Only [.doors, .pool] s t ∧ Told s t
      ∧ (t.slot k).state = .arming ∧ (t.slot k).target = target ∧ (t.slot k).armOut = (s.slot k).set
      ∧ t.slot j = { tget (s.slot j) s.log.slots j with reason := 5 }
      ∧ (∀ i, i ≠ k → i ≠ j → t.slot i = s.slot i)
      ∧ t.doors.event = s.doors.event ||| BitVec.ofNat 32 (16 * 2 ^ (6 * j)))
  ∧ (∀ (p : Path) (k target : Nat) (resync : Bool) (s : State), Live s → k < 4 → target < 16 →
    s.mayWrite p (slotPage k) = true → s.frozen p = true →
    Completes (.slotGo p k target resync) s fun t => SlotFrame k s t
      ∧ t.slot k = { s.slot k with target := (t.slot k).target, resync := resync }
      ∧ t.doors.event = s.doors.event)
  ∧ (∀ (p : Path) (k : Nat) (s : State), Live s → k < 4 → s.mayWrite p (slotPage k) = true →
    Completes (.slotAbort p k) s fun t => SlotFrame k s t
      ∧ (((s.slot k).state = .arming ∨ (s.slot k).state = .armed)
            ∧ s.tick.toNat + 64 < (s.slot k).door.toNat →
          (t.slot k).state = .cancelling ∧ (t.slot k).aborted = true ∧ (t.slot k).canOut = (s.slot k).set
            ∧ (t.slot k).reason = (s.slot k).reason ∧ t.doors.event = s.doors.event)
      ∧ (¬(((s.slot k).state = .arming ∨ (s.slot k).state = .armed)
            ∧ s.tick.toNat + 64 < (s.slot k).door.toNat) →
          t.slot k = { s.slot k with reason := 7 }
            ∧ t.doors.event = s.doors.event ||| BitVec.ofNat 32 (16 * 2 ^ (6 * k))))

/-- The arming deadline was found in this very die tick (R201). -/
abbrev DeadlineNow (s : State) (k : Nat) : Prop :=
  (s.slot k).state = .cancelling ∧ (s.slot k).aborted = false ∧ (s.slot k).canAt = s.now + 1

/-- Arming is all or none (R191, R192, R201): the last acknowledgement by door − 64 arms the slot, in the die tick of
the deadline too; one missing then cancels the change on the whole set. At the settle check every region of the set that does not pass is placed in EXCEPT
and the slot is COMPLETE (R195). -/
def ArmingIsAllOrNone : Prop :=
  (∀ (k r : Nat) (s : State), Live s → k < 4 → r < 208 → (s.slot k).ackOut.getLsbD r = true →
    (s.slot k).goAt + 3 ≤ s.now → tget 0 (s.slot k).ackAt r + 1 ≤ s.now →
    Completes (.armAcknowledgement k r) s fun t => SlotFrame k s t
      ∧ (t.slot k).ack = (s.slot k).ack ||| setOne r ∧ (t.slot k).ackOut.getLsbD r = false
      ∧ (t.slot k).set = (s.slot k).set ∧ (t.slot k).door = (s.slot k).door
      ∧ ((s.slot k).state = .arming ∨ DeadlineNow s k → (s.slot k).ack ||| setOne r = (s.slot k).set →
          s.tick.toNat + 64 ≤ (s.slot k).door.toNat →
          (t.slot k).state = .armed
            ∧ t.doors.event = s.doors.event ||| BitVec.ofNat 32 (1 * 2 ^ (6 * k)))
      ∧ (¬(((s.slot k).state = .arming ∨ DeadlineNow s k) ∧ (s.slot k).ack ||| setOne r = (s.slot k).set
            ∧ s.tick.toNat + 64 ≤ (s.slot k).door.toNat) →
          (t.slot k).state = (s.slot k).state ∧ t.doors.event = s.doors.event))
  ∧ (∀ (k : Nat) (s : State), Live s → k < 4 → (s.slot k).state = .arming →
    (s.slot k).ack ≠ (s.slot k).set → (s.slot k).door.toNat ≤ s.tick.toNat + 64 →
    Completes (.armingDeadline k) s fun t => SlotFrame k s t
      ∧ (t.slot k).state = .cancelling ∧ (t.slot k).canOut = (s.slot k).set
      ∧ (t.slot k).canAck = 0 ∧ (t.slot k).aborted = (s.slot k).aborted ∧ t.doors.event = s.doors.event)
  ∧ (∀ (k : Nat) (s : State), Live s → k < 4 →
    ((s.slot k).state = .opened ∨ (s.slot k).state = .armed) →
    (s.slot k).door.toNat + 256 * (s.slot k).maxN + 64 ≤ s.tick.toNat →
    Completes (.settleCheck k) s fun t => SlotFrame k s t
      ∧ (t.slot k).state = .complete
      ∧ (∀ r, r < 208 → (t.slot k).exc.getLsbD r = ((s.slot k).set.getLsbD r
          && !(decide ((gen s r).gear = (s.slot k).target)
            && ((decide ((gen s r).state = .locked ∨ (gen s r).state = .ready) && !(gen s r).moving)
              || ((s.slot k).bypassed.getLsbD r && decide ((gen s r).state = .bypass))))))
      ∧ t.doors.event = s.doors.event
          ||| BitVec.ofNat 32 ((4 + if (t.slot k).exc = 0 then 0 else 8) * 2 ^ (6 * k)))

/-- Cancelling (R193): a cancel message clears the ARMED of a region whose armed slot and door match and is
acknowledged in every case; the last acknowledgement ends it in CANCELLED; it is sent again to those missing every 16
tk before door − 8; at door − 1 those missing go into EXCEPT with CANCEL_LOST. -/
def CancelReachesTheSet : Prop :=
  (∀ (k r : Nat) (s : State), Live s → k < 4 → r < 208 → (s.slot k).canOut.getLsbD r = true →
    (s.slot k).armOut.getLsbD r = false → (s.slot k).canAt + 1 ≤ s.now → (gen s r).refLost = false →
    Completes (.cancelMessage k r) s fun t => Only [.doors, .regions, .hz] s t ∧ SlotsBut k s t
      ∧ RegionsBut r s t ∧ t.doors.event = s.doors.event
      ∧ (t.slot k).canOut.getLsbD r = false ∧ (t.slot k).canAckOut.getLsbD r = true
      ∧ (t.slot k).state = (s.slot k).state
      ∧ gen t r = { gen s r with armed := (gen s r).armed
          && !(decide ((gen s r).armSlot = k ∧ (gen s r).armDoor = (s.slot k).door)) }
      ∧ (t.region r).regs = (s.region r).regs)
  ∧ (∀ (k r : Nat) (s : State), Live s → k < 4 → r < 208 → (s.slot k).canAckOut.getLsbD r = true →
    tget 0 (s.slot k).canAckAt r + 1 ≤ s.now →
    Completes (.cancelAck k r) s fun t => SlotFrame k s t
      ∧ (t.slot k).canAck = (s.slot k).canAck ||| setOne r
      ∧ ((s.slot k).state = .cancelling → (s.slot k).set &&& ~~~((s.slot k).canAck ||| setOne r) = 0 →
          (t.slot k).state = .cancelled
            ∧ t.doors.event = s.doors.event ||| BitVec.ofNat 32 (2 * 2 ^ (6 * k)))
      ∧ (¬((s.slot k).state = .cancelling ∧ (s.slot k).set &&& ~~~((s.slot k).canAck ||| setOne r) = 0) →
          (t.slot k).state = (s.slot k).state ∧ t.doors.event = s.doors.event))
  ∧ (∀ (k : Nat) (s : State), Live s → k < 4 → (s.slot k).state = .cancelling →
    (s.slot k).canAt + 16 ≤ s.now → s.tick.toNat + 8 < (s.slot k).door.toNat →
    Completes (.cancelResend k) s fun t => SlotFrame k s t
      ∧ t.slot k = { s.slot k with
          canOut := (s.slot k).set &&& ~~~(s.slot k).canAck, canAt := s.now }
      ∧ t.doors.event = s.doors.event)
  ∧ (∀ (k : Nat) (s : State), Live s → k < 4 → (s.slot k).state = .cancelling →
    (s.slot k).door.toNat ≤ s.tick.toNat + 1 →
    Completes (.cancelLost k) s fun t => SlotFrame k s t
      ∧ (t.slot k).state = .cancelled ∧ (t.slot k).exc = (s.slot k).set &&& ~~~(s.slot k).canAck
      ∧ t.doors.event = s.doors.event ||| BitVec.ofNat 32 (42 * 2 ^ (6 * k)))

/-- The slots whose GO of this die tick named the gear. -/
abbrev GosOnGear (s : State) (g : Nat) : List Nat :=
  (List.range 4).filter (fun k => s.log.slots.any (·.1 == k) && (s.slot k).target == g)

/-- A gear entry takes a value before the seal, and not while a region or a busy slot holds it: then GEAR_WR_REFUSED
and nothing else (R183); a GO of the same die tick comes after it (R201; the model's reading, log entry 30). A
write of 1 to a trip bit clears it (R200). -/
def GearEntriesAndTrips : Prop :=
  (∀ (p : Path) (g : Nat) (high : Bool) (v : Word) (s : State), Live s → g < 16 →
    s.mayWrite p (0x02000 + 8 * g + (if high then 4 else 0)) = true →
    s.before p (0x02000 + 8 * g + (if high then 4 else 0)) = none → GosOnGear s g = [] →
    Completes (.gearTableWrite p g high v) s fun t => Only [.doors, .pool] s t ∧ Told s t
      ∧ t.doors.slots = s.doors.slots
      ∧ (s.lc.sealed = true → t.doors = s.doors)
      ∧ (s.lc.sealed = false → s.gearInUse g = true →
          t.doors = { s.doors with event := s.doors.event ||| oneBit 24 })
      ∧ (s.lc.sealed = false → s.gearInUse g = false → t.doors.event = s.doors.event
          ∧ (high = true → t.gearMv g = fld v 0 16 ∧ t.doors.gearA = s.doors.gearA)
          ∧ (high = false → t.gearN g = fld v 0 6 ∧ t.doors.gearB = s.doors.gearB)
          ∧ (∀ h, h ≠ g → t.gearN h = s.gearN h ∧ t.gearMv h = s.gearMv h)))
  ∧ (∀ (p : Path) (g k : Nat) (high : Bool) (v : Word) (s : State), Live s → g < 16 → s.lc.sealed = false →
    s.mayWrite p (0x02000 + 8 * g + (if high then 4 else 0)) = true →
    s.before p (0x02000 + 8 * g + (if high then 4 else 0)) = none → GosOnGear s g = [k] →
    (s.undoGo k).gearInUse g = false →
    Completes (.gearTableWrite p g high v) s fun t => Only [.doors, .pool] s t ∧ Told s t
      ∧ (high = true → t.gearMv g = fld v 0 16) ∧ (high = false → t.gearN g = fld v 0 6)
      ∧ ((s.undoGo k).log.slots = [] → ((s.undoGo k).putGear g high v).goReason k ≠ 0 →
          (t.slot k).reason = ((s.undoGo k).putGear g high v).goReason k))
  ∧ (∀ (p : Path) (w : Nat) (v : Word) (s : State), Live s → w < 7 →
    s.mayWrite p (0x020D0 + 4 * w) = true →
    Completes (.thermTripClr p w v) s fun t => Only [.regions] s t
      ∧ (∀ r, t.region r = { s.region r with thermal := { (s.region r).thermal with
          trip := (s.region r).thermal.trip && !(decide (r / 32 = w) && bit v (r % 32)) } }))

/-! ## Couplers (chapter 07) -/

/-- What an operation on one coupler leaves alone. -/
def CplFrame (i : Nat) (s t : State) : Prop :=
  Only [.cpls, .pool] s t ∧ Told s t ∧ CplsBut i s t

/-- A write of CPL_CMD by this path reaches the page of coupler function `i`. -/
abbrev CplReaches (p : Path) (i : Nat) (s : State) : Prop :=
  Live s ∧ i < 832 ∧ s.mayWrite p (cplPage i + 0x04) = true

/-- Neither ENABLING nor SWAPPING is 1 (R218). -/
abbrev CplReady (c : Coupler) : Prop := c.enableAt = none ∧ c.swapAt = none

/-- HELD, DRAINED or DISABLED (R220). -/
abbrev CplStill (c : Coupler) : Prop := c.state = .held ∨ c.state = .drained ∨ c.state = .disabled

/-- Each command of R218 that its state and condition allow has the effect of its row; the flag of HOLD, RELEASE or
DRAIN is then on its way to the side it binds. -/
def CouplerCommandsCarriedOut : Prop :=
  ∀ (p : Path) (i : Nat) (s : State), CplReaches p i s → CplReady (s.cpl i) →
    (((s.cpl i).state = .disabled ∨ (s.cpl i).state = .drained) →
      (s.sideClosed i false = true ∨ s.sideClosed i true = true) →
      Completes (.cplEnable p i) s fun t => CplFrame i s t
        ∧ t.cpl i = { (s.cpl i).zero with entries := [], ptrBad := false, enableAt := some s.now })
    ∧ (∀ side, ((s.cpl i).state = .flowing ∨ (s.cpl i).state = .holding ∨ (s.cpl i).state = .held) →
      s.sideClosed i side = true →
      Completes (.cplDrain p i side) s fun t => CplFrame i s t
        ∧ t.cpl i = { s.cpl i with state := .draining, stopSide := side, drainAt := s.now, moded := false,
                                   flight := some s.now, crossed := 0 })
    ∧ ((s.cpl i).state = .flowing →
      Completes (.cplHold p i) s fun t => CplFrame i s t
        ∧ t.cpl i = { s.cpl i with state := .holding, holdAt := s.now, slowDone := false,
                                   flight := some s.now, crossed := 0 })
    ∧ ((s.cpl i).state = .held →
      Completes (.cplRelease p i) s fun t => CplFrame i s t
        ∧ t.cpl i = { s.cpl i with state := .flowing, hold := true, flight := some s.now, crossed := 0 })
    ∧ (CplStill (s.cpl i) → s.frozen p = false → (s.cpl i).onSpare = false → (s.cpl (cplSpare i)).reserved = none →
      (s.cpl (cplSpare i)).standsFor = none →
      Completes (.cplSwap p i) s fun t => Only [.cpls] s t
        ∧ t.cpl i = { (s.cpl i).zero with swapAt := some (s.now, true) }
        ∧ t.cpl (cplSpare i) = { s.cpl (cplSpare i) with reserved := some i }
        ∧ (∀ j, j ≠ i → j ≠ cplSpare i → t.cpl j = s.cpl j))
    ∧ (CplStill (s.cpl i) → (s.cpl i).onSpare = true →
      Completes (.cplUnswap p i) s fun t => CplFrame i s t
        ∧ t.cpl i = { (s.cpl i).zero with swapAt := some (s.now, false) })
    ∧ (((s.cpl i).state = .held ∨ (s.cpl i).state = .drained) →
      Completes (.cplDisable p i) s fun t => CplFrame i s t
        ∧ t.cpl i = { s.cpl i with state := .disabled, syncNow := (s.cpl i).sync3 })

/-- The commands R218 and R222 refuse: in a state not listed, by their condition, while ENABLING or SWAPPING, a reserved
code, or any on a spare lane's page. -/
def CplRefused (p : Path) (i : Nat) (s : State) (c : Instr) : Prop :=
  let k := s.cpl i
  (i < 832 ∧
    ((c = .cplEnable p i ∧ ¬(CplReady k ∧ (k.state = .disabled ∨ k.state = .drained)
        ∧ (s.sideClosed i false = true ∨ s.sideClosed i true = true)))
    ∨ (∃ side, c = .cplDrain p i side ∧ ¬(CplReady k
        ∧ (k.state = .flowing ∨ k.state = .holding ∨ k.state = .held) ∧ s.sideClosed i side = true))
    ∨ (c = .cplHold p i ∧ ¬(CplReady k ∧ k.state = .flowing))
    ∨ (c = .cplRelease p i ∧ ¬(CplReady k ∧ k.state = .held))
    ∨ (c = .cplSwap p i ∧ ¬(CplReady k ∧ CplStill k ∧ k.onSpare = false
        ∧ (s.cpl (cplSpare i)).reserved = none ∧ (s.cpl (cplSpare i)).standsFor = none))
    ∨ (c = .cplUnswap p i ∧ ¬(CplReady k ∧ CplStill k ∧ k.onSpare = true))
    ∨ (c = .cplDisable p i ∧ ¬(CplReady k ∧ (k.state = .held ∨ k.state = .drained)))
    ∨ (∃ code, 8 ≤ code ∧ code ≤ 15 ∧ c = .cplReservedCmd p i code)))
  ∨ (832 ≤ i ∧ i < 936 ∧
    (c = .cplEnable p i ∨ (∃ side, c = .cplDrain p i side) ∨ c = .cplHold p i ∨ c = .cplRelease p i
      ∨ c = .cplSwap p i ∨ c = .cplUnswap p i ∨ c = .cplDisable p i
      ∨ (∃ code, 1 ≤ code ∧ code ≤ 15 ∧ c = .cplReservedCmd p i code)))

/-- A refused command sets CMD_REFUSED and has no other effect (R218, R222). The host's SWAP is without effect while
the sequencer is halted (R30; the model's reading, log entry 20). -/
def CouplerCommandsRefused : Prop :=
  (∀ (p : Path) (i : Nat) (c : Instr) (s : State), Live s → s.mayWrite p (cplPage i + 0x04) = true →
    CplRefused p i s c → (c = .cplSwap p i → s.frozen p = false) →
    Completes c s fun t => CplFrame i s t
      ∧ t.cpl i = { s.cpl i with event := (s.cpl i).event ||| oneBit 6 })
  ∧ (∀ (p : Path) (i : Nat) (s : State), s.mayWrite p (cplPage i + 0x04) = true → s.frozen p = true →
    Sys2Proof.Machine.exec (.cplSwap p i) s = .next s)

/-- What the couplers do on their own (R205, R209, R213, R215, R216, R218, R219, R221): ENABLE, DRAIN, HOLD and SWAP reach their
end, with the event and the counts R216 and R219 name, HELD once the hold binds the write side and DRAINED two die
ticks after the live side's mode; a hold of 1,024 tk is told, as is a write pending for STALL_LIMIT. -/
def CouplersReachTheirEnds : Prop :=
  ∀ (i : Nat) (s : State), Live s → i < 832 →
    ((s.cpl i).enableAt.isSome = true →
      Completes (.enableComplete i) s fun t => CplFrame i s t
        ∧ t.cpl i = { (s.cpl i).zero with state := .flowing, enableAt := none, hold := false, moded := false,
                                          flight := none })
    ∧ ((s.cpl i).state = .draining → (s.cpl i).drainAt + 2 ≤ s.now →
      (s.sideClosed i false = true ∧ s.sideClosed i true = true
        ∨ (s.cpl i).moded = true ∧ (s.cpl i).modedAt + 2 ≤ s.now ∨ (s.cpl i).drainAt + 9 ≤ s.now) →
      Completes (.drained i) s fun t => CplFrame i s t
        ∧ t.cpl i = { (s.cpl i).level ((s.cpl i).liveWrites (Config.cplDir i)) with
            state := .drained, entries := [], ptrBad := false, hold := false, flight := none,
            syncNow := (s.cpl i).sync3,
            discards := min 0xFFFF ((s.cpl i).discards + (s.cpl i).entries.length),
            event := (s.cpl i).event ||| oneBit 1 })
    ∧ ((s.cpl i).state = .holding → (s.cpl i).entries = [] →
      ((s.cpl i).hold = true ∨ (s.cpl i).holdAt + 7 ≤ s.now) →
      Completes (.held i) s fun t => CplFrame i s t
        ∧ t.cpl i = { s.cpl i with state := .held, syncNow := (s.cpl i).sync3, hold := true, flight := none,
                                   event := (s.cpl i).event ||| oneBit 0 })
    ∧ ((s.cpl i).state = .holding → (s.cpl i).slowDone = false → (s.cpl i).holdAt + 1024 ≤ s.now →
      Completes (.holdSlow i) s fun t => CplFrame i s t
        ∧ t.cpl i = { s.cpl i with slowDone := true, event := (s.cpl i).event ||| oneBit 2 })
    ∧ (∀ at_, (s.cpl i).swapAt = some (at_, true) →
      Completes (.swapped i) s fun t => Only [.cpls, .pool] s t ∧ Told s t
        ∧ t.cpl i = { s.cpl i with swapAt := none, onSpare := true,
                                   event := (s.cpl i).event ||| oneBit 7 }
        ∧ t.cpl (cplSpare i) = { s.cpl (cplSpare i) with standsFor := some i }
        ∧ (∀ j, j ≠ i → j ≠ cplSpare i → t.cpl j = s.cpl j))
    ∧ (∀ at_, (s.cpl i).swapAt = some (at_, false) →
      Completes (.swapped i) s fun t => Only [.cpls, .pool] s t ∧ Told s t
        ∧ t.cpl i = { s.cpl i with swapAt := none, onSpare := false,
                                   event := (s.cpl i).event ||| oneBit 7 }
        ∧ t.cpl (cplSpare i) = { s.cpl (cplSpare i) with standsFor := none, reserved := none }
        ∧ (∀ j, j ≠ i → j ≠ cplSpare i → t.cpl j = s.cpl j))
    ∧ ((s.cpl i).wrPend.isSome = true → (s.cpl i).stallDone = false → (s.cpl i).limit ≠ 0 →
      (s.cpl i).wrPendAt + (s.cpl i).limit ≤ s.now →
      Completes (.stallLong i) s fun t => CplFrame i s t
        ∧ t.cpl i = { s.cpl i with stallDone := true, event := (s.cpl i).event ||| oneBit 3 })
    ∧ (∀ p, s.mayWrite p (cplPage i + 0x1C) = true →
      Completes (.clrStats p i) s fun t => CplFrame i s t
        ∧ t.cpl i = { s.cpl i with peak := 0, stallTk := 0, stallFrom := s.now, discards := 0,
                                   parErrs := 0, ptrErrs := 0 })

/-- The unread entries as the write side sees them at an edge (R205, R211). -/
abbrev unreadAt (c : Coupler) (late : Bool) : Nat := grayGap c.wr.ptr (c.wr.edge c.sync late).sees

/-- An entry is visible to the read side at an edge (R204, R211). -/
abbrev VisibleAt (c : Coupler) (late : Bool) : Prop := 0 < grayGap (c.rd.edge c.sync late).sees c.rd.ptr

/-- The write side and the read side of a coupler pass entries in this state: FLOWING or HOLDING, or DRAINING where
this is the live side and the flag of the drain has not reached it (R216, R219). -/
abbrev PassesWrites (i : Nat) (c : Coupler) : Prop :=
  c.state = .flowing ∨ c.state = .holding
    ∨ (c.state = .draining ∧ c.liveWrites (Config.cplDir i) = true ∧ c.moded = false)
abbrev PassesReads (i : Nat) (c : Coupler) : Prop :=
  c.state = .flowing ∨ c.state = .holding
    ∨ (c.state = .draining ∧ c.liveWrites (Config.cplDir i) = false ∧ c.moded = false)

/-- Writes (R203, R205, R207, R211, R213, R216, R219), with no flag on its way: an entry that stands at a write-side
edge is taken where the write side passes entries, holds none back, sees fewer than 16 unread and its pointers
check; else it stays pending and the writer holds it; in DISABLED and DRAINED, and where a drain's mode is in
force at this side, it completes and is discarded. A pointer check that fails stops it and is counted. -/
def CouplersTakeWritesInOrder : Prop :=
  ∀ (i : Nat) (s : State), Live s → i < 832 → s.sideRuns i (Config.cplDir i) = true → (s.cpl i).flight = none →
    (∀ req lanes late e, (req = true ∨ (s.cpl i).wrPend.isSome = true) →
      e = (s.cpl i).wrPend.getD (cplPayload i lanes) →
      Completes (.couplerWrite i req lanes late false) s fun t => CplFrame i s t
        ∧ (t.cpl i).state = (s.cpl i).state ∧ (t.cpl i).event = (s.cpl i).event
        ∧ (PassesWrites i (s.cpl i) → (s.cpl i).hold = false → unreadAt (s.cpl i) late < 16 →
            (t.cpl i).entries = (s.cpl i).entries ++ [e] ∧ (t.cpl i).wrPend = none
              ∧ (t.cpl i).wr.ptr = grayStep (s.cpl i).wr.ptr ∧ (t.cpl i).discards = (s.cpl i).discards)
        ∧ (PassesWrites i (s.cpl i) → (s.cpl i).hold = true ∨ 16 ≤ unreadAt (s.cpl i) late →
            (t.cpl i).entries = (s.cpl i).entries ∧ (t.cpl i).wrPend = some e
              ∧ (t.cpl i).discards = (s.cpl i).discards)
        ∧ ((s.cpl i).state = .held →
            (t.cpl i).entries = (s.cpl i).entries ∧ (t.cpl i).wrPend = some e
              ∧ (t.cpl i).discards = (s.cpl i).discards)
        ∧ ((s.cpl i).state = .disabled ∨ (s.cpl i).state = .drained
            ∨ ((s.cpl i).state = .draining ∧ (s.cpl i).liveWrites (Config.cplDir i) = true
                ∧ (s.cpl i).moded = true) →
            (t.cpl i).entries = (s.cpl i).entries ∧ (t.cpl i).wrPend = none
              ∧ (t.cpl i).discards = min 0xFFFF ((s.cpl i).discards + 1)))
    ∧ (∀ lanes late, (s.cpl i).wrPend = none →
      Completes (.couplerWrite i false lanes late false) s fun t => CplFrame i s t
        ∧ t.cpl i = { s.cpl i with wr := (s.cpl i).wr.edge (s.cpl i).sync late, ptrBad := false })
    ∧ (∀ lanes late, PassesWrites i (s.cpl i) →
      Completes (.couplerWrite i true lanes late true) s fun t => CplFrame i s t
        ∧ (t.cpl i).entries = (s.cpl i).entries ∧ (t.cpl i).wrPend.isSome = true
        ∧ (t.cpl i).ptrErrs = min 0xFF ((s.cpl i).ptrErrs + 1)
        ∧ (t.cpl i).event = (s.cpl i).event ||| oneBit 5)

/-- Reads (R203, R204, R206, R207, R211, R213), with no flag on its way: a read that sees an entry, where the read side
passes entries, takes the oldest and delivers it, a lane with bad parity poisoned and counted; any other
returns the idle word with EMPTY and takes nothing. A pointer check that fails stops it and is counted. -/
def CouplersGiveReadsInOrder : Prop :=
  ∀ (i : Nat) (s : State), Live s → i < 832 → s.sideRuns i (!Config.cplDir i) = true → (s.cpl i).flight = none →
    (∀ e rest late badLanes bad, (s.cpl i).entries = e :: rest → PassesReads i (s.cpl i) →
      VisibleAt (s.cpl i) late →
      bad = (badLanes.filter (fun k => decide (k < cplLaneCount i))).eraseDups →
      Completes (.couplerRead i true late badLanes false) s fun t =>
        Only [.cpls, .pool, .out] s t ∧ Told s t ∧ CplsBut i s t
        ∧ (t.cpl i).entries = rest ∧ (t.cpl i).state = (s.cpl i).state
        ∧ (t.cpl i).rd.ptr = grayStep (s.cpl i).rd.ptr
        ∧ t.out = { s.out with cplRead := some (e, bad, false) }
        ∧ (t.cpl i).parErrs = min 0xFF ((s.cpl i).parErrs + bad.length)
        ∧ (t.cpl i).event = (s.cpl i).event ||| (if bad = [] then 0 else oneBit 4))
    ∧ (∀ late badLanes, (¬PassesReads i (s.cpl i) ∨ ¬VisibleAt (s.cpl i) late) →
      Completes (.couplerRead i true late badLanes false) s fun t =>
        Only [.cpls, .out] s t ∧ CplsBut i s t
        ∧ t.cpl i = { s.cpl i with rd := (s.cpl i).rd.edge (s.cpl i).sync late, ptrBad := false }
        ∧ t.out = { s.out with cplRead := some (List.replicate (cplLaneCount i) 0x1D1E1D1E1D1E1D1E, [], true) })
    ∧ (∀ late badLanes,
      Completes (.couplerRead i false late badLanes false) s fun t => Only [.cpls] s t ∧ CplsBut i s t
        ∧ t.cpl i = { s.cpl i with rd := (s.cpl i).rd.edge (s.cpl i).sync late, ptrBad := false })
    ∧ (∀ late badLanes,
      Completes (.couplerRead i true late badLanes true) s fun t =>
        Only [.cpls, .pool, .out] s t ∧ Told s t ∧ CplsBut i s t
        ∧ (t.cpl i).entries = (s.cpl i).entries ∧ (t.cpl i).state = (s.cpl i).state
        ∧ (t.cpl i).ptrErrs = min 0xFF ((s.cpl i).ptrErrs + 1)
        ∧ (t.cpl i).event = (s.cpl i).event ||| oneBit 5
        ∧ t.out = { s.out with cplRead := some (List.replicate (cplLaneCount i) 0x1D1E1D1E1D1E1D1E, [], true) })

/-- Pointers and flags (R208, R211, R218, R219): a pointer moves by one bit at a time and counts 32 places; a step of
the other side's is seen once SYNC + 1 edges have come, or one later; a flag is applied after SYNC + 1 edges of the
side it binds, 7 tk after its command at the latest. A side whose clock stands has no edge. -/
def CouplersCrossByPointers : Prop :=
  (∀ n : BitVec 5, ungray (gray n) = n ∧ ∃ i, i < 5 ∧ grayStep n = n ^^^ BitVec.ofNat 5 (2 ^ i))
  ∧ (∀ (x : CplSide) (sync t : Nat) (late : Bool), x.due = [t] →
    (t + sync + 1 + (if late then 1 else 0) ≤ x.edges + 1 →
      (x.edge sync late).sees = grayStep x.sees ∧ (x.edge sync late).due = [])
    ∧ (x.edges + 1 < t + sync + 1 + (if late then 1 else 0) →
      (x.edge sync late).sees = x.sees ∧ (x.edge sync late).due = [t]))
  ∧ (∀ (c : Coupler) (now t : Nat), c.flight = some t → t < now →
    ((if c.syncNow then 3 else 2) < c.crossed + 1 ∨ t + 7 ≤ now →
      (c.state = .draining → (c.flagEdge now).moded = true ∧ (c.flagEdge now).modedAt = now)
      ∧ (c.state = .holding → (c.flagEdge now).hold = true)
      ∧ (c.state = .flowing → (c.flagEdge now).hold = false)
      ∧ (c.flagEdge now).flight = none)
    ∧ (c.crossed + 1 ≤ (if c.syncNow then 3 else 2) → now < t + 7 →
      c.flagEdge now = { c with crossed := c.crossed + 1 }))
  ∧ (∀ (i : Nat) (req late ptrBad : Bool) (lanes : List DWord) (badLanes : List Nat) (s : State), i < 832 →
    (s.sideRuns i (Config.cplDir i) = false →
      Sys2Proof.Machine.exec (.couplerWrite i req lanes late ptrBad) s = .next s)
    ∧ (s.sideRuns i (!Config.cplDir i) = false →
      Sys2Proof.Machine.exec (.couplerRead i req late badLanes ptrBad) s = .next s))

/-! ## Measurement (chapter 08) -/

/-- What an operation on one measurement channel leaves alone. -/
def ChanFrame (ch : Nat) (s t : State) : Prop :=
  Only [.meas, .pool] s t ∧ Told s t ∧ ChansBut ch s t

/-- MEAS_EVENT gains these bits; DROP, bit 8, too where a coach of the channel finds no room (R247, R260). -/
def MeasTells (ch : Nat) (bits : Word) (s t : State) : Prop :=
  (t.chan ch).event ||| 0x100 = (s.chan ch).event ||| (bits ||| 0x100)

/-- A result completes with this status (R238, R240): VALID, not yet read, its sequence number one on. -/
def ResultIs (ch status interval : Nat) (subres : Bool) (s t : State) : Prop :=
  (t.chan ch).result.valid = true ∧ (t.chan ch).result.alreadyRead = false
    ∧ (t.chan ch).result.seq = ((s.chan ch).result.seq + 1) % 4096
    ∧ (t.chan ch).result.status = status ∧ (t.chan ch).result.interval = interval
    ∧ (t.chan ch).result.subres = subres ∧ (t.chan ch).result.tick = (s.chan ch).startTick

/-- No ARM of this die tick is on a channel above this one, which it might take the queue of (R246). -/
abbrev NoArmAbove (ch : Nat) (s : State) : Prop := ∀ e, e ∈ s.log.arms → e.1 ≤ ch

/-- A captured interval is due to complete in this die tick, the last in which it may (R238). -/
abbrev CompletionDue (s : State) (ch v : Nat) (sub : Bool) : Prop :=
  ∃ at_, (s.chan ch).stopped = some (v, sub, at_) ∧ at_ + 4 ≤ s.now

/-- ARM, DISARM, reserved codes, configuration writes (R230, R231, R240): an ARM clears VALID and starts the calibration, or
completes with status 2 and TB_FAIL where the time base fails; a DISARM completes a measurement with status 4; each is
refused where R230 says so, and then nothing else changes. In one die tick a completion comes before a DISARM, and
makes no second result in REPEAT; a configuration write comes before an ARM; of two ARMs for one queue the
lower-numbered channel's stands (R246). -/
def MeasurementCommands : Prop :=
  ∀ (p : Path) (ch : Nat) (s : State), Live s → ch < 64 →
    (s.mayWrite p (chanPage ch + 0x08) = true →
      (s.armRefused ch = false → NoArmAbove ch s →
        Completes (.measArm p ch true) s fun t => ChanFrame ch s t ∧ t.pool = s.pool
          ∧ (t.chan ch).state = .calibrating ∧ (t.chan ch).calAt = s.now ∧ (t.chan ch).tbOk = true
          ∧ (t.chan ch).result.valid = false ∧ (t.chan ch).event = (s.chan ch).event
          ∧ (t.chan ch).cfg = (s.chan ch).cfg)
      ∧ (s.armRefused ch = false → NoArmAbove ch s →
        Completes (.measArm p ch false) s fun t => ChanFrame ch s t ∧ (t.chan ch).state = .idle
          ∧ (t.chan ch).tbOk = false ∧ ResultIs ch 2 0 false s t ∧ MeasTells ch (oneBit 0 ||| oneBit 1) s t)
      ∧ (∀ j m tb, s.armRefused ch = false → s.log.arms = [(j, m, tb)] → ch < j → (s.chan ch).mode = 2 →
        (s.chan j).mode = 2 → (s.chan j).state ≠ .idle → (s.chan j).queueNo = (s.chan ch).queueNo →
        Completes (.measArm p ch true) s fun t => Only [.meas, .pool] s t ∧ Told s t
          ∧ (t.chan ch).state = .calibrating ∧ (t.chan j).state = m.state ∧ bit (t.chan j).event 7 = true
          ∧ (∀ i, i ≠ ch → i ≠ j → t.chan i = s.chan i))
      ∧ ((s.chan ch).state = .streaming →
        Completes (.measDisarm p ch) s fun t => ChanFrame ch s t ∧ (t.chan ch).state = .idle
          ∧ (t.chan ch).stream = [] ∧ (t.chan ch).result = (s.chan ch).result)
      ∧ (((s.chan ch).state = .calibrating ∨ (s.chan ch).state = .waitStart
            ∨ ((s.chan ch).state = .timing ∧ (s.chan ch).again = none
                ∧ ∀ v sub, ¬CompletionDue s ch v sub)) →
        Completes (.measDisarm p ch) s fun t => ChanFrame ch s t ∧ (t.chan ch).state = .idle
          ∧ ResultIs ch 4 0 false s t ∧ MeasTells ch (oneBit 0) s t)
      ∧ (∀ v sub, (s.chan ch).state = .timing → (s.chan ch).again = none → CompletionDue s ch v sub →
        Completes (.measDisarm p ch) s fun t => ChanFrame ch s t ∧ (t.chan ch).state = .idle
          ∧ ResultIs ch 0 v sub s t
          ∧ MeasTells ch (oneBit 0 ||| (if sub then oneBit 5 else 0)
              ||| (if (s.chan ch).mode = 1 then 0 else oneBit 7)) s t)
      ∧ ((s.chan ch).state = .timing → (s.chan ch).again.isSome = true →
        Completes (.measDisarm p ch) s fun t => ChanFrame ch s t ∧ t.pool = s.pool
          ∧ t.chan ch = { s.chan ch with state := .idle, again := none })
      ∧ (∀ c, ((s.armRefused ch = true ∧ ∃ tb, c = .measArm p ch tb)
            ∨ ((s.chan ch).state = .idle ∧ c = .measDisarm p ch)
            ∨ ∃ code, 3 ≤ code ∧ code ≤ 7 ∧ c = .measReservedCmd p ch code) →
        Completes c s fun t => ChanFrame ch s t
          ∧ t.chan ch = { s.chan ch with event := (t.chan ch).event, streamDrops := (t.chan ch).streamDrops }
          ∧ MeasTells ch (oneBit 7) s t))
    ∧ (∀ reg v, reg < 3 → s.mayWrite p (chanPage ch + measCfgOff reg) = true →
      s.before p (chanPage ch + measCfgOff reg) = none → s.log.arms.any (fun e => e.1 == ch) = false →
      Completes (.measCfgWrite p ch reg v) s fun t => ChanFrame ch s t
        ∧ ((s.chan ch).state = .idle → t.chan ch = { s.chan ch with
            cfg := if reg = 0 then v &&& 0x07FFFFFF else (s.chan ch).cfg,
            cfg2 := if reg = 1 then v &&& 0x00FF7FFF else (s.chan ch).cfg2,
            tsOffset := if reg = 2 then v &&& 0xFFFF else (s.chan ch).tsOffset })
        ∧ ((s.chan ch).state ≠ .idle →
            t.chan ch = { s.chan ch with
              event := (t.chan ch).event, streamDrops := (t.chan ch).streamDrops }
            ∧ MeasTells ch (oneBit 7) s t))
    ∧ (∀ reg v m tb, reg < 3 → s.mayWrite p (chanPage ch + measCfgOff reg) = true →
      s.before p (chanPage ch + measCfgOff reg) = none → s.log.arms = [(ch, m, tb)] →
      (s.chan ch).state ≠ .idle →
      Completes (.measCfgWrite p ch reg v) s fun t => ChanFrame ch s t
        ∧ (t.chan ch).cfg = (if reg = 0 then v &&& 0x07FFFFFF else m.cfg)
        ∧ (t.chan ch).cfg2 = (if reg = 1 then v &&& 0x00FF7FFF else m.cfg2)
        ∧ (t.chan ch).tsOffset = (if reg = 2 then v &&& 0xFFFF else m.tsOffset))

/-- The sums of one interpolator pass (R233). -/
abbrev SumsPass (s1 s2 : Nat) : Prop := 192 ≤ s1 ∧ s1 ≤ 320 ∧ s1 + 224 ≤ s2 ∧ s2 ≤ s1 + 288

/-- An edge of an input comes a counter period or more after the one before it (R226). -/
abbrev Spaced (last : Option Nat) (t : Nat) : Prop := ∀ u, last = some u → u + 32 ≤ t

/-- An edge `pos` LSB into the die tick reaches a channel whose input has this source: it comes after the edges seen
before, and the source has edges: not a region in OFF (R225). -/
abbrev EdgeComes (s : State) (ch src pos : Nat) : Prop :=
  (s.chan ch).seenAt ≤ 64 * s.now + pos % 64 ∧ s.sourceRuns src = true

/-- An interpolator is within 4 counter periods of its last capture (R228). -/
abbrev Dead (cap : Option Nat) (t : Nat) : Prop := ∃ u, cap = some u ∧ t < u + 128

/-- The calibration and the start edges of an interval (R225, R226, R228, R229, R232 to R234, R236): sums that pass
lead to WAIT_START, or to STREAMING; sums that do not, to status 3 and CAL_FAIL. A start edge is captured with its
TICK and its time; a second one counts as EXTRA_START; an edge in the dead time is missed, one too soon after the
last sets RATE_HIGH, and a source that is a region in OFF has none. -/
def StartEdges : Prop :=
  ∀ (ch : Nat) (s : State), Live s → ch < 64 →
    (∀ a1 a2 b1 b2, (s.chan ch).state = .calibrating → (s.chan ch).calAt + 32 ≤ s.now →
      Completes (.measCalDone ch { a1 := a1, a2 := a2, b1 := b1, b2 := b2 }) s fun t => ChanFrame ch s t
        ∧ (SumsPass a1 a2 → SumsPass b1 b2 →
            (t.chan ch).state = (if (s.chan ch).mode = 2 then .streaming else .waitStart)
              ∧ (t.chan ch).sums = { a1 := a1, a2 := a2, b1 := b1, b2 := b2 }
              ∧ (t.chan ch).event = (s.chan ch).event ∧ (t.chan ch).calOk = true)
        ∧ (¬(SumsPass a1 a2 ∧ SumsPass b1 b2) → (t.chan ch).state = .idle ∧ (t.chan ch).calOk = false
              ∧ (t.chan ch).sums = (s.chan ch).sums
              ∧ ResultIs ch 3 0 false s t ∧ MeasTells ch (oneBit 0 ||| oneBit 2) s t))
    ∧ (∀ raw pos, s.sourceRuns (s.chan ch).startSrc = false →
      Sys2Proof.Machine.exec (.startEdge ch raw pos) s = .next s)
    ∧ (∀ raw pos e u, e = 64 * s.now + pos % 64 →
      ((s.chan ch).state = .waitStart ∨ ((s.chan ch).state = .timing ∧ (s.chan ch).again = none)) →
      EdgeComes s ch (s.chan ch).startSrc pos → (s.chan ch).lastStart = some u → e < u + 32 →
      Completes (.startEdge ch raw pos) s fun t => ChanFrame ch s t
        ∧ (t.chan ch).rateHigh = true ∧ bit (t.chan ch).event 10 = true)
    ∧ (∀ raw pos e, e = 64 * s.now + pos % 64 → EdgeComes s ch (s.chan ch).startSrc pos →
      Spaced (s.chan ch).lastStart e →
      ((s.chan ch).state = .timing → (s.chan ch).again = none → ¬Dead (s.chan ch).capA e →
        Completes (.startEdge ch raw pos) s fun t => ChanFrame ch s t
          ∧ t.chan ch = { s.chan ch with
              lastStart := some e, seenAt := e, extraStart := true, extraStarts := min 0xFFFF ((s.chan ch).extraStarts + 1) })
      ∧ ((s.chan ch).state = .waitStart → Dead (s.chan ch).capA e →
        Completes (.startEdge ch raw pos) s fun t => ChanFrame ch s t
          ∧ (t.chan ch).state = .waitStart
          ∧ (t.chan ch).missed = min 0xFFFF ((s.chan ch).missed + 1) ∧ MeasTells ch (oneBit 6) s t)
      ∧ ((s.chan ch).state = .waitStart → ¬Dead (s.chan ch).capA e →
        Completes (.startEdge ch raw pos) s fun t => ChanFrame ch s t
          ∧ (t.chan ch).state = .timing ∧ (t.chan ch).startRaw = raw ∧ (t.chan ch).startTick = s.tick
          ∧ (t.chan ch).startT = e ∧ (t.chan ch).capA = some e
          ∧ (t.chan ch).stopCount = 0 ∧ (t.chan ch).heldStop = none
          ∧ ((s.chan ch).heldStop = none → (t.chan ch).stopped = (s.chan ch).stopped
              ∧ (t.chan ch).orphans = (s.chan ch).orphans ∧ t.pool = s.pool)
          ∧ (∀ ip held tick, (s.chan ch).heldStop = some (ip, held, tick) →
              ((s.chan ch).nearHeld raw e ip held = true → (t.chan ch).stopped = some (0, true, s.now)
                ∧ (t.chan ch).orphans = (s.chan ch).orphans)
              ∧ ((s.chan ch).nearHeld raw e ip held = false →
                  (t.chan ch).orphans = min 0xFFFF ((s.chan ch).orphans + 1)
                  ∧ MeasTells ch (oneBit 4) s t))))

/-- The stop edges of an interval (R228, R234 to R237): one before the start is held for 2 counter periods, the one
held before it an orphan; where the two inputs share their source none is held; the STOP_N-th stop after the start
gives the interval of R235 with the coarse counter at its reference edge; one in the dead time counts, and is
missed. -/
def StopEdges : Prop :=
  ∀ (ch : Nat) (s : State), Live s → ch < 64 →
    (∀ raw pos, s.sourceRuns (s.chan ch).stopSrc = false →
      Sys2Proof.Machine.exec (.stopEdge ch raw pos) s = .next s)
    ∧ (∀ raw pos e, e = 64 * s.now + pos % 64 → EdgeComes s ch (s.chan ch).stopSrc pos →
      Spaced (s.chan ch).lastStop e →
      ((s.chan ch).state = .waitStart → (s.chan ch).startSrc ≠ (s.chan ch).stopSrc →
        ¬Dead (s.chan ch).capB e →
        Completes (.stopEdge ch raw pos) s fun t => ChanFrame ch s t
          ∧ (t.chan ch).heldStop = some (raw, e, s.tick.toNat) ∧ (t.chan ch).state = .waitStart
          ∧ (t.chan ch).capB = some e
          ∧ ((s.chan ch).heldStop = none → (t.chan ch).orphans = (s.chan ch).orphans ∧ t.pool = s.pool)
          ∧ ((s.chan ch).heldStop.isSome = true →
              (t.chan ch).orphans = min 0xFFFF ((s.chan ch).orphans + 1) ∧ MeasTells ch (oneBit 4) s t))
      ∧ ((s.chan ch).state = .waitStart → (s.chan ch).startSrc = (s.chan ch).stopSrc →
        ¬Dead (s.chan ch).capB e →
        Completes (.stopEdge ch raw pos) s fun t => ChanFrame ch s t
          ∧ t.chan ch = { s.chan ch with lastStop := some e, seenAt := e })
      ∧ ((s.chan ch).state = .timing → (s.chan ch).again = none → (s.chan ch).stopped = none →
        ¬((s.chan ch).shared = true ∧ e ≤ (s.chan ch).startT) → ¬Dead (s.chan ch).capB e →
        Completes (.stopEdge ch raw pos) s fun t => ChanFrame ch s t
          ∧ t.chan ch = { s.chan ch with
              lastStop := some e, seenAt := e, capB := some e,
              stopCount := (s.chan ch).stopCount + 1,
              stopped := if (s.chan ch).stopCount + 1 < max 1 (fld (s.chan ch).cfg2 0 8)
                  ∨ (2 : Int) ^ 40 ≤ (e / 32 : Int) - ((s.chan ch).startT / 32 : Nat) then none
                else some (((s.chan ch).intervalOf ((e / 32 : Int) - ((s.chan ch).startT / 32 : Nat)) raw).1,
                  ((s.chan ch).intervalOf ((e / 32 : Int) - ((s.chan ch).startT / 32 : Nat)) raw).2, s.now) })
      ∧ ((s.chan ch).state = .timing → (s.chan ch).again = none → (s.chan ch).stopped = none →
        ¬((s.chan ch).shared = true ∧ e ≤ (s.chan ch).startT) → Dead (s.chan ch).capB e →
        Completes (.stopEdge ch raw pos) s fun t => ChanFrame ch s t
          ∧ (t.chan ch).stopCount = (s.chan ch).stopCount + 1 ∧ (t.chan ch).stopped = none
          ∧ (t.chan ch).missed = min 0xFFFF ((s.chan ch).missed + 1) ∧ MeasTells ch (oneBit 6) s t))
    ∧ (∀ ip held tick, (s.chan ch).state = .waitStart → (s.chan ch).heldStop = some (ip, held, tick) →
      held + 64 ≤ 64 * s.now + 63 →
      Completes (.orphan ch) s fun t => ChanFrame ch s t ∧ (t.chan ch).state = .waitStart
        ∧ (t.chan ch).heldStop = none
        ∧ (t.chan ch).orphans = min 0xFFFF ((s.chan ch).orphans + 1) ∧ MeasTells ch (oneBit 4) s t)

/-- Results complete and are read (R237 to R240, R246): a captured interval gives a result with status 0, the
counter's overflow one with status 1; a REPEAT channel begins again in the next die tick, the result standing
till then. A read of RESULT_HEAD by the host or the sequencer returns it, sets ALREADY_READ in it and latches the
interval and TICK words; in the die tick of a completion it comes first, and finds the result before. -/
def ResultsCompleteAndAreRead : Prop :=
  (∀ (ch : Nat) (s : State), Live s → ch < 64 →
    (∀ v sub at_ tb, (s.chan ch).state = .timing → (s.chan ch).stopped = some (v, sub, at_) →
      Completes (.resultComplete ch tb) s fun t => ChanFrame ch s t ∧ ResultIs ch 0 v sub s t
        ∧ (t.chan ch).state = (if (s.chan ch).mode = 1 then .timing else .idle)
        ∧ ((s.chan ch).mode = 1 → (t.chan ch).again = some tb)
        ∧ MeasTells ch (oneBit 0 ||| if sub then oneBit 5 else 0) s t)
    ∧ (∀ tb, (s.chan ch).state = .timing → (s.chan ch).stopped = none → (s.chan ch).again = none →
      2 ^ 40 + (s.chan ch).startT / 32 + 2 ≤ 2 * s.now + 1 →
      Completes (.overflow ch tb) s fun t => ChanFrame ch s t ∧ ResultIs ch 1 0 false s t
        ∧ (t.chan ch).state = (if (s.chan ch).mode = 1 then .timing else .idle)
        ∧ ((s.chan ch).mode = 1 → (t.chan ch).again = some tb)
        ∧ MeasTells ch (oneBit 0 ||| oneBit 3) s t)
    ∧ (∀ p, p ≠ .smbus → (s.chan ch).doneAt ≠ some s.now →
      Completes (.resultHeadRead p ch) s fun t => Only [.meas, .out] s t ∧ ChansBut ch s t
        ∧ t.out = { s.out with readData := some (s.chan ch).result.head }
        ∧ (t.chan ch).result = { (s.chan ch).result with alreadyRead := (s.chan ch).result.valid }
        ∧ (t.chan ch).latLo = BitVec.ofNat 32 (s.chan ch).result.interval
        ∧ (t.chan ch).latTick = loWord (s.chan ch).result.tick
        ∧ (t.chan ch).state = (s.chan ch).state ∧ (t.chan ch).event = (s.chan ch).event)
    ∧ (∀ p, p ≠ .smbus → (s.chan ch).doneAt = some s.now →
      Completes (.resultHeadRead p ch) s fun t => Only [.meas, .out] s t ∧ ChansBut ch s t
        ∧ t.out = { s.out with readData := some (s.chan ch).prior.head }
        ∧ (t.chan ch).result = (s.chan ch).result
        ∧ (t.chan ch).latLo = BitVec.ofNat 32 (s.chan ch).prior.interval))
  ∧ (∀ (ch : Nat) (s : State), (s.meas.map (·.1)).Nodup → (s.chan ch).again = some true →
    (s.measTick.chan ch).state = .calibrating ∧ (s.measTick.chan ch).calAt = s.now
      ∧ (s.measTick.chan ch).again = none ∧ (s.measTick.chan ch).result = (s.chan ch).result)

/-- Streams (R241 to R243): every DECIM-th edge is stamped; the seventh stamp, or 1,024 tk after the first, closes the
coach; a calibration that has taken its 32 tk after the period and passes hands over to the standing interpolator,
one that does not keeps the active one with CAL_FAIL, and a time base that fails at the period's end ends the stream
with status 2. The periods run on from one another. -/
def StreamsStampAndRecalibrate : Prop :=
  ∀ (ch : Nat) (s : State), Live s → ch < 64 → (s.chan ch).state = .streaming →
    (∀ raw pos e, e = 64 * s.now + pos % 64 → EdgeComes s ch (s.chan ch).startSrc pos →
      Spaced (s.chan ch).lastStart e →
      ((s.chan ch).edges + 1 < 2 ^ fld (s.chan ch).cfg2 16 4 →
        Completes (.streamStamp ch raw pos) s fun t => ChanFrame ch s t
          ∧ t.chan ch = { s.chan ch with
              lastStart := some e, seenAt := e, edges := (s.chan ch).edges + 1 })
      ∧ (2 ^ fld (s.chan ch).cfg2 16 4 ≤ (s.chan ch).edges + 1 →
        Dead (if (s.chan ch).activeInt then (s.chan ch).capB else (s.chan ch).capA) e →
        Completes (.streamStamp ch raw pos) s fun t => ChanFrame ch s t
          ∧ (t.chan ch).edges = 0 ∧ (t.chan ch).stamps = (s.chan ch).stamps
          ∧ (t.chan ch).missed = min 0xFFFF ((s.chan ch).missed + 1) ∧ MeasTells ch (oneBit 6) s t)
      ∧ (2 ^ fld (s.chan ch).cfg2 16 4 ≤ (s.chan ch).edges + 1 →
        ¬Dead (if (s.chan ch).activeInt then (s.chan ch).capB else (s.chan ch).capA) e →
        Completes (.streamStamp ch raw pos) s fun t => ChanFrame ch s t
          ∧ (t.chan ch).edges = 0 ∧ (t.chan ch).state = .streaming
          ∧ (t.chan ch).stamps = ((s.chan ch).stamps + 1) % 2 ^ 32
          ∧ ((s.chan ch).stream.length < 6 → ∃ w, (t.chan ch).stream = (s.chan ch).stream ++ [w]
              ∧ fld w 0 6 = ((s.chan ch).stampOf s.tick.toNat raw (decide (32 ≤ pos % 64)) % 64).toNat)
          ∧ (6 ≤ (s.chan ch).stream.length → (t.chan ch).stream = [])))
    ∧ (∀ s1 s2, (s.chan ch).recalAt + 2 ^ (fld (s.chan ch).cfg2 20 4 + 15) + 32 ≤ s.now →
      Completes (.streamRecal ch true s1 s2) s fun t => ChanFrame ch s t
        ∧ (t.chan ch).state = .streaming
        ∧ (t.chan ch).recalAt = (s.chan ch).recalAt + 2 ^ (fld (s.chan ch).cfg2 20 4 + 15)
        ∧ (SumsPass s1 s2 → (t.chan ch).activeInt = !(s.chan ch).activeInt
            ∧ (t.chan ch).sums = (if (s.chan ch).activeInt then
                { (s.chan ch).sums with a1 := s1, a2 := s2 }
              else { (s.chan ch).sums with b1 := s1, b2 := s2 })
            ∧ (t.chan ch).event = (s.chan ch).event)
        ∧ (¬SumsPass s1 s2 → (t.chan ch).activeInt = (s.chan ch).activeInt
            ∧ (t.chan ch).sums = (s.chan ch).sums ∧ MeasTells ch (oneBit 2) s t))
    ∧ (∀ s1 s2, (s.chan ch).recalAt + 2 ^ (fld (s.chan ch).cfg2 20 4 + 15) ≤ s.now →
      Completes (.streamRecal ch false s1 s2) s fun t => ChanFrame ch s t
        ∧ (t.chan ch).state = .idle ∧ (t.chan ch).result.status = 2 ∧ (t.chan ch).stream = []
        ∧ MeasTells ch (oneBit 0 ||| oneBit 1) s t)
    ∧ ((s.chan ch).stream ≠ [] → (s.chan ch).streamAt + 1024 ≤ s.now →
      Completes (.streamCoachTimeout ch) s fun t => ChanFrame ch s t
        ∧ (t.chan ch).stream = [] ∧ (t.chan ch).state = .streaming
        ∧ (t.chan ch).stamps = (s.chan ch).stamps)

/-! ## Record pool and queues (chapter 09) -/

/-- The page of queue `q` is `v`; no other queue's page and nothing else of the state has changed. -/
def QueueIs (q : Nat) (v : Queue) (s t : State) : Prop :=
  Only [.pool] s t ∧ t.pool = { s.pool with queues := t.pool.queues } ∧ QueuesBut q s t ∧ t.queue q = v

/-- The coach at the read position, its first min(CUT, L) carriages arrived (R262, R279). -/
abbrev Poppable (x : Queue) (now : Nat) (c : PoolCoach) : Prop :=
  x.coaches[x.pos]? = some c ∧ min (max 1 (min 8 (fld x.cfg 4 4))) c.words.length ≤ now + 1 - c.grantAt

/-- Q_CTL and the flush (R266, R270, R272, R277, R279): MARK sets the mark at the read position and REWIND moves the
position back to it, both in flight-recorder mode only; REWIND with no mark sets REWIND_FAIL; CLR_COUNTS zeroes the
counts, but for drops and overruns of its own die tick; FLUSH sets FLUSH_PENDING, and in a later die tick in which no
coach is partly written the flush discards every coach and the mark. -/
def QueueControl : Prop :=
  ∀ (p : Path) (q : Nat) (s : State), Live s → q < 96 →
    (s.mayWrite p (queuePage q + 0x14) = true →
      Completes (.flush p q) s (QueueIs q { s.queue q with
          flush := true, flushAt := if (s.queue q).flush then (s.queue q).flushAt else s.now } s)
      ∧ Completes (.clrCounts p q) s (QueueIs q { s.queue q with
          drops := (tget (0, 0) s.log.qLost q).1, overruns := (tget (0, 0) s.log.qLost q).2, count := 0 } s)
      ∧ (bit (s.queue q).cfg 1 = true →
        Completes (.mark p q) s (QueueIs q { s.queue q with
          markAt := some (s.queue q).pos, marked := some (s.now, (s.queue q).markAt) } s)
        ∧ (∀ m, (s.queue q).markAt = some m →
          Completes (.rewind p q) s (QueueIs q { s.queue q with
            pos := m, rewound := some (s.now, (s.queue q).pos) } s))
        ∧ ((s.queue q).markAt = none →
          Completes (.rewind p q) s
            (QueueIs q { s.queue q with event := (s.queue q).event ||| oneBit 5 } s)))
      ∧ (bit (s.queue q).cfg 1 = false → ∀ c, (c = .mark p q ∨ c = .rewind p q) →
        Completes c s (QueueIs q { s.queue q with event := (s.queue q).event ||| oneBit 8 } s)))
    ∧ ((s.queue q).flush = true → (s.queue q).flushAt < s.now → bit (s.queue q).cfg 0 = true →
      (∀ c ∈ (s.queue q).coaches, c.grantAt + c.words.length ≤ s.now + 1) →
      Completes (.flushDone q) s (QueueIs q { s.queue q with
        coaches := [], pos := 0, markAt := none, flush := false,
        event := (s.queue q).event ||| oneBit 6 } s))

/-- Q_CFG.ENABLE taken to 0 (R256, R267, R364): an enabled queue from 2 up performs a flush, and no longer takes
coaches; with the flush, in a later die tick, the coaches that wait for it are discarded and counted, and a PUSH that
waits for it is refused with 1. A queue already disabled performs no flush, and queues 0 and 1 stay enabled. That
what waits is discarded as the flush takes effect is the model's choice, log entry 34. -/
def DisablingAQueue : Prop :=
  ∀ (p : Path) (q : Nat) (s : State), Live s → q < 96 →
    (s.mayWrite p (queuePage q) = true →
      (2 ≤ q → bit (s.queue q).cfg 0 = true →
        Completes (.qDisable p q) s (fun t => QueueIs q { s.queue q with
          cfg := (s.queue q).cfg &&& 0xFFFFFFFE, flush := true,
          flushAt := if (s.queue q).flush then (s.queue q).flushAt else s.now,
          cfgOld := (t.queue q).cfgOld, cfgAt := some s.now } s t))
      ∧ ((q < 2 ∨ bit (s.queue q).cfg 0 = false) →
        Completes (.qDisable p q) s (fun t => QueueIs q { s.queue q with
          cfgOld := (t.queue q).cfgOld, cfgAt := some s.now } s t)))
    ∧ ((s.queue q).flush = true → (s.queue q).flushAt < s.now → bit (s.queue q).cfg 0 = false →
      (∀ c ∈ (s.queue q).coaches, c.grantAt + c.words.length ≤ s.now + 1) →
      Completes (.flushDone q) s fun t => Only [.pool, .seq] s t ∧ QueuesBut q s t
        ∧ t.queue q = { s.queue q with
            coaches := [], pos := 0, markAt := none, flush := false,
            event := (s.queue q).event ||| oneBit 6 }
        ∧ t.pool = { s.pool with
            queues := t.pool.queues, waiting := t.pool.waiting, reports := t.pool.reports,
            unrouted := t.pool.unrouted }
        ∧ t.pool.waiting = (s.pool.waiting.map fun e => (e.1, e.2.filter fun f => f.queue != q)).filter
            (fun e => !e.2.isEmpty)
        ∧ (∀ src f, s.pool.waiting = [(src, [f])] → s.pool.reports = [] → f.queue = q →
            t.pool.unrouted = min 0xFFFF (s.pool.unrouted + 1))
        ∧ ∀ k d w keep ready, k < 4 → (s.task k).state = .waiting (.push q d w keep ready) →
            (ready ≤ s.now → (t.task k).state = .ready ∧ (d ≠ 0 → tget 0 (t.task k).g d = 1))
            ∧ (s.now < ready → t.task k = s.task k))

/-- Pops by the host (R262, R263, R268): in normal mode the coach leaves the queue, in flight-recorder mode the read
position moves on; what its carts hold fills the read buffer, and Q_POP returns its header's high word. With none to
pop, and from the side CONSUMER does not name, with WRONG_SIDE, the buffer takes the idle coach. -/
def PopsByTheHost : Prop :=
  ∀ (q : Nat) (s : State), Live s → q < 96 →
    (bit (s.queue q).cfg 2 = false → ∀ c, Poppable (s.queue q) s.now c →
      Completes (.qPop .host q) s fun t => Only [.pool, .out] s t ∧ QueuesBut q s t
        ∧ t.pool = { s.pool with queues := t.pool.queues, writing := t.pool.writing }
        ∧ t.out = { s.out with readData := some (hiWord ((s.coachWords c).headD 0)) }
        ∧ t.queue q = { s.queue q with
            coaches := if bit (s.queue q).cfg 1 then (s.queue q).coaches
              else (s.queue q).coaches.eraseIdx (s.queue q).pos,
            pos := if bit (s.queue q).cfg 1 then (s.queue q).pos + 1 else (s.queue q).pos,
            buf := { words := s.coachWords c, grantAt := c.grantAt } })
    ∧ ((bit (s.queue q).cfg 2 = true ∨ ∀ c, ¬Poppable (s.queue q) s.now c) →
      Completes (.qPop .host q) s fun t => Only [.pool, .out] s t ∧ QueuesBut q s t
        ∧ t.pool = { s.pool with queues := t.pool.queues }
        ∧ t.out = { s.out with readData := some (hiWord (coachHeader 0 1 (0x180 + q) s.tick)) }
        ∧ t.queue q = { s.queue q with
            buf := { words := [coachHeader 0 1 (0x180 + q) s.tick], grantAt := s.now },
            event := (s.queue q).event ||| (if bit (s.queue q).cfg 2 then oneBit 7 else 0) })

/-- The read buffer (R264, R351): RD_LO returns the low word of the carriage at the index and latches its high word;
a carriage that has not arrived holds the read, which completes when it has; RD_HI returns the latched word and
moves the index on; past the coach's end both read 0. The sequencer's reads of these ports read 0 and change
nothing. -/
def ReadBuffer : Prop :=
  ∀ (q : Nat) (s : State), Live s → q < 96 →
    (∀ d, (s.queue q).buf.words[(s.queue q).buf.idx]? = some d →
      (s.queue q).buf.grantAt + (s.queue q).buf.idx ≤ s.now → ∀ c,
      (c = .rdLo .host q ∨ (s.queue q).buf.held = true ∧ c = .heldReadComplete q) →
      Completes c s fun t => Only [.pool, .out] s t ∧ QueuesBut q s t
        ∧ t.out = { s.out with readData := some (loWord d) }
        ∧ t.queue q = { s.queue q with
            buf := { (s.queue q).buf with latch := hiWord d, held := false } })
    ∧ ((s.queue q).buf.idx < (s.queue q).buf.words.length →
      (s.now < (s.queue q).buf.grantAt + (s.queue q).buf.idx →
        Completes (.rdLo .host q) s fun t => Only [.pool, .out] s t ∧ QueuesBut q s t
          ∧ t.out = { s.out with readData := none }
          ∧ t.queue q = { s.queue q with buf := { (s.queue q).buf with held := true } })
      ∧ Completes (.rdHi .host q) s fun t => Only [.pool, .out] s t ∧ QueuesBut q s t
          ∧ t.out = { s.out with readData := some (s.queue q).buf.latch }
          ∧ t.queue q = { s.queue q with
              buf := { (s.queue q).buf with idx := (s.queue q).buf.idx + 1 } })
    ∧ ((s.queue q).buf.words.length ≤ (s.queue q).buf.idx → ∀ c, (c = .rdLo .host q ∨ c = .rdHi .host q) →
      Completes c s fun t => Only [.pool, .out] s t ∧ QueuesBut q s t
        ∧ t.out = { s.out with readData := some 0 }
        ∧ (t.queue q).buf.idx = (s.queue q).buf.idx)
    ∧ (∀ c, (c = .qPop .seq q ∨ c = .rdLo .seq q ∨ c = .rdHi .seq q) →
      Completes c s fun t => t = { s with out := { s.out with readData := some 0 } })

/-- The one coach that waits is granted (R257, R258, R269, R279). Where its carts fit, the queue is enabled with no
flush pending and a writing place is free, it takes that many free carts, joins its queue, and its header is written;
no other byte of the pool changes. Where its carts do not fit in normal mode, FULL is set and it waits on. -/
def AWaitingCoachIsGranted : Prop :=
  ∀ (src : Nat) (f : Formed) (s : State), Live s → (src < 0x158 ∨ 0x160 < src) →
    s.pool.waiting = [(src, [f])] → s.pool.reports = [] → s.cmd.busy = none → s.seq.pushes = [] →
    (∀ k q d w keep ready, k < 4 → (s.task k).state ≠ .waiting (.push q d w keep ready)) →
    f.queue < 96 → f.words ≠ [] → (s.queue f.queue).flush = false → bit (s.queue f.queue).cfg 0 = true →
    bit (s.queue f.queue).cfg 1 = false → (f.words.length = 1 ∨ s.pool.writing.length < 16) →
    (((s.queueCarts f.queue).length + (f.words.length + 3) / 4 ≤ (s.queue f.queue).cap
        ∧ s.inUse + (f.words.length + 3) / 4 ≤ 4096) →
      Completes .coachGrant s fun t => Only [.pool, .free] s t ∧ QueuesBut f.queue s t
        ∧ t.pool.waiting = [] ∧ t.pool.lastSrc = src
        ∧ ∃ c, c.src = src ∧ c.words = f.words ∧ c.grantAt = s.now
          ∧ c.carts.length = (f.words.length + 3) / 4 ∧ c.carts.Nodup
          ∧ (∀ x ∈ c.carts, x < 4096 ∧ x ∉ s.usedCarts) ∧ c ∈ (t.queue f.queue).coaches
          ∧ (∀ x ∈ (s.queue f.queue).coaches, x ∈ (t.queue f.queue).coaches)
          ∧ (∀ a, (a < 32 * nth c.carts 0 ∨ 32 * nth c.carts 0 + 8 ≤ a) →
              tget 0 t.pool.carts a = tget 0 s.pool.carts a)
          ∧ (Memory.wf 0 s.pool.carts = true →
              readDword t.pool.carts (32 * nth c.carts 0) = f.words.headD 0)
          ∧ (1 < f.words.length → t.pool.writing = s.pool.writing ++ [{ queue := f.queue, coach := c }])
          ∧ (f.words.length = 1 → (t.queue f.queue).notices = (s.queue f.queue).notices ++ [s.now + 1]))
    ∧ (((s.queue f.queue).cap < (s.queueCarts f.queue).length + (f.words.length + 3) / 4
        ∨ 4096 < s.inUse + (f.words.length + 3) / 4) →
      Completes .coachGrant s
        (QueueIs f.queue { s.queue f.queue with event := (s.queue f.queue).event ||| oneBit 1 } s))

/-- NOTICE, and coalescing (R265, R273 to R275): the notice falls due in the tick after the last carriage and raises
the queue's event line where EVT_EN is 1; IN_USE above COAL_ON at the end of a die tick makes COAL 1 in the next, and
a multiple of 1,024 where IN_USE stands below COAL_OFF makes it 0, and each region that counted episodes then loses
its histogram to the coach of the span. -/
def NoticesAndCoalescing : Prop :=
  ∀ (s : State), Live s →
    (∀ q n l, q < 96 → (s.queue q).notices = n :: l → n ≤ s.now →
      Completes (.coachWritten q) s fun t => Only [.pool, .seq] s t ∧ QueuesBut q s t
        ∧ t.queue q = { s.queue q with notices := l, event := (s.queue q).event ||| oneBit 0 }
        ∧ ((bit (s.queue q).cfg 14 = false ∨ 48 ≤ fld (s.queue q).cfg 8 6) → t.seq = s.seq)
        ∧ (bit (s.queue q).cfg 14 = true → fld (s.queue q).cfg 8 6 < 48 →
            t.seq = { s.seq with
              flags := s.seq.flags ||| BitVec.ofNat 64 (2 ^ fld (s.queue q).cfg 8 6),
              raised := t.seq.raised, raisedAt := s.now }))
    ∧ (s.pool.coal = false → s.pool.coalDue = false →
      (fld s.pool.cfg 0 12 < s.inUse →
        ∃ t, s.poolUse = t ∧ Only [.pool] s t ∧ t.pool.coalDue = true ∧ t.pool.coalAt = s.tick
          ∧ t.coalescing = !(s.reached 1024 0 && decide (s.inUse < s.pool.coalOff)))
      ∧ (s.inUse ≤ fld s.pool.cfg 0 12 → s.poolUse.pool.coalDue = false))
    ∧ (s.pool.coal = false → s.pool.coalDue = true →
      Completes .coalesceStart s fun t => t = { s with pool := { s.pool with
        coal := true, coalDue := false, entries := min 0xFFFF (s.pool.entries + 1) } })
    ∧ (s.tick.toNat % 1024 = 0 →
      Completes .coalesceBoundary s fun t => Only [.pool, .regions] s t
        ∧ t.pool.coal = (s.pool.coal
            && !decide (s.pool.startUse < min (fld s.pool.cfg 0 12) (fld s.pool.cfg 16 12)))
        ∧ t.pool.coalDue = (s.pool.coalDue
            && !decide (s.pool.startUse < min (fld s.pool.cfg 0 12) (fld s.pool.cfg 16 12)))
        ∧ (∀ r, r < 208 → t.region r = { s.region r with
            droop := { (s.region r).droop with coalHist := none } })
        ∧ ((∀ r, (s.region r).droop.coalHist = none) →
            t.pool = { s.pool with coal := t.pool.coal, coalDue := t.pool.coalDue }))

/-- CLR_PEAK and the debug window (R277 to R279): PEAK becomes IN_USE; a write changes the four bytes of its cart and
nothing else, and loses to a producer that writes the same cart in the tick. -/
def PeakAndDebugWindow : Prop :=
  ∀ (p : Path) (s : State), Live s →
    (s.mayWrite p (queuePage 0 + 0x34) = true →
      Completes (.clrPeak p) s fun t => t = { s with pool := { s.pool with peak := s.inUse } })
    ∧ (∀ off v, 0x40000 ≤ off → off < 0x60000 → off % 4 = 0 → s.mayWrite p off = true →
      (s.cartWritten ((off - 0x40000) / 32) = false →
        Completes (.poolDebugWrite p off v) s fun t => Only [.pool] s t
          ∧ t.pool = { s.pool with carts := t.pool.carts }
          ∧ (∀ a, (a < off - 0x40000 ∨ off - 0x40000 + 4 ≤ a) →
              tget 0 t.pool.carts a = tget 0 s.pool.carts a)
          ∧ (Memory.wf 0 s.pool.carts = true → readWord t.pool.carts (off - 0x40000) = v))
      ∧ (s.cartWritten ((off - 0x40000) / 32) = true →
        Completes (.poolDebugWrite p off v) s fun t => t = s))

/-! ## Group tick (chapter 10) -/

/-- What the group tick unit's own work leaves alone: everything but its block and coaches formed. -/
def GtFrame (s t : State) : Prop := Only [.gt, .pool] s t ∧ Told s t

/-- R288 for an offset of `thetaN` / 42 ps over a period of `per` tk: the new integ and STEER. -/
def Steered (thetaN : Int) (per : Nat) (s t : State) : Prop :=
  t.gt.integ = max (-(fld s.gt.limits2 0 16 : Int)) (min (fld s.gt.limits2 0 16)
      (s.gt.integ + ((thetaN * 12500).tdiv per).tdiv (2 ^ fld s.gt.servo 4 4)))
  ∧ t.gt.steer = max (-(min 10000 (fld s.gt.servo 16 16) : Int)) (min (min 10000 (fld s.gt.servo 16 16))
      (-(t.gt.integ + ((thetaN * 12500).tdiv per).tdiv (2 ^ fld s.gt.servo 0 4))))

/-- SYNC_IN (R282, R283, R288, R289): an edge is stamped on the device's own scale. One within 100 us of 1 s after the
previous valid one is valid, and a second valid one in succession sets PPS_OK; its second is the one a trusted
message has named, else the one after the last edge's; an early, a late and a missing edge clear PPS_OK, and freeze
the steering of an ALIGNED root; the ALIGNED root steers on each valid edge whose second it knows. A sequence of
edges after a break begins with one that is not yet valid: the model's choice, log entry 37. -/
def SyncInEdges : Prop :=
  ∀ (pos : Nat) (stamp : Int) (s : State), Live s → stamp = 64 * (s.tick.toNat : Int) + ((pos % 64 : Nat) : Int) →
    (s.gt.ppsStamp = none → Completes (.syncInEdge pos) s fun t =>
      t = { s with gt := { s.gt with
        ppsStamp := some stamp, ppsAt := s.now, ppsRun := 0, edgeOk := false, edgeSec := none,
        todGot := false } })
    ∧ (∀ q, s.gt.ppsStamp = some q →
      ((stamp - q - 33600000000).natAbs ≤ 3360000 →
        Completes (.syncInEdge pos) s fun t => GtFrame s t
          ∧ t.gt.ppsStamp = some stamp ∧ t.gt.ppsAt = s.now ∧ t.gt.ppsRun = min 2 (s.gt.ppsRun + 1)
          ∧ t.gt.ppsOk = decide (1 ≤ s.gt.ppsRun) ∧ t.gt.todGot = false ∧ t.gt.edgeOk = true
          ∧ t.gt.edgeSec = (if s.gt.todGot then some s.gt.todSec else s.gt.edgeSec.map (· + 1))
          ∧ (s.gt.state = .standalone → t.gt.state = .standalone ∧ t.gt.steer = s.gt.steer
              ∧ t.gt.event = s.gt.event)
          ∧ (s.gt.state = .aligned → s.gt.isRoot = true → s.gt.srcLost = false → ∀ sec,
              (s.gt.todGot = true ∧ sec = s.gt.todSec ∨ s.gt.todGot = false ∧ s.gt.edgeSec.map (· + 1) = some sec) →
              t.gt.state = .aligned ∧ Steered
                ((stamp - ((sec : Int) - s.gt.epoch.toNat) * 33600000000) * 1250) 525000000 s t))
      ∧ (3360000 < (stamp - q - 33600000000).natAbs →
        Completes (.syncInEdge pos) s fun t => GtFrame s t ∧ t.gt.ppsOk = false ∧ t.gt.ppsRun = 0
          ∧ t.gt.ppsStamp = (if stamp - q < 33600000000 then some q else some stamp)
          ∧ (33600000000 < stamp - q → t.gt.edgeSec = none ∧ t.gt.todGot = false)
          ∧ t.gt.state = s.gt.state ∧ t.gt.integ = s.gt.integ
          ∧ t.gt.steer = (if s.gt.isRoot = true ∧ s.gt.state = .aligned then -s.gt.integ else s.gt.steer)))
    ∧ (s.gt.ppsStamp.isSome = true → s.gt.ppsAt + 525052500 < s.now →
      Completes .syncInEdgeMissing s fun t => GtFrame s t ∧ t.gt.ppsOk = false ∧ t.gt.ppsRun = 0
        ∧ t.gt.ppsStamp = none ∧ t.gt.edgeSec = none ∧ t.gt.todGot = false
        ∧ t.gt.state = s.gt.state ∧ t.gt.integ = s.gt.integ
        ∧ t.gt.steer = (if s.gt.isRoot = true ∧ s.gt.state = .aligned then -s.gt.integ else s.gt.steer))

/-- Time of day (R281, R282): a message with the right form and CRC that continues the sequence, 10 ms to 900 ms after a
valid edge, is valid; TOD_OK is 1, and its second is used, once another has come before it; one that does not
continue the sequence starts a new one, and one of the wrong form or CRC, or none 900 ms after the place of an edge,
breaks it. -/
def TimeOfDayMessages : Prop :=
  ∀ (s : State), Live s →
    (∀ (a b c d e f fl sq crc : Byte), crc8 [0x47, 0x54, a, b, c, d, e, f, fl, sq] = crc.toNat →
      (s.gt.edgeOk = true → s.gt.ppsAt + 5250000 ≤ s.now → s.now ≤ s.gt.ppsAt + 472500000 →
        s.gt.tod.seq = some ((sq.toNat + 255) % 256) → s.gt.tod.seconds + 1 = beNat [a, b, c, d, e, f] →
        Completes (.todMessage [0x47, 0x54, a, b, c, d, e, f, fl, sq, crc, 0x0A]) s fun t =>
          t = { s with gt := { s.gt with
            tod := { seq := some sq.toNat, seconds := beNat [a, b, c, d, e, f],
                     run := min 2 (s.gt.tod.run + 1) },
            todOk := decide (1 ≤ s.gt.tod.run), todGot := decide (1 ≤ s.gt.tod.run),
            todSec := beNat [a, b, c, d, e, f], todFlags := fl.toNat, todSeqNo := sq.toNat, todAt := s.now } })
      ∧ (s.gt.tod.seq ≠ some ((sq.toNat + 255) % 256) →
        Completes (.todMessage [0x47, 0x54, a, b, c, d, e, f, fl, sq, crc, 0x0A]) s fun t =>
          t = { s with gt := { s.gt with
            tod := { seq := some sq.toNat, seconds := beNat [a, b, c, d, e, f], run := 0 },
            todOk := false, todGot := false, todAt := s.now } }))
    ∧ (∀ bytes, (∀ a b c d e f fl sq crc : Byte, bytes = [0x47, 0x54, a, b, c, d, e, f, fl, sq, crc, 0x0A] →
        crc8 [0x47, 0x54, a, b, c, d, e, f, fl, sq] ≠ crc.toNat) →
      Completes (.todMessage bytes) s fun t =>
        t = { s with gt := { s.gt with tod := {}, todOk := false, todGot := false } })
    ∧ (∀ k, s.gt.tod.seq ≠ none → s.gt.ppsAt + k * 525000000 + 472500000 < s.now →
      s.gt.todAt < s.gt.ppsAt + k * 525000000 →
      Completes .todMessageMissing s fun t =>
        t = { s with gt := { s.gt with tod := {}, todOk := false, todGot := false } })

/-- Alignment words (R285, R286, R299, R301): one is sent at each multiple of the period on a used link, with the
device's own fields; a word of a device that is no member, or of another generation, is only counted; one that
arrives where the link is not usable is recorded and counted in SKIPS; a silent peer is lost after MISS_LIMIT
periods. -/
def AlignmentWords : Prop :=
  ∀ (link : Nat) (s : State), Live s → link < 16 →
    (bit (s.link link).cfg 0 = true → s.ref.tickValid = true →
      s.tick.toNat % 2 ^ max 10 (fld s.gt.servo 8 4) = 0 →
      Completes (.alignWordSend link) s fun t => Only [.gt, .out] s t ∧ LinksBut link s t
        ∧ t.gt = { s.gt with links := t.gt.links }
        ∧ t.link link = { s.link link with
            launch := some s.tick.toNat, launchOld := (s.link link).launch }
        ∧ ∃ w0 w1, t.out = { s.out with alignWord := some (link, w0, w1) }
          ∧ fld w0 52 12 = fld s.gt.id 0 12 ∧ fld w0 44 8 = s.gt.gen % 256 ∧ fld w0 41 3 = s.gt.state.code
          ∧ bit w0 40 = s.linkUsable link ∧ fld w0 0 40 = s.tick.toNat % 2 ^ 40
          ∧ fld w1 60 4 = s.gt.depth % 16 ∧ fld w1 48 12 = s.gt.rootId % 4096
          ∧ fld w1 0 32 = (s.link link).rxLast.toNat)
    ∧ (∀ w0 w1 pos, bit (s.link link).cfg 0 = true →
      (s.gt.member (fld w0 52 12) = false →
        Completes (.alignWordReceive link w0 w1 pos) s fun t =>
          t = { s with gt := { s.gt with nonMember := min 0xFFFF (s.gt.nonMember + 1) } })
      ∧ (s.gt.member (fld w0 52 12) = true → fld w0 44 8 ≠ s.gt.gen % 256 → s.gt.commitAt = none →
        Completes (.alignWordReceive link w0 w1 pos) s fun t => GtFrame s t
          ∧ t.gt = { s.gt with
              genMism := min 0xFFFF (s.gt.genMism + 1), event := s.gt.event ||| oneBit 9 })
      ∧ (s.gt.member (fld w0 52 12) = true → fld w0 44 8 = s.gt.gen % 256 → s.gt.state = .standalone →
        (bit w0 40 = false ∨ s.linkUsable link = false ∨ (s.link link).launch = none) →
        Completes (.alignWordReceive link w0 w1 pos) s fun t => GtFrame s t ∧ LinksBut link s t
          ∧ t.gt.skips = min 0xFFFF (s.gt.skips + 1)
          ∧ t.link link = { s.link link with
              peerId := fld w0 52 12, peerState := fld w0 41 3, usable := bit w0 40, heard := true,
              lost := false, peerDepth := fld w1 60 4, peerRoot := fld w1 48 12, lastOk := s.now,
              rxLast := BitVec.ofInt 32 (64 * (s.tick.toNat : Int) + ((pos % 64 : Nat) : Int)) }
          ∧ t.gt.event = s.gt.event
              ||| (if (s.link link).heard = false ∧ (s.link link).lost = true then oneBit 8 else 0)))
    ∧ ((s.link link).heard = true →
      (s.link link).lastOk + max 1 (fld s.gt.servo 12 4) * 2 ^ max 10 (fld s.gt.servo 8 4) ≤ s.now →
      Completes (.peerLost link) s fun t => GtFrame s t ∧ LinksBut link s t
        ∧ t.link link = { s.link link with heard := false, lost := true }
        ∧ t.gt = { s.gt with links := t.gt.links, event := s.gt.event ||| oneBit 7 })

/-- An exchange with the source (R287 to R289, R294): a member in PULL_IN or ALIGNED steers on it; the eighth within
ALIGN_WIN brings ALIGNED, the second beyond UNALIGN brings PULL_IN; in HOLDOVER one within 10 tk brings PULL_IN, one
beyond ejects. A word with DEPTH 14 or 15 sets LOOP and steers nothing: the model's reading, log entry 38. -/
def ExchangesWithTheSource : Prop :=
  ∀ (link a1 pos : Nat) (w0 w1 : DWord) (s : State), Live s → link < 16 →
    bit (s.link link).cfg 0 = true → s.gt.member (fld w0 52 12) = true → fld w0 44 8 = s.gt.gen % 256 →
    s.gt.isRoot = false → link = s.gt.sourceLink → fld w0 52 12 = s.gt.sourceId →
    (s.gt.state = .pullIn ∨ s.gt.state = .aligned ∨ s.gt.state = .holdover) →
    ((s.link link).launch = some a1 → bit w0 40 = true → s.linkUsable link = true →
      fld w1 60 4 < 14 → fld w1 48 12 = s.gt.rootId →
      Completes (.alignWordReceive link w0 w1 pos) s fun t => GtFrame s t ∧ LinksBut link s t
        ∧ (t.link link).thetaN
          = (s.exchange link a1 w0 w1 (64 * (s.tick.toNat : Int) + ((pos % 64 : Nat) : Int))).1
        ∧ (s.gt.state = .pullIn → Steered (t.link link).thetaN s.gt.periodTk s t
            ∧ t.gt.depth = fld w1 60 4 + 1
            ∧ t.gt.state = (if (t.link link).thetaN.natAbs ≤ 42 * fld s.gt.win 0 10 ∧ 7 ≤ s.gt.winRun
                then .aligned else .pullIn))
        ∧ (s.gt.state = .aligned → Steered (t.link link).thetaN s.gt.periodTk s t
            ∧ t.gt.state = (if 42 * fld s.gt.win 10 10 < (t.link link).thetaN.natAbs ∧ 1 ≤ s.gt.unRun
                then .pullIn else .aligned))
        ∧ (s.gt.state = .holdover →
            ((t.link link).thetaN.natAbs ≤ 800000 → t.gt.state = .pullIn ∧ t.gt.integ = s.gt.integ)
            ∧ (800000 < (t.link link).thetaN.natAbs → t.gt.state = .standalone
                ∧ bit t.gt.event 5 = true)))
    ∧ (14 ≤ fld w1 60 4 → s.gt.state = .holdover →
      Completes (.alignWordReceive link w0 w1 pos) s fun t => GtFrame s t ∧ LinksBut link s t
        ∧ t.gt.state = .holdover ∧ t.gt.steer = s.gt.steer ∧ bit t.gt.event 15 = true)

/-- The other source serves (R294). -/
abbrev OtherServes (s : State) : Prop :=
  (s.link s.gt.otherLink).heard = true ∧ (s.link s.gt.otherLink).peerId = s.gt.otherId
  ∧ (s.link s.gt.otherLink).usable = true ∧ s.linkUsable s.gt.otherLink = true
  ∧ s.gt.member s.gt.otherId = true ∧ (s.link s.gt.otherLink).peerRoot = s.gt.rootId
  ∧ (s.link s.gt.otherLink).peerDepth + 1 ≤ fld s.gt.role 24 4

/-- The source is lost (R294): after MISS_LIMIT periods without an exchange a member moves to its other source where that
one serves, with SOURCE_SWITCH, and enters HOLDOVER where it does not, steering by -integ; after HOLD_MAX there it is
EJECTED to STANDALONE. -/
def SourceLostAndEjected : Prop :=
  ∀ (s : State), Live s →
    ((s.gt.state = .pullIn ∨ s.gt.state = .aligned) → s.gt.isRoot = false →
      s.gt.exchAt + s.gt.missLimit * s.gt.periodTk ≤ s.now →
      Completes .sourceLost s fun t => GtFrame s t ∧ t.gt.integ = s.gt.integ
        ∧ (OtherServes s → t.gt.onAlt = (!s.gt.onAlt)
            ∧ t.gt.srcSwitch = min 0xFFFF (s.gt.srcSwitch + 1) ∧ t.gt.exchAt = s.now
            ∧ t.gt.depth = (s.link s.gt.otherLink).peerDepth + 1 ∧ t.gt.steer = s.gt.steer
            ∧ t.gt.state = (if fld s.gt.win 10 10 * 42 < (s.link s.gt.otherLink).thetaN.natAbs then .pullIn
                else s.gt.state)
            ∧ bit t.gt.event 6 = true)
        ∧ (¬OtherServes s → t.gt.state = .holdover ∧ t.gt.steer = -s.gt.integ ∧ t.gt.holdAt = s.now
            ∧ t.gt.onAlt = s.gt.onAlt ∧ bit t.gt.event 4 = true
            ∧ (s.gt.state = .aligned → bit t.gt.event 1 = true)))
    ∧ (s.gt.state = .holdover → s.gt.holdAt + max 1 (fld s.gt.limits2 16 8) * 2 ^ 24 ≤ s.now →
      Completes .ejected s fun t => GtFrame s t ∧ t.gt.state = .standalone ∧ t.gt.steer = 0
        ∧ t.gt.depth = 15 ∧ t.gt.rootId = 0xFFF ∧ t.gt.event = s.gt.event ||| oneBit 5)

/-- JOIN and LEAVE (R290, R291): JOIN is accepted only in STANDALONE with MEMB_GEN not 0 and the device, and a member's
parent over a used link, in the active table; LEAVE in any other state, which cancels a step and zeroes integ and STEER
with TICK as it is; each is refused otherwise. A wait in JOINING beyond 3 s fails with NO_TIME or NO_SOURCE. -/
def JoinAndLeave : Prop :=
  ∀ (p : Path) (s : State), Live s →
    (s.mayWrite p 0x05000 = true →
      ((s.gt.state = .standalone ∧ s.gt.gen ≠ 0 ∧ s.gt.member (fld s.gt.id 0 12) = true
          ∧ (bit s.gt.role 12 = true ∨ s.gt.member (fld s.gt.id 16 12) = true
              ∧ bit (s.link (fld s.gt.role 16 4)).cfg 0 = true)) →
        Completes (.join p) s fun t => Only [.gt] s t ∧ t.gt = { s.gt with
          state := .joining, joinAt := s.now, joinEdge := none, joinExch := 0, failReason := 0, winRun := 0,
          unRun := 0 })
      ∧ (¬(s.gt.state = .standalone ∧ s.gt.gen ≠ 0 ∧ s.gt.member (fld s.gt.id 0 12) = true
          ∧ (bit s.gt.role 12 = true ∨ s.gt.member (fld s.gt.id 16 12) = true
              ∧ bit (s.link (fld s.gt.role 16 4)).cfg 0 = true)) →
        Completes (.join p) s fun t => GtFrame s t
          ∧ t.gt = { s.gt with event := s.gt.event ||| oneBit 18 })
      ∧ (s.gt.state ≠ .standalone →
        Completes (.leave p) s fun t => GtFrame s t ∧ t.gt = { s.gt with
          state := .standalone, stepPend := none, steer := 0, integ := 0, depth := 15, rootId := 0xFFF,
          onAlt := false, joinEdge := none, srcLost := false, winRun := 0, unRun := 0,
          event := s.gt.event ||| (if s.gt.state = .aligned then oneBit 1 else 0) })
      ∧ (s.gt.state = .standalone →
        Completes (.leave p) s fun t => GtFrame s t
          ∧ t.gt = { s.gt with event := s.gt.event ||| oneBit 18 }))
    ∧ (s.gt.state = .joining → s.gt.stepPend = none → s.gt.joinAt + 1575000000 < s.now →
      Completes .joinTimeout s fun t => GtFrame s t ∧ t.gt.state = .standalone
        ∧ t.gt.failReason = (if s.gt.joinEdge = none then 1 else 2)
        ∧ t.gt.event = s.gt.event ||| oneBit 3)

/-- The step of TICK (R82, R243, R292, R293): in a die tick after the one that formed it, whose TICK is a multiple of 21,
with no slot in ARMING to OPEN, a ledger snapshot becomes due in every region whose die tick is present; at the edge
that ends that die tick the pending step is added to TICK, unless a slot has entered ARMING by then; TICK_STEPPED and
JOIN_DONE are set and the join is done; compare slots and timed waits that the step passes are marked; each streaming
channel closes its coach with TICK_STEP. That the step is made at the edge that ends the die tick of its multiple of
21 is the model's reading, log entry 38. -/
def TheTickStep : Prop :=
  ∀ (step : Nat) (s : State), s.gt.stepPend = some (step : Int) → 0 < step →
    (∀ k, k < 4 → (s.slot k).state.busy = false) →
    (Live s → s.gt.stepAt < s.now → s.tick.toNat % 21 = 0 →
      Completes .tickStep s fun t => Only [.regions] s t ∧ t.log.step = true
        ∧ ∀ r, t.region r = if r < 208 ∧ (s.region r).racg.refLost = false then
            { s.region r with ledger := { (s.region r).ledger with due := (s.region r).ledger.due ||| 1 } }
          else s.region r)
    ∧ (∀ u old, old.step = true → u = old.soon.foldr (fun r v => v.regionTick r) s.fcTick →
        s.edgeWork old = u.stepNow)
    ∧ ∃ t, s.stepNow = t ∧ Only [.tick, .gt, .seq, .pool, .meas] s t ∧ Told s t
      ∧ t.tick = s.tick + BitVec.ofNat 64 step ∧ t.gt.lastStep = BitVec.ofNat 64 step
      ∧ t.gt.stepPend = none ∧ t.gt.state = (if s.gt.isRoot then .aligned else .pullIn)
      ∧ bit t.gt.event 12 = true ∧ bit t.gt.event 2 = true
      ∧ (∀ k target d, (s.task k).state = .waiting (.timed target d) →
          t.task k = { s.task k with
            stepped := (s.task k).stepped
              || decide (s.tick.toNat - 1 < target ∧ target ≤ s.tick.toNat + step) })
      ∧ (∀ k, t.cmpAt k = if (s.cmpAt k).armed = true ∧ s.tick.toNat - 1 < (s.cmpAt k).cmp.toNat
            ∧ (s.cmpAt k).cmp.toNat ≤ s.tick.toNat + step then
          { s.cmpAt k with late := true, armAt := s.now - 1 } else s.cmpAt k)
      ∧ (∀ ch, (s.chan ch).state = .streaming → (t.chan ch).stream = [] ∧ bit (t.chan ch).event 9 = true)

/-- Compare slots (R298): ARM arms a slot at its CMP; in a later die tick it fires as TICK equals it, or, where CMP lay
at or below TICK when it was armed or was passed by a step, in the next die tick, and otherwise not; it clears ARMED
and sets SLOT_FIRED, with SLOT_MISALIGNED where the state is not ALIGNED or CMP was at or below TICK or passed; it
raises its line where EVT_EN is 1 and marks the links where LINKS is 1. -/
def CompareSlots : Prop :=
  ∀ (k : Nat) (s : State), Live s → k < 8 →
    (∀ p, s.mayWrite p (0x05208 + 16 * k) = true →
      Completes (.cmpArm p k) s fun t => Only [.gt] s t ∧ t.gt = { s.gt with cmps := t.gt.cmps }
        ∧ t.cmpAt k = { s.cmpAt k with
            armed := true, armAt := s.now, late := decide ((s.cmpAt k).cmp.toNat ≤ s.tick.toNat) }
        ∧ ∀ j, j ≠ k → t.cmpAt j = s.cmpAt j)
    ∧ (((s.cmpAt k).armed = false ∨ s.now ≤ (s.cmpAt k).armAt
        ∨ (s.cmpAt k).late = false ∧ (s.cmpAt k).cmp ≠ s.tick) →
      Completes (.slotFired k) s fun t => t = s)
    ∧ ((s.cmpAt k).armed = true → (s.cmpAt k).armAt < s.now →
      ((s.cmpAt k).late = false ∧ (s.cmpAt k).cmp = s.tick ∨ (s.cmpAt k).late = true ∧ (s.cmpAt k).armAt + 1 = s.now) →
      Completes (.slotFired k) s fun t => Only [.gt, .pool, .seq, .out] s t ∧ Told s t
        ∧ t.cmpAt k = { s.cmpAt k with armed := false, late := false }
        ∧ (∀ j, j ≠ k → t.cmpAt j = s.cmpAt j)
        ∧ t.gt = { s.gt with
            cmps := t.gt.cmps,
            event := s.gt.event ||| oneBit 16
              ||| (if (s.cmpAt k).late = true ∨ s.gt.state ≠ .aligned then oneBit 17 else 0) }
        ∧ t.seq.flags = s.seq.flags
            ||| (if bit (s.cmpAt k).ctl 8 = true ∧ fld (s.cmpAt k).ctl 2 6 < 48 then
                BitVec.ofNat 64 (2 ^ fld (s.cmpAt k).ctl 2 6) else 0)
        ∧ t.seq = { s.seq with flags := t.seq.flags, raised := t.seq.raised, raisedAt := t.seq.raisedAt }
        ∧ t.out = { s.out with
            groupMark := if bit (s.cmpAt k).ctl 9 then some k else s.out.groupMark })

/-- Membership, configuration and SYNC_OUT (R300, R303, R308): COMMIT_ARM arms the commit; as TICK equals COMMIT_TICK, or
in the next die tick where COMMIT_TICK lay at or below TICK when it was armed or was passed by a step, the staged table
becomes active and MEMB_GEN takes NEXT_GEN; COPY stages the active table; the registers R308 names are taken in
STANDALONE and refused otherwise; SYNC_OUT rises at each multiple of 525,000,000 in a steered state with its
enable. -/
def MembershipAndConfiguration : Prop :=
  ∀ (p : Path) (s : State), Live s →
    (s.mayWrite p 0x0505C = true →
      Completes (.commitArm p) s (fun t => t = { s with gt := { s.gt with
          comArmed := true, comAt := s.now, comLate := decide (s.gt.commitTick.toNat ≤ s.tick.toNat) } })
      ∧ Completes (.copy p) s (fun t => t = { s with gt := { s.gt with staged := s.gt.active } }))
    ∧ (s.gt.comArmed = true → s.gt.comAt < s.now →
      (s.gt.comLate = false ∧ s.gt.commitTick = s.tick ∨ s.gt.comLate = true ∧ s.gt.comAt + 1 = s.now) →
      Completes .commit s fun t => GtFrame s t ∧ t.gt = { s.gt with
        active := s.gt.staged, prevGen := s.gt.gen, gen := s.gt.nextGen, comArmed := false, comLate := false,
        commitAt := some s.now, event := s.gt.event ||| oneBit 13 })
    ∧ (∀ off v, s.mayWrite p off = true → s.before p off = none →
      (off = 0x05010 ∨ off = 0x05014 ∨ off = 0x05018 ∨ off = 0x0501C) →
      (s.gt.state = .standalone → Completes (.gtConfigWrite p off v) s fun t =>
        Only [.gt] s t ∧ t.gt = { s.gt with
          id := if off = 0x05010 then v &&& 0x0FFF0FFF else s.gt.id,
          role := if off = 0x05014 then v &&& 0x0FFF1FFF else s.gt.role,
          epoch := if off = 0x05018 then v else s.gt.epoch,
          servo := if off = 0x0501C then v else s.gt.servo })
      ∧ (s.gt.state ≠ .standalone → Completes (.gtConfigWrite p off v) s fun t => GtFrame s t
          ∧ t.gt = { s.gt with event := s.gt.event ||| oneBit 18 }))
    ∧ (∀ l v, l < 16 → s.mayWrite p (0x05100 + 16 * l) = true → s.before p (0x05100 + 16 * l) = none →
      (s.gt.state = .standalone → Completes (.gtConfigWrite p (0x05100 + 16 * l) v) s fun t =>
        Only [.gt] s t ∧ LinksBut l s t ∧ t.link l = { s.link l with cfg := v &&& 0xFFFF0001 }
          ∧ t.gt = { s.gt with links := t.gt.links }))
    ∧ (bit s.gt.ctl 2 = true → (s.gt.state = .pullIn ∨ s.gt.state = .aligned ∨ s.gt.state = .holdover) →
      s.ref.tickValid = true → s.tick.toNat % 525000000 = 0 →
      Completes .syncOutPulse s fun t =>
        t = { s with gt := { s.gt with syncOutAt := some s.now } } ∧ t.syncOut = true)

/-! ## Hazard monitor, map, fencing, stamps (chapter 11) -/

/-- What an operation of the hazard block leaves alone: everything but its block and coaches formed. -/
def HzFrame (s t : State) : Prop := Only [.hz, .pool] s t ∧ Told s t

/-- The filter of R312. -/
def Filtered (rise fall raw h : Nat) : Nat :=
  if h < raw then h + (raw - h + 2 ^ rise - 1) / 2 ^ rise else h - (h - raw + 2 ^ fall - 1) / 2 ^ fall

/-- The latch of an update (R309, R312, R314): each scored region's next index follows its raw value under the filter, the raw
value the weighted sum of six scores; the accumulators fall by 1 every 2^DECAY updates, A_REF after its rise; each
region gathers anew. Weights written in the die tick of the latch count from the next update (R333). -/
def HazardLatch : Prop :=
  ∀ (s : State), Live s → bit s.hz.ctl 0 = true → s.ref.tickValid = true → s.tick.toNat % 65536 = 0 →
    s.hz.latchAt ≠ some s.now → s.spanDue = false →
    Completes .hazardUpdate s fun t => Only [.hz] s t ∧ t.hz.latchAt = some s.now
      ∧ t.hz.updates = s.hz.updates + 1 ∧ t.hz.d = s.hz.d ∧ t.hz.event = s.hz.event
      ∧ t.hz.aRoot = s.hz.aRoot - (if (s.hz.updates + 1) % 2 ^ fld s.hz.ctl 12 4 = 0 then 1 else 0)
      ∧ t.hz.aFeed = s.hz.aFeed - (if (s.hz.updates + 1) % 2 ^ fld s.hz.ctl 12 4 = 0 then 1 else 0)
      ∧ t.hz.aRef = (if s.hz.rootBad then min 65535 (s.hz.aRef + 16) else s.hz.aRef)
          - (if (s.hz.updates + 1) % 2 ^ fld s.hz.ctl 12 4 = 0 then 1 else 0)
      ∧ (∃ raw top, raw ≤ 1023 ∧ t.hz.dNext =
          some (Filtered (fld s.hz.ctl 4 4) (fld s.hz.ctl 8 4) raw s.hz.d, raw, top))
      ∧ ∀ r, r < 208 →
        (t.hzr r).h = (s.hzr r).h ∧ (t.hzr r).bins = [0, 0, 0, 0, 0, 0, 0, 0]
        ∧ (((s.region r).racg.state = .off ∨ (s.hzr r).fenced = true) → (t.hzr r).next = none)
        ∧ ((s.region r).racg.state ≠ .off → (s.hzr r).fenced = false → s.hz.fence.target ≠ some r →
          ∃ raw stale sc, (t.hzr r).next
              = some (Filtered (fld s.hz.ctl 4 4) (fld s.hz.ctl 8 4) raw (s.hzr r).h, raw, stale, sc)
            ∧ sc.length = 6 ∧ nth sc 5 = min 255 (64 * stale)
            ∧ raw = min 1023 (((List.range 6).map fun i =>
                fld (if r < 160 then s.began 0x04010 s.hz.wtCore else s.began 0x04014 s.hz.wtOther) (4 * i) 4 * nth sc i).sum / 4))

/-- The update takes effect 256 tk after its latch (R309, R313, R316 to R318): D and each scored region's H take their new
values; FENCE_REQ rises after FENCE_DWELL updates at or above FENCE_TH and falls below FENCE_TH - FENCE_HYST; the
armed threshold cause raises a request after SNAP_DWELL updates. All are judged on the registers as the die tick found
them (R333). -/
def HazardEffect : Prop :=
  ∀ (d raw top t0 : Nat) (snap fence : Word) (s : State), Live s → bit s.hz.ctl 0 = true → s.hz.latchAt = some t0 →
    t0 + 256 ≤ s.now → s.hz.dNext = some (d, raw, top) →
    s.began 0x04050 s.hz.snapCfg = snap → s.began 0x04054 s.hz.fenceCfg = fence →
    Completes .hazardUpdateEffect s fun t => Only [.hz, .pool] s t ∧ Told s t
      ∧ t.hz.d = d ∧ t.hz.dRaw = raw ∧ t.hz.top = top ∧ t.hz.latchAt = none
      ∧ (s.hz.threshArmed = true → fld snap 0 10 ≠ 0 → fld snap 0 10 ≤ d →
          max 1 (fld snap 20 4) ≤ s.hz.snapDwell + 1 →
          t.hz.snapPend = true ∧ t.hz.causes % 2 = 1 ∧ t.hz.threshArmed = false ∧ t.hz.dLast = d)
      ∧ ∀ r th, r < 208 → th = fld (s.began (0x04400 + 4 * r) (s.hzRegionWord r)) 10 10 →
        ((s.hzr r).fenced = true → (t.hzr r).h = (s.hzr r).h)
        ∧ ((s.hzr r).next = none → (s.hzr r).fenced = false → (s.region r).racg.state = .off →
            (t.hzr r).h = 0 ∧ (t.hzr r).scored = false)
        ∧ (∀ v rr stale sc, (s.hzr r).next = some (v, rr, stale, sc) → (s.hzr r).fenced = false →
            (t.hzr r).h = v ∧ (t.hzr r).raw = rr ∧ (t.hzr r).staleN = stale ∧ (t.hzr r).scores = sc
            ∧ (t.hzr r).scored = true ∧ (t.hzr r).next = none
            ∧ (th ≠ 0 → th ≤ v → max 1 (fld fence 10 4) ≤ (s.hzr r).dwell + 1 → (t.hzr r).fenceReq = true)
            ∧ (v + fld fence 0 10 < th → (s.hzr r).byRef = false →
                (t.hzr r).fenceReq = false))

/-- The age of a generation against MAP_GEN (R319, R320). -/
def genAge (s : State) (g : Nat) : Nat := (s.hz.mapGen + 65536 - g) % 65536

/-- The map port (R320): an ID above 143 is dropped as UNMAPPED, a message older than its entry as STALE, one for an unmapped
ID as UNMAPPED; any other is delivered to the region its ID maps to. -/
def MapPortJudges : Prop :=
  ∀ (l gen : Nat) (s : State), Live s → l < 256 → gen < 65536 →
    ((143 < l ∨ genAge s gen ≤ genAge s (s.lmapAt l).gen ∧ (s.lmapAt l).slot = none) →
      Completes (.mapPortMessage l gen) s fun t => Only [.hz, .pool, .out] s t ∧ Told s t
        ∧ t.out = { s.out with delivered := none }
        ∧ t.hz = { s.hz with
            lmap := t.hz.lmap, event := s.hz.event ||| oneBit 6, unmapped := min 0xFFFF (s.hz.unmapped + 1) }
        ∧ ∀ j, (t.lmapAt j).slot = (s.lmapAt j).slot ∧ (t.lmapAt j).gen = (s.lmapAt j).gen)
    ∧ (l ≤ 143 → genAge s (s.lmapAt l).gen < genAge s gen →
      Completes (.mapPortMessage l gen) s fun t => Only [.hz, .pool, .out] s t ∧ Told s t
        ∧ t.out = { s.out with delivered := none }
        ∧ t.hz = { s.hz with
            lmap := t.hz.lmap, event := s.hz.event ||| oneBit 5, stale := min 0xFFFF (s.hz.stale + 1) }
        ∧ ∀ j, (t.lmapAt j).slot = (s.lmapAt j).slot ∧ (t.lmapAt j).gen = (s.lmapAt j).gen)
    ∧ (∀ k, l ≤ 143 → genAge s gen ≤ genAge s (s.lmapAt l).gen → (s.lmapAt l).slot = some k →
      Completes (.mapPortMessage l gen) s fun t =>
        Only [.out] s t ∧ t.out = { s.out with delivered := some (10 * (l / 9) + k) })

/-- A command of the fence unit is refused with this reason and no other effect (R322). -/
def FenceRefused (reason : Nat) (s t : State) : Prop :=
  HzFrame s t ∧ t.hz = { s.hz with reason := reason, event := s.hz.event ||| oneBit 4 }

/-- The map changes: entry `l` names `slot`, with the next generation (R319). -/
def MapTo (l : Nat) (slot : Option Nat) (s t : State) : Prop :=
  t.hz.mapGen = (s.hz.mapGen + 1) % 65536 ∧ t.hz.lastLogical = l ∧ bit t.hz.event 8 = true
  ∧ (∀ j, j ≠ l → (t.lmapAt j).slot = (s.lmapAt j).slot) ∧ (l < 144 → (t.lmapAt l).slot = slot)

/-- No message and no command by logical ID has been delivered in this die tick (R333 judges those again). -/
abbrev NoneDelivered (s : State) : Prop := s.log.msgs = [] ∧ s.log.byLogical = false

/-- FENCE, ADOPT and UNFENCE (R322, R323, R326, R333): each is refused with the first reason of its row that holds; an
accepted FENCE unmaps the region's logical ID at once, and a message that its die tick has delivered by the old map is
judged on the new one; an accepted ADOPT gives ENABLE to the spare's couplers, an accepted UNFENCE clears FENCED and
H; CMD 0 has no effect. -/
def FenceCommandsJudged : Prop :=
  ∀ (p : Path) (r : Nat) (s : State), Live s → r < 256 → s.mayWrite p 0x04074 = true → s.frozen p = false →
    (∀ adopt n, (n = 4 ∧ s.hz.fence ≠ .idle
        ∨ n = 1 ∧ s.hz.fence = .idle ∧ 159 < r
        ∨ n = 2 ∧ s.hz.fence = .idle ∧ r ≤ 159 ∧ (s.region r).racg.state = .off
        ∨ n = 3 ∧ s.hz.fence = .idle ∧ r ≤ 159 ∧ (s.region r).racg.state ≠ .off ∧ (s.hzr r).fenced = true) →
      Completes (.fence p r adopt) s (FenceRefused n s))
    ∧ (∀ adopt, s.hz.fence = .idle → r ≤ 159 → (s.region r).racg.state ≠ .off → (s.hzr r).fenced = false →
      (NoneDelivered s →
        Completes (.fence p r adopt) s fun t => HzFrame s t
          ∧ t.hz.fence = .fencing r (s.logicalOf r) adopt s.now 0 ∧ t.hz.lastRegion = r
          ∧ HzrsBut r s t ∧ t.hz.reason = s.hz.reason
          ∧ t.hzr r = { s.hzr r with
              next := if s.hz.latchAt = some s.now then none else (s.hzr r).next }
          ∧ (s.logicalOf r = none → t.hz.lmap = s.hz.lmap ∧ t.hz.mapGen = s.hz.mapGen)
          ∧ ∀ l, s.logicalOf r = some l → MapTo l none s t)
      ∧ (∀ l, s.logicalOf r = some l → s.log.msgs = [(l, s.hz.mapGen)] → s.log.byLogical = false →
        s.hz.mapGen < 65536 →
        Completes (.fence p r adopt) s fun t =>
          t.out.delivered = none ∧ t.hz.stale = min 0xFFFF (s.hz.stale + 1)))
    ∧ (∀ n, (n = 4 ∧ s.hz.fence ≠ .idle
        ∨ n = 9 ∧ s.hz.fence = .idle ∧ 143 < r
        ∨ n = 6 ∧ s.hz.fence = .idle ∧ r ≤ 143 ∧ (s.lmapAt r).slot.isSome = true
        ∨ n = 7 ∧ s.hz.fence = .idle ∧ r ≤ 143 ∧ (s.lmapAt r).slot = none ∧ s.clusterSpare (r / 9) = none
        ∨ n = 8 ∧ s.hz.fence = .idle ∧ r ≤ 143 ∧ (s.lmapAt r).slot = none ∧ ∃ k,
            s.clusterSpare (r / 9) = some k
            ∧ ¬((s.region (10 * (r / 9) + k)).racg.state = .locked
                ∧ (s.region (10 * (r / 9) + k)).racg.shutter = false
                ∧ (s.region (10 * (r / 9) + k)).cal.valid = true)) →
      Completes (.adopt p r) s (FenceRefused n s))
    ∧ (∀ k, s.hz.fence = .idle → r ≤ 143 → (s.lmapAt r).slot = none → s.clusterSpare (r / 9) = some k →
      (s.region (10 * (r / 9) + k)).racg.state = .locked →
      (s.region (10 * (r / 9) + k)).racg.shutter = false →
      (s.region (10 * (r / 9) + k)).cal.valid = true →
      Completes (.adopt p r) s fun t => Only [.hz, .cpls, .pool] s t ∧ Told s t
        ∧ (∃ on, t.hz = { s.hz with fence := .adopting 0xFF (10 * (r / 9) + k) r s.now 0 on })
        ∧ (∀ i, cplTouches i (10 * (r / 9) + k) = false → t.cpl i = s.cpl i))
    ∧ (∀ n, (n = 4 ∧ s.hz.fence ≠ .idle
        ∨ n = 1 ∧ s.hz.fence = .idle ∧ 159 < r
        ∨ n = 5 ∧ s.hz.fence = .idle ∧ r ≤ 159 ∧ (s.hzr r).fenced = false) →
      Completes (.unfence p r) s (FenceRefused n s))
    ∧ (s.hz.fence = .idle → r ≤ 159 → (s.hzr r).fenced = true →
      Completes (.unfence p r) s fun t => HzFrame s t ∧ HzrsBut r s t
        ∧ t.hzr r = { s.hzr r with fenced := false, h := 0, dwell := 0, next := none }
        ∧ t.hz = { s.hz with
            regions := t.hz.regions, lastRegion := r, event := s.hz.event ||| oneBit 10 })
    ∧ Completes (.fenceReservedCmd p r) s (fun t => t = s)

/-- The host commands that wait for the fence unit have its reason, 0 for done (R386); nothing else of the sequencer
changes. -/
def FenceEnds (reason : Nat) (s t : State) : Prop :=
  Only [.hz, .pool, .seq] s t ∧ Told s t
    ∧ t.seq = { s.seq with jobs := s.seq.jobs.map fun j =>
        if (j.kind = .fence ∨ j.kind = .adopt) ∧ j.result = none then { j with result := some reason } else j }

/-- The ends of the sequences (R323, R324, R467): 17 tk after its origin a FENCE whose couplers have drained sets FENCED and
clears FENCE_REQ, and reports NO_LOGICAL where an ADOPT part has no ID; an ADOPT ends with the spare's shutter open; an
adoption undone is refused with SPARE_NOT_READY once its couplers have drained. -/
def FenceSequencesEnd : Prop :=
  ∀ (s : State), Live s →
    (∀ r l t0, s.hz.fence = .fencing r l false t0 2 → t0 + 17 ≤ s.now →
      (∀ i, i < 832 → cplTouches i r = true → (s.cpl i).state ≠ .draining) →
      Completes .fenceDone s fun t => FenceEnds 0 s t ∧ HzrsBut r s t
        ∧ t.hzr r = { s.hzr r with fenced := true, fenceReq := false, byRef := false, dwell := 0 }
        ∧ t.hz = { s.hz with
            regions := t.hz.regions, fence := .idle, event := s.hz.event ||| oneBit 2 })
    ∧ (∀ r t0, s.hz.fence = .fencing r none true t0 2 → t0 + 17 ≤ s.now →
      (∀ i, i < 832 → cplTouches i r = true → (s.cpl i).state ≠ .draining) →
      Completes .fenceDone s fun t => FenceEnds 10 s t ∧ HzrsBut r s t
        ∧ (t.hzr r).fenced = true ∧ t.hz.fence = .idle ∧ t.hz.reason = 10
        ∧ t.hz.event = s.hz.event ||| oneBit 2 ||| oneBit 4)
    ∧ (∀ r sp l t0 on, s.hz.fence = .adopting r sp l t0 2 on → (s.region sp).racg.shutter = true →
      Completes .adopted s fun t => FenceEnds 0 s t ∧ t.hz = { s.hz with
        fence := .idle, lastSpare := sp, event := s.hz.event ||| oneBit 3 })
    ∧ (∀ r sp l t0 on, s.hz.fence = .undoing r sp l t0 2 on → (∀ i ∈ on, (s.cpl i).state ≠ .draining) →
      Completes .adoptUndo s fun t => FenceEnds 8 s t ∧ t.hz = { s.hz with
        fence := .idle, reason := 8, event := s.hz.event ||| oneBit 4 })

/-- Feed notes, partners, acknowledgements and stamps (R318, R329 to R331): a FEED_NOTE of the sequencer or the SMBus target
is a feed event, the host's is none; a PARTNER write sets SHARES_FEED where a partner begins to share the device's
feed; SNAP_ACK clears SNAP_PENDING, and so does a STAMP that answers REQ_NUM, and a cause of the same die tick comes
after it and is raised as a new request; a STAMP latches TICK at the next edge, the generations, D before an update of
its die tick, and the group state. -/
def FeedPartnersAndStamps : Prop :=
  ∀ (p : Path) (s : State), Live s →
    (∀ code, s.mayWrite p 0x04080 = true → p ≠ .host →
      Completes (.feedNote p code) s fun t => HzFrame s t ∧ t.hz = { s.hz with
        feedCount := min 0xFFFF (s.hz.feedCount + 1), aFeed := min 65535 (s.hz.aFeed + 256),
        event := s.hz.event ||| oneBit 9 })
    ∧ (∀ code, s.mayWrite .host 0x04080 = true → Completes (.feedNote .host code) s fun t => t = s)
    ∧ (∀ k v, k < 4 → s.mayWrite p (0x04090 + 4 * k) = true → s.before p (0x04090 + 4 * k) = none →
      Completes (.partnerWrite p k v) s fun t => HzFrame s t
        ∧ t.hz = { s.hz with partners := t.hz.partners, event := t.hz.event }
        ∧ tget 0 t.hz.partners k = v &&& 0x0FFF1FFF
        ∧ (∀ j, j ≠ k → tget 0 t.hz.partners j = tget 0 s.hz.partners j)
        ∧ t.hz.event = s.hz.event
            ||| (if t.hz.sharesAny = true ∧ s.hz.sharesAny = false then oneBit 7 else 0))
    ∧ (s.mayWrite p 0x04058 = true →
      (s.log.causes = [] →
        Completes (.snapAck p) s fun t => t = { s with hz := { s.hz with snapPend := false } })
      ∧ (∀ c r, s.log.causes = [(c, r)] →
        (s.log.asked = true → Completes (.snapAck p) s fun t => HzFrame s t
          ∧ t.hz = { s.hz with
              snapPend := true, reqNum := (s.hz.reqNum + 1) % 65536, causes := 2 ^ c,
              event := s.hz.event ||| oneBit 0 })
        ∧ (s.log.asked = false → Completes (.snapAck p) s fun t => t = s))
      ∧ ∀ answer req, req < 65536 → s.log.causes = [] → Completes (.stamp p answer req) s fun t =>
        Only [.hz] s t
        ∧ t.hz = { s.hz with
            stampTick := if s.ref.tickValid then s.tick + 1 else s.tick,
            stampMemb := s.gt.gen, stampMap := s.hz.mapGen, stampD := s.log.dWas.getD s.hz.d, stampGt := s.gt.state.code,
            stampAl := decide (s.gt.state = .aligned), stampValid := true, stampReq := req,
            stampAns := answer && decide (req = s.hz.reqNum),
            snapPend := s.hz.snapPend && !(answer && decide (req = s.hz.reqNum)) })

/-! ## The Lysio sequencer (chapter 12) -/

/-- Task `t` issues instruction `i` in this die tick, and no TSTOP waits for it. -/
abbrev IssuesNow (t : Nat) (i : Ins) (s : State) : Prop :=
  Live s ∧ t < 4 ∧ s.issues t = true ∧ decodeIns (s.fetch t) = some i ∧ (s.task t).stopDue = 0

/-- Task `t` is `k` now, and only the record of its issue has changed besides. -/
def TaskStep (t : Nat) (k : Task) (s u : State) : Prop :=
  Only [.seq] s u ∧ TasksBut t s u ∧ u.task t = k
  ∧ u.seq = { s.seq with tasks := u.seq.tasks, lastTask := t, issuedAt := some s.now }

/-- As TaskStep, with the time that data memory is taken (R342). -/
def TaskMoves (t : Nat) (k : Task) (s u : State) : Prop :=
  Only [.seq] s u ∧ TasksBut t s u ∧ u.task t = k
  ∧ u.seq = { s.seq with
      tasks := u.seq.tasks, lastTask := t, issuedAt := some s.now, moveFrom := u.seq.moveFrom,
      moveEnd := u.seq.moveEnd }

/-- Register `d` written (G0 keeps nothing), pc + 1, and `cyc` cycles taken. -/
def Sys2Proof.Machine.Task.wrote (k : Task) (now d cyc : Nat) (v : Word) : Task :=
  { k.setG d v with pc := (k.pc + 1) % 16384, readyAt := now + 2 * cyc }

/-- The task faults at this instruction (R368, R369): FAULTED, with its cause and address; line 63 and SEQ_EVENT.FAULT; no
memory of the sequencer changes. -/
def TaskFaults (t cause : Nat) (s u : State) : Prop :=
  Only [.seq, .pool] s u ∧ Told s u ∧ TasksBut t s u
  ∧ u.task t = { s.task t with
      state := .faulted, faultPc := (s.task t).pc, cause := cause, faults := min 0xFF ((s.task t).faults + 1),
      stopDue := 0 }
  ∧ bit u.seq.flags 63 = true ∧ bit u.seq.event 0 = true
  ∧ u.seq.dmem = s.seq.dmem ∧ u.seq.scratch = s.seq.scratch ∧ u.seq.imem = s.seq.imem

/-- Instruction words (R345): the opcode is bits [31:26], and the fields lie where the formats put them; an opcode outside the
tables is no instruction, nor is a computation of format R with a bit of X set, nor a branch with one of D; a word of
zeros is none, and 0x10000000 is OR with every field 0. -/
def InstructionWords : Prop :=
  (∀ (w : Word), (fld w 26 6 = 0 ∨ 0x0B < fld w 26 6 ∧ fld w 26 6 < 0x10 ∨ 0x18 < fld w 26 6 ∧ fld w 26 6 < 0x20
      ∨ 0x24 < fld w 26 6 ∧ fld w 26 6 < 0x28 ∨ 0x3E < fld w 26 6) → decodeIns w = none)
  ∧ (∀ (w : Word) (i : Ins), decodeIns w = some i →
      i.op = fld w 26 6 ∧ i.d = fld w 22 4 ∧ i.a = fld w 18 4 ∧ i.b = fld w 14 4 ∧ i.x = fld w 0 14
      ∧ i.imm = fld w 0 18 ∧ i.tgt = fld w 0 14)
  ∧ (∀ (w : Word), 1 ≤ fld w 26 6 → fld w 26 6 ≤ 0x0B → ((decodeIns w).isSome ↔ fld w 0 14 = 0))
  ∧ (∀ (w : Word), 0x28 ≤ fld w 26 6 → fld w 26 6 ≤ 0x2D → ((decodeIns w).isSome ↔ fld w 22 4 = 0))
  ∧ (∀ (w : Word), (0x10 ≤ fld w 26 6 ∧ fld w 26 6 ≤ 0x13 ∨ fld w 26 6 = 0x18 ∨ fld w 26 6 = 0x20
      ∨ fld w 26 6 = 0x21 ∨ fld w 26 6 = 0x23 ∨ fld w 26 6 = 0x24 ∨ fld w 26 6 = 0x32) →
      (decodeIns w).isSome)
  ∧ decodeIns 0 = none
  ∧ decodeIns 0x10000000 = some { op := 4, d := 0, a := 0, b := 0, x := 0, imm := 0, tgt := 0 }

/-- Computation (R339, R346, R347, R354): the instruction writes its result to Gd, nothing where d is 0, moves pc on by 1 and
takes its cycles; no other register, task or memory changes. -/
def ComputationResults : Prop :=
  ∀ (t : Nat) (i : Ins) (s : State), IssuesNow t i s →
    (∀ (a b : Word) (c : Instr) (v : Word) (cyc : Nat),
      a = (s.task t).reg i.a → b = (s.task t).reg i.b →
      ((i.op = 0x01 ∧ c = .add t ∧ v = a + b ∧ cyc = 1)
        ∨ (i.op = 0x02 ∧ c = .sub t ∧ v = a - b ∧ cyc = 1)
        ∨ (i.op = 0x03 ∧ c = .and t ∧ v = a &&& b ∧ cyc = 1)
        ∨ (i.op = 0x04 ∧ c = .or t ∧ v = a ||| b ∧ cyc = 1)
        ∨ (i.op = 0x05 ∧ c = .xor t ∧ v = a ^^^ b ∧ cyc = 1)
        ∨ (i.op = 0x06 ∧ c = .shl t ∧ v = a <<< (b.toNat % 32) ∧ cyc = 1)
        ∨ (i.op = 0x07 ∧ c = .shr t ∧ v = a >>> (b.toNat % 32) ∧ cyc = 1)
        ∨ (i.op = 0x08 ∧ c = .sra t ∧ v = a.sshiftRight (b.toNat % 32) ∧ cyc = 1)
        ∨ (i.op = 0x09 ∧ c = .mul t ∧ v = a * b ∧ cyc = 2)
        ∨ (i.op = 0x0A ∧ c = .slt t ∧ v = (if a.toInt < b.toInt then 1 else 0) ∧ cyc = 1)
        ∨ (i.op = 0x0B ∧ c = .sltu t ∧ v = (if a.toNat < b.toNat then 1 else 0) ∧ cyc = 1)) →
      Completes c s (TaskStep t ((s.task t).wrote s.now i.d cyc v) s))
    ∧ (∀ (a imm : Word) (c : Instr) (v : Word),
      a = (s.task t).reg i.a → imm = BitVec.ofInt 32 (BitVec.ofNat 18 i.imm).toInt →
      ((i.op = 0x10 ∧ c = .addi t ∧ v = a + imm)
        ∨ (i.op = 0x11 ∧ c = .andi t ∧ v = a &&& BitVec.ofNat 32 i.imm)
        ∨ (i.op = 0x12 ∧ c = .ori t ∧ v = a ||| BitVec.ofNat 32 i.imm)
        ∨ (i.op = 0x13 ∧ c = .xori t ∧ v = a ^^^ BitVec.ofNat 32 i.imm)
        ∨ (i.op = 0x14 ∧ c = .shli t ∧ v = a <<< (i.imm % 32))
        ∨ (i.op = 0x15 ∧ c = .shri t ∧ v = a >>> (i.imm % 32))
        ∨ (i.op = 0x16 ∧ c = .srai t ∧ v = a.sshiftRight (i.imm % 32))
        ∨ (i.op = 0x17 ∧ c = .lui t ∧ v = BitVec.ofNat 32 i.imm <<< 14)
        ∨ (i.op = 0x18 ∧ c = .slti t ∧ v = (if a.toInt < imm.toInt then 1 else 0))
        ∨ (i.op = 0x36 ∧ c = .rds t ∧ i.imm = 0 ∧ v = BitVec.ofNat 32 t)
        ∨ (i.op = 0x36 ∧ c = .rds t ∧ i.imm = 1 ∧ v = loWord s.lineFlags)
        ∨ (i.op = 0x36 ∧ c = .rds t ∧ i.imm = 2 ∧ v = hiWord s.lineFlags)
        ∨ (i.op = 0x36 ∧ c = .rds t ∧ i.imm = 3 ∧ v = BitVec.ofNat 32 ((s.now - s.seq.startAt) / 2))
        ∨ (i.op = 0x36 ∧ c = .rds t ∧ i.imm = 4 ∧ v = BitVec.ofNat 32 (0x158 + t))) →
      Completes c s (TaskStep t ((s.task t).wrote s.now i.d 1 v) s))
    ∧ (i.op = 0x30 → i.d % 2 = 0 → Completes (.rdt t) s fun u => TaskStep t (u.task t) s u
        ∧ (∀ n, n ≠ 0 → n ≠ i.d → n ≠ i.d + 1 → (u.task t).reg n = (s.task t).reg n)
        ∧ (i.d ≠ 0 → (u.task t).reg i.d = loWord s.tick) ∧ (u.task t).reg (i.d + 1) = hiWord s.tick
        ∧ u.task t = { s.task t with
            g := (u.task t).g, pc := ((s.task t).pc + 1) % 16384, readyAt := s.now + 2 })

/-- Control flow (R346): a branch whose condition holds moves pc by its signed offset and takes 2 cycles, otherwise pc + 1
and 1 cycle; JAL and JALR write the link and jump. -/
def ControlFlow : Prop :=
  ∀ (t : Nat) (i : Ins) (s : State), IssuesNow t i s →
    (∀ (a b : Word) (c : Instr) (taken : Prop), a = (s.task t).reg i.a → b = (s.task t).reg i.b →
      ((i.op = 0x28 ∧ c = .beq t ∧ taken = (a = b)) ∨ (i.op = 0x29 ∧ c = .bne t ∧ taken = (a ≠ b))
        ∨ (i.op = 0x2A ∧ c = .blt t ∧ taken = (a.toInt < b.toInt))
        ∨ (i.op = 0x2B ∧ c = .bge t ∧ taken = (b.toInt ≤ a.toInt))
        ∨ (i.op = 0x2C ∧ c = .bltu t ∧ taken = (a.toNat < b.toNat))
        ∨ (i.op = 0x2D ∧ c = .bgeu t ∧ taken = (b.toNat ≤ a.toNat))) →
      (taken → Completes c s (TaskStep t { s.task t with
        pc := (((s.task t).pc + (BitVec.ofNat 14 i.x).toInt) % 16384).toNat, readyAt := s.now + 4 } s))
      ∧ (¬taken → Completes c s (TaskStep t { s.task t with
        pc := ((s.task t).pc + 1) % 16384, readyAt := s.now + 2 } s)))
    ∧ (i.op = 0x2E → Completes (.jal t) s (TaskStep t
        { (s.task t).setG i.d (BitVec.ofNat 32 (((s.task t).pc + 1) % 16384)) with
          pc := i.tgt % 16384, readyAt := s.now + 4 } s))
    ∧ (i.op = 0x2F → ((s.task t).reg i.a).toNat ≤ 16383 → Completes (.jalr t) s (TaskStep t
        { (s.task t).setG i.d (BitVec.ofNat 32 (((s.task t).pc + 1) % 16384)) with
          pc := ((s.task t).reg i.a).toNat, readyAt := s.now + 4 } s))

/-- The byte of data memory at an address, and the word there, least significant byte first (R340); from 28,672 up the ROM
program reaches its scratch memory while SEQ_ROM is 1 (R371). -/
def dataByte (s : State) (b : Nat) : Byte :=
  if s.seqRom = true ∧ 28672 ≤ b then tget 0 s.seq.scratch (b - 28672) else tget 0 s.seq.dmem b

def dataWord (s : State) (a : Nat) : Word :=
  dataByte s (a + 3) ++ dataByte s (a + 2) ++ dataByte s (a + 1) ++ dataByte s a

/-- Data memory (R340, R341, R348, R371): LD and XCHG return the word at the address, 2 cycles; ST and XCHG store a word, and no
other byte changes; a single-bit error is corrected, counted and reported when it is read. -/
def DataMemoryAccesses : Prop :=
  ∀ (t a : Nat) (i : Ins) (s : State), IssuesNow t i s → a ≤ 32764 → a % 4 = 0 → s.dmBad a = false →
    ((s.inScratch a = true ∨ s.seq.eccSoft.contains a = false) →
      (a = ((s.task t).reg i.a + BitVec.ofInt 32 (BitVec.ofNat 18 i.imm).toInt).toNat →
        (i.op = 0x20 → Completes (.ld t) s (TaskMoves t ((s.task t).wrote s.now i.d 2 (dataWord s a)) s))
        ∧ (i.op = 0x21 → Completes (.st t) s fun u => Only [.seq] s u ∧ TasksBut t s u
            ∧ u.task t = { s.task t with pc := ((s.task t).pc + 1) % 16384, readyAt := s.now + 2 }
            ∧ (Memory.wf 0 s.seq.dmem = true → Memory.wf 0 s.seq.scratch = true →
                dataWord u a = (s.task t).reg i.d)
            ∧ (∀ b, (b < a ∨ a + 4 ≤ b) → dataByte u b = dataByte s b) ∧ u.seq.imem = s.seq.imem))
      ∧ (a = ((s.task t).reg i.a).toNat → i.op = 0x22 →
        Completes (.xchg t) s fun u => Only [.seq] s u ∧ TasksBut t s u
          ∧ u.task t = (s.task t).wrote s.now i.d 2 (dataWord s a)
          ∧ (Memory.wf 0 s.seq.dmem = true → Memory.wf 0 s.seq.scratch = true →
              dataWord u a = (s.task t).reg i.b)
          ∧ (∀ b, (b < a ∨ a + 4 ≤ b) → dataByte u b = dataByte s b) ∧ u.seq.imem = s.seq.imem))
    ∧ (s.inScratch a = false → s.seq.eccSoft.contains a = true →
      a = ((s.task t).reg i.a + BitVec.ofInt 32 (BitVec.ofNat 18 i.imm).toInt).toNat → i.op = 0x20 →
      Completes (.ld t) s fun u => Only [.seq, .pool] s u ∧ Told s u ∧ TasksBut t s u
        ∧ u.task t = (s.task t).wrote s.now i.d 2 (dataWord s a)
        ∧ u.seq.eccFixed = min 0xFFFF (s.seq.eccFixed + 1) ∧ u.seq.event = s.seq.event ||| oneBit 4
        ∧ u.seq.dmem = s.seq.dmem ∧ u.seq.scratch = s.seq.scratch)

/-- Registers of the KTC (R349 to R352): LDK sends a read that returns 2 tk later at the earliest, up to 8 tk for a region's or
a coupler's page, and the value it then reads goes to Gd; STK posts a write, which takes effect when it is due. -/
def KtcRegisterAccesses : Prop :=
  ∀ (t off : Nat) (i : Ins) (s : State),
    (IssuesNow t i s → off = ((s.task t).reg i.a + BitVec.ofInt 32 (BitVec.ofNat 18 i.imm).toInt).toNat →
      off % 4 = 0 → off ≤ 0xFFFFC → (off < 0x60000 ∨ 0x78000 ≤ off) →
      s.seq.posted = [] → (∀ k, k < 4 → (s.task k).ldk = none) →
      (i.op = 0x23 → Completes (.ldk t) s fun u => Only [.seq, .free] s u ∧ TasksBut t s u
        ∧ ∃ due, s.now + 1 ≤ due ∧ due ≤ s.now + 8 ∧ (farPage off = false → due = s.now + 2)
          ∧ u.task t = { s.task t with
              ldk := some { d := i.d, off := off, at_ := s.now, due := due },
              pc := ((s.task t).pc + 1) % 16384,
              readyAt := s.now + 2 * (if farPage off then 8 else 3) })
      ∧ (i.op = 0x24 → Completes (.stk t) s fun u => Only [.seq, .free] s u ∧ TasksBut t s u
        ∧ u.task t = { s.task t with pc := ((s.task t).pc + 1) % 16384, readyAt := s.now + 2 }
        ∧ ∃ due, s.now + 1 ≤ due ∧ due ≤ s.now + 8 ∧ (farPage off = false → due = s.now + 2)
          ∧ u.seq.posted = [{ off := off, v := (s.task t).reg i.d, at_ := s.now, due := due }]))
    ∧ (∀ p, Live s → s.seq.posted = [p] → p.due ≤ s.now →
      (∀ k, k < 4 → (s.task k).ldk = none ∧ (s.task k).armd = none) →
      Completes (.postedWrite 0) s fun u =>
        u = ({ s with seq := { s.seq with posted := [] } } : State).writeReg .seq p.off p.v
        ∧ (p.off = 0x0405C → Only [.seq, .hz] s u ∧ u.seq = { s.seq with posted := [] }
            ∧ u.hz = { s.hz with stampId := p.v }))
    ∧ (∀ k, (s.task t).ldk = some k → k.due ≤ s.now → s.seq.posted = [] →
      (s.ldkDue t) = (s.readAccess .seq k.off).1.updTask t (fun x =>
        { x.setG k.d (s.readAccess .seq k.off).2 with ldk := none }))

/-- Timed waits (R354 to R357): a wait for a target at or below TICK returns 1 at once, any other makes the task WAITING; it
ends with 0 when TICK has reached its target, with 2 when a step passed it. -/
def TimedWaits : Prop :=
  ∀ (t : Nat) (s : State),
    (∀ i c target, IssuesNow t i s →
      ((i.op = 0x31 ∧ i.a % 2 = 0 ∧ c = .waitt t
          ∧ target = ((s.task t).reg i.a).toNat + 2 ^ 32 * ((s.task t).reg (i.a + 1)).toNat)
        ∨ (i.op = 0x32 ∧ c = .waitr t
          ∧ target = (s.tick.toNat + ((s.task t).reg i.a).toNat + i.imm) % 2 ^ 64)) →
      (target ≤ s.tick.toNat → Completes c s (TaskStep t ((s.task t).wrote s.now i.d 1 1) s))
      ∧ (s.tick.toNat < target → Completes c s (TaskStep t { s.task t with
          state := .waiting (.timed target i.d), pc := ((s.task t).pc + 1) % 16384, readyAt := s.now,
          stepped := false } s)))
    ∧ (∀ target d, Live s → t < 4 → (s.task t).state = .waiting (.timed target d) →
      (s.task t).readyAt < s.now → ((s.task t).stepped = true ∨ target ≤ s.tick.toNat) →
      Completes (.timedWaitEnd t) s fun u => Only [.seq] s u ∧ TasksBut t s u
        ∧ u.seq = { s.seq with tasks := u.seq.tasks }
        ∧ u.task t = { (s.task t).setG d (if (s.task t).stepped then 2 else 0) with
            state := .ready, readyAt := s.now, wokeAt := some s.now, stepped := false,
            stopDue := if (s.task t).stopDue = 3 then 2 else (s.task t).stopDue })

/-- `n` is the lowest line of `mask` whose flag is set. -/
def LowestLine (f mask : DWord) (n : Nat) : Prop :=
  n < 64 ∧ bit f n = true ∧ bit mask n = true ∧ ∀ m, m < n → ¬(bit f m = true ∧ bit mask m = true)

/-- Event lines and waits for them (R343, R344, R354, R358): WAITE returns the lowest flag of its mask at once, clearing it
with CLR, returns 64 past its deadline, and waits otherwise; the wait ends on a flag or the deadline; a line that the
WAITE of another task clears in the same die tick is still seen; SETEV sets a flag, CLREV clears flags. -/
def EventLinesAndWaits : Prop :=
  ∀ (t : Nat) (s : State),
    (∀ i mask, IssuesNow t i s → i.op = 0x33 → i.a % 2 = 0 → (i.x / 2 % 2 = 1 → i.b % 2 = 0) → mask = (s.task t).pair i.a →
      (mask ≠ 0 ∨ i.x / 2 % 2 = 1) →
      (∀ n, LowestLine (s.lineFlags ||| s.eatenNow) mask n → Completes (.waite t) s fun u => Only [.seq] s u ∧ TasksBut t s u
        ∧ u.task t = (s.task t).wrote s.now i.d 1 (BitVec.ofNat 32 n)
        ∧ u.seq.flags = (if i.x % 2 = 1 then s.seq.flags &&& ~~~(BitVec.ofNat 64 (2 ^ n)) else s.seq.flags))
      ∧ ((∀ n, ¬LowestLine (s.lineFlags ||| s.eatenNow) mask n) →
        (i.x / 2 % 2 = 1 → ((s.task t).pair i.b).toNat ≤ s.tick.toNat →
          Completes (.waite t) s (TaskStep t ((s.task t).wrote s.now i.d 1 64) s))
        ∧ ((i.x / 2 % 2 = 0 ∨ s.tick.toNat < ((s.task t).pair i.b).toNat) →
          Completes (.waite t) s (TaskStep t { s.task t with
            state := .waiting (.event mask
              (if i.x / 2 % 2 = 1 then some ((s.task t).pair i.b).toNat else none)
              (decide (i.x % 2 = 1)) i.d),
            pc := ((s.task t).pc + 1) % 16384, readyAt := s.now, stepped := false } s))))
    ∧ (∀ mask dl clr d v, Live s → t < 4 → (s.task t).state = .waiting (.event mask dl clr d) →
      (s.task t).readyAt < s.now →
      (LowestLine (s.lineFlags ||| s.eatenNow) mask v
        ∨ v = 64 ∧ (∀ n, ¬LowestLine (s.lineFlags ||| s.eatenNow) mask n) ∧ ∃ x, dl = some x ∧ x ≤ s.tick.toNat) →
      Completes (.eventWaitEnd t) s fun u => Only [.seq] s u ∧ TasksBut t s u
        ∧ u.task t = { (s.task t).setG d (BitVec.ofNat 32 v) with
            state := .ready, readyAt := s.cycleAfter, wokeAt := some s.now,
            stopDue := if (s.task t).stopDue = 3 then 2 else (s.task t).stopDue }
        ∧ u.seq.flags = (if v < 64 ∧ clr = true then s.seq.flags &&& ~~~(BitVec.ofNat 64 (2 ^ v))
            else s.seq.flags))
    ∧ (∀ i n, IssuesNow t i s → i.op = 0x34 →
      n = ((s.task t).reg i.a + BitVec.ofInt 32 (BitVec.ofNat 18 i.imm).toInt).toNat → n ≤ 47 →
      Completes (.setev t) s fun u => Only [.seq] s u ∧ TasksBut t s u
        ∧ u.task t = { s.task t with pc := ((s.task t).pc + 1) % 16384, readyAt := s.now + 2 }
        ∧ u.seq.flags = s.seq.flags ||| BitVec.ofNat 64 (2 ^ n))
    ∧ (∀ i, IssuesNow t i s → i.op = 0x35 → i.a % 2 = 0 → s.seq.raisedAt ≠ s.now →
      Completes (.clrev t) s fun u => Only [.seq] s u ∧ TasksBut t s u
        ∧ u.task t = { s.task t with pc := ((s.task t).pc + 1) % 16384, readyAt := s.now + 2 }
        ∧ u.seq.flags = s.seq.flags &&& ~~~((s.task t).pair i.a))

/-- The fields of an ARMD in its slot. -/
def armdSlot (s : State) (m : ArmdOp) : State :=
  s.updSlot m.slot (fun d => { d with
    set := m.set, door := m.door, target := m.target, resync := m.resync })

/-- Doors and broadcasts (R354, R359 to R361, R79): DWAIT returns the state of a slot at rest, or waits for it; BCAST sends its
message to the set it read from data memory, 7 cycles, which a tap has no earlier than 1 tk after it is sent; a message writes the register of each region it reaches, or is lost at a spine
swap; ARMD lands 16 tk after issue with its fields and GO, and returns the reason. -/
def DoorsAndBroadcasts : Prop :=
  ∀ (t : Nat) (s : State),
    (∀ i, IssuesNow t i s → i.op = 0x3A →
      (¬SlotBusy (s.slot (i.imm % 4)) → Completes (.dwait t) s (TaskStep t
        ((s.task t).wrote s.now i.d 1 (BitVec.ofNat 32 (s.slot (i.imm % 4)).state.code)) s))
      ∧ (SlotBusy (s.slot (i.imm % 4)) → Completes (.dwait t) s (TaskStep t { s.task t with
          state := .waiting (.door (i.imm % 4) i.d), pc := ((s.task t).pc + 1) % 16384, readyAt := s.now,
          stepped := false } s)))
    ∧ (∀ k d, Live s → t < 4 → (s.task t).state = .waiting (.door k d) → (s.task t).readyAt < s.now →
      ¬SlotBusy (s.slot k) →
      Completes (.doorWaitEnd t) s fun u => Only [.seq] s u ∧ TasksBut t s u
        ∧ u.seq = { s.seq with tasks := u.seq.tasks }
        ∧ u.task t = { (s.task t).setG d (BitVec.ofNat 32 (s.slot k).state.code) with
            state := .ready, readyAt := s.cycleAfter, wokeAt := some s.now,
            stopDue := if (s.task t).stopDue = 3 then 2 else (s.task t).stopDue })
    ∧ (∀ i a, IssuesNow t i s → a = ((s.task t).reg i.a).toNat → a ≤ 32740 → a % 4 = 0 →
      s.seq.eccBad = [] → s.seq.eccSoft = [] →
      (i.op = 0x38 → i.x % 4 = 0 → Completes (.bcast t) s fun u => Only [.seq] s u ∧ TasksBut t s u
        ∧ u.task t = (s.task t).wrote s.now i.d 8 (BitVec.ofNat 32 (setList (s.readSet a)).length)
        ∧ u.seq.bcasts = s.seq.bcasts ++ (if s.readSet a = 0 then [] else
            [{ set := s.readSet a, off := i.x, v := (s.task t).reg i.b, sent := s.now + 14 }]))
      ∧ (i.op = 0x39 → i.b % 2 = 0 → Completes (.armd t) s (TaskMoves t { s.task t with
          armd := some { slot := i.x / 16 % 4, target := i.x % 16, resync := decide (i.x / 64 % 2 = 1),
                         door := (s.task t).pair i.b, set := s.readSet a, d := i.d, due := s.now + 16 },
          pc := ((s.task t).pc + 1) % 16384, readyAt := s.now + 20 } s)))
    ∧ (∀ r m, Live s → r < 208 → s.seq.bcasts = [m] → m.sent < s.now → m.set = setOne r →
      Completes (.bcastMessage 0 r true) s (fun u => u = { s with
        seq := { s.seq with bcasts := [] }, ref := { s.ref with ctlLost := min 0xFFFF (s.ref.ctlLost + 1) } })
      ∧ Completes (.bcastMessage 0 r false) s (fun u =>
        u = ({ s with seq := { s.seq with bcasts := [] } } : State).writeReg .seq
          (0x10000 + 0x100 * r + m.off) m.v))
    ∧ (∀ m why, Live s → t < 4 → (s.task t).armd = some m → m.slot < 4 → m.target < 16 → m.due ≤ s.now →
      s.seq.posted = [] → s.laterSlots m.slot m.set = [] →
      ¬SlotBusy (s.slot m.slot) → GoReason (armdSlot s m) m.slot m.target why →
      Completes (.armdLand t) s fun u => Only [.doors, .pool, .seq] s u ∧ Told s u ∧ SlotsBut m.slot s u
        ∧ TasksBut t s u
        ∧ u.task t = { (s.task t).setG m.d (BitVec.ofNat 32 why) with armd := none }
        ∧ (u.slot m.slot).set = m.set ∧ (u.slot m.slot).door = m.door ∧ (u.slot m.slot).target = m.target
        ∧ (u.slot m.slot).reason = why ∧ (why = 0 → (u.slot m.slot).state = .arming)
        ∧ (why ≠ 0 → (u.slot m.slot).state = (s.slot m.slot).state))

/-- PUSH and POP (R362 to R365): PUSH copies its coach, with the task as its source, and waits for grant; it ends with 0 when
granted and with 1 where its queue refuses; POP takes the head coach as its carts hold it, or the idle coach, its header's high word to
Gd, and its carriages go to data memory. -/
def PushAndPop : Prop :=
  ∀ (t : Nat) (s : State),
    (∀ i a h, IssuesNow t i s → i.op = 0x3B → a = ((s.task t).reg i.a).toNat → a % 8 = 0 →
      s.seq.eccBad = [] → s.seq.eccSoft = [] → h = joinWords (s.dmRead a) (s.dmRead (a + 4)) →
      1 ≤ fld h 52 4 → fld h 52 4 ≤ 8 → a + 8 * fld h 52 4 ≤ 32768 →
      (fld h 56 8 = 0xB3 ∨ fld h 56 8 = 0xC1 ∨ 0xE0 ≤ fld h 56 8 ∧ fld h 56 8 ≤ 0xEF) →
      Completes (.push t) s fun u => ∃ words q, TaskMoves t { s.task t with
          state := .waiting (.push q i.d words (decide (i.x / 128 % 2 = 1)) (s.now + 2 * fld h 52 4)),
          pc := ((s.task t).pc + 1) % 16384, readyAt := s.now, stepped := false } s u
        ∧ words.length = fld h 52 4 ∧ fld (words.headD 0) 40 12 = 0x158 + t
        ∧ fld (words.headD 0) 0 40 = fld h 0 40 ∧ fld (words.headD 0) 52 12 = fld h 52 12
        ∧ (∀ n, 1 ≤ n → n < fld h 52 4 →
            words.getD n 0 = joinWords (s.dmRead (a + 8 * n)) (s.dmRead (a + 8 * n + 4)))
        ∧ q = (if 1 ≤ i.x % 128 ∧ i.x % 128 ≤ 95 ∧ bit (s.queue (i.x % 128)).cfg 0 = true
            then i.x % 128 else 0))
    ∧ (∀ q d words keep ready, Live s → t < 4 →
      (s.task t).state = .waiting (.push q d words keep ready) → ready ≤ s.now →
      ((q = 0 ∨ bit (s.queue q).cfg 0 = false) →
        Completes (.pushGrant t) s fun u => Only [.seq] s u ∧ TasksBut t s u
          ∧ u.task t = { (s.task t).setG d 1 with
              state := .ready, readyAt := s.cycleAfter, wokeAt := some s.now,
              stopDue := if (s.task t).stopDue = 3 then 2 else (s.task t).stopDue })
      ∧ (∀ s1, q ≠ 0 → bit (s.queue q).cfg 0 = true →
        s.nextGrant = (s1, some (0x158 + t, q, words)) → s1.isPushSrc (0x158 + t) = true →
        s1.task t = s.task t →
        Completes (.pushGrant t) s fun u => (u.task t) = { (s.task t).setG d 0 with
              state := .ready, readyAt := s1.cycleAfter, wokeAt := some s1.now,
              stopDue := if (s.task t).stopDue = 3 then 2 else (s.task t).stopDue }
          ∧ u.pool.lastSrc = 0x158 + t
          ∧ ∃ c ∈ (u.queue q).coaches, c.src = 0x158 + t ∧ c.words = words ∧ c.grantAt = s1.now))
    ∧ (∀ i a q, IssuesNow t i s → i.op = 0x3C → a = ((s.task t).reg i.a).toNat → a % 8 = 0 → a ≤ 32704 →
      q = i.x % 128 → q ≤ 95 →
      (bit (s.queue q).cfg 2 = true → ∀ c, Poppable (s.queue q) s.now c → c.grantAt ≤ s.now →
        Completes (.pop t) s fun u => Only [.seq, .pool] s u ∧ TasksBut t s u ∧ QueuesBut q s u
          ∧ u.task t = (s.task t).wrote s.now i.d (2 + c.words.length) (hiWord ((s.coachWords c).headD 0))
          ∧ u.seq.popMove = some (s.now + 4, a, s.coachWords c)
          ∧ u.queue q = { s.queue q with
              coaches := if bit (s.queue q).cfg 1 then (s.queue q).coaches
                else (s.queue q).coaches.eraseIdx (s.queue q).pos,
              pos := if bit (s.queue q).cfg 1 then (s.queue q).pos + 1 else (s.queue q).pos })
      ∧ ((bit (s.queue q).cfg 2 = false ∨ ∀ c, ¬Poppable (s.queue q) s.now c) →
        Completes (.pop t) s fun u => Only [.seq, .pool] s u ∧ TasksBut t s u ∧ QueuesBut q s u
          ∧ u.task t = (s.task t).wrote s.now i.d 3 (hiWord (coachHeader 0 1 (0x180 + q) s.tick))
          ∧ u.seq.popMove = some (s.now + 4, a, [coachHeader 0 1 (0x180 + q) s.tick])
          ∧ u.queue q = { s.queue q with
              event := (s.queue q).event ||| (if bit (s.queue q).cfg 2 then 0 else oneBit 7) }))
    ∧ (∀ at_ a words, s.seq.popMove = some (at_, a, words) → at_ ≤ s.now → s.seqRom = false →
      Only [.seq] s s.popWrites ∧ s.popWrites.seq.popMove = none
      ∧ (Memory.wf 0 s.seq.dmem = true → ∀ n, n < words.length →
          readDword s.popWrites.seq.dmem (a + 8 * n) = words.getD n 0)
      ∧ ∀ b, (b < a ∨ a + 8 * words.length ≤ b) →
          tget 0 s.popWrites.seq.dmem b = tget 0 s.seq.dmem b)

/-- A task starts at an address with G1 and all other registers 0 (R336, R366). -/
def Sys2Proof.Machine.Task.started (k : Task) (s : State) (pc : Nat) (g1 : Word) : Task :=
  { k with
    state := .ready, pc := pc, g := if g1 = 0 then [] else [(1, g1)], readyAt := s.cycleAfter, wokeAt := none,
    stepped := false, stopDue := 0 }

/-- Task control (R366, R367, R370): TSTART starts a STOPPED or FAULTED task and returns 0, and returns 1 otherwise; TSTOP of
a running task returns 0, and returns 1 for one that does not run: it stops a WAITING task as its die tick ends, unless
the wait ends in that tick, a task between instructions at once, one with an instruction in progress when that ends,
and one whose wait has ended in this die tick after its next instruction; HALT, and TSTOP of itself, stop the issuing
task. -/
def TaskControl : Prop :=
  ∀ (t : Nat) (i : Ins) (s : State), IssuesNow t i s →
    (i.op = 0x3D → ((s.task t).reg i.a).toNat ≤ 16383 →
      (i.x % 4 ≠ t → ((s.task (i.x % 4)).state = .stopped ∨ (s.task (i.x % 4)).state = .faulted) →
        Completes (.tstart t) s fun u => Only [.seq] s u
          ∧ (∀ n, n ≠ t → n ≠ i.x % 4 → u.task n = s.task n)
          ∧ u.task t = (s.task t).wrote s.now i.d 2 0
          ∧ u.task (i.x % 4) = (s.task (i.x % 4)).started s ((s.task t).reg i.a).toNat ((s.task t).reg i.b))
      ∧ ((i.x % 4 = t ∨ ((s.task (i.x % 4)).state ≠ .stopped ∧ (s.task (i.x % 4)).state ≠ .faulted)) →
        Completes (.tstart t) s (TaskStep t ((s.task t).wrote s.now i.d 2 1) s)))
    ∧ (i.op = 0x3E → i.imm % 4 ≠ t →
      (((s.task (i.imm % 4)).state = .stopped ∨ (s.task (i.imm % 4)).state = .faulted) →
        Completes (.tstop t) s (TaskStep t ((s.task t).wrote s.now i.d 2 1) s))
      ∧ ((s.task (i.imm % 4)).state ≠ .stopped → (s.task (i.imm % 4)).state ≠ .faulted →
        Completes (.tstop t) s fun u => Only [.seq] s u
          ∧ (∀ n, n ≠ t → n ≠ i.imm % 4 → u.task n = s.task n)
          ∧ u.task t = (s.task t).wrote s.now i.d 2 0
          ∧ u.task (i.imm % 4) = { s.task (i.imm % 4) with
              state := (u.task (i.imm % 4)).state, stopDue := (u.task (i.imm % 4)).stopDue }
          ∧ ((s.task (i.imm % 4)).state ≠ .ready → (u.task (i.imm % 4)).stopDue = 3
              ∧ (u.task (i.imm % 4)).state = (s.task (i.imm % 4)).state)
          ∧ ((s.task (i.imm % 4)).state = .ready →
              ((s.task (i.imm % 4)).wokeAt = some s.now → (u.task (i.imm % 4)).stopDue = 2
                ∧ (u.task (i.imm % 4)).state = .ready)
              ∧ ((s.task (i.imm % 4)).wokeAt ≠ some s.now → s.now < (s.task (i.imm % 4)).readyAt →
                (u.task (i.imm % 4)).stopDue = max 1 (s.task (i.imm % 4)).stopDue
                ∧ (u.task (i.imm % 4)).state = .ready)
              ∧ ((s.task (i.imm % 4)).wokeAt ≠ some s.now → (s.task (i.imm % 4)).readyAt ≤ s.now →
                (u.task (i.imm % 4)).state = .stopped))))
    ∧ (∀ n, n < 4 → (s.stopsEnd).task n = if (s.task n).stopDue = 3 then
        { s.task n with state := .stopped, stopDue := 0 } else s.task n)
    ∧ (∀ c, (i.op = 0x37 ∧ c = .halt t ∨ i.op = 0x3E ∧ i.imm % 4 = t ∧ c = .tstop t) →
      Completes c s fun u => Only [.seq, .pool] s u ∧ Told s u ∧ TasksBut t s u
        ∧ u.task t = { s.task t with
            state := .stopped, stopDue := 0, pc := ((s.task t).pc + 1) % 16384, readyAt := s.now + 2 })

/-- Faults (R345, R368, R369): an undefined word is ILLEGAL, a target above 16,383 BAD_TARGET, an operand out of its range or an
odd register of a pair BAD_OPERAND, an address DMEM_RANGE or KTC_RANGE, a coach that may not be pushed BAD_TYPE; the
task is FAULTED and no memory or register of the block changes. -/
def InstructionFaults : Prop :=
  ∀ (t : Nat) (s : State),
    (Live s → t < 4 → s.issues t = true → decodeIns (s.fetch t) = none →
      Completes (.illegalInstruction t) s (TaskFaults t 1 s))
    ∧ ∀ i (a ea : Word) c cause, IssuesNow t i s → a = (s.task t).reg i.a →
      ea = a + BitVec.ofInt 32 (BitVec.ofNat 18 i.imm).toInt →
      ((i.op = 0x2F ∧ c = .jalr t ∧ 16383 < a.toNat ∧ cause = 6)
        ∨ (i.op = 0x3D ∧ c = .tstart t ∧ 16383 < a.toNat ∧ cause = 6)
        ∨ (i.op = 0x36 ∧ c = .rds t ∧ 4 < i.imm ∧ cause = 4)
        ∨ (i.op = 0x20 ∧ c = .ld t ∧ (32764 < ea.toNat ∨ ea.toNat % 4 ≠ 0) ∧ cause = 2)
        ∨ (i.op = 0x21 ∧ c = .st t ∧ (32764 < ea.toNat ∨ ea.toNat % 4 ≠ 0) ∧ cause = 2)
        ∨ (i.op = 0x22 ∧ c = .xchg t ∧ (32764 < a.toNat ∨ a.toNat % 4 ≠ 0) ∧ cause = 2)
        ∨ (i.op = 0x20 ∧ c = .ld t ∧ ea.toNat ≤ 32764 ∧ ea.toNat % 4 = 0 ∧ s.dmBad ea.toNat = true ∧ cause = 7)
        ∨ (i.op = 0x22 ∧ c = .xchg t ∧ a.toNat ≤ 32764 ∧ a.toNat % 4 = 0 ∧ s.dmBad a.toNat = true ∧ cause = 7)
        ∨ ((i.op = 0x23 ∧ c = .ldk t ∨ i.op = 0x24 ∧ c = .stk t)
          ∧ (ea.toNat % 4 ≠ 0 ∨ 0xFFFFC < ea.toNat ∨ 0x60000 ≤ ea.toNat ∧ ea.toNat < 0x78000) ∧ cause = 3)
        ∨ (i.op = 0x30 ∧ c = .rdt t ∧ i.d % 2 = 1 ∧ cause = 4)
        ∨ (i.op = 0x31 ∧ c = .waitt t ∧ i.a % 2 = 1 ∧ cause = 4)
        ∨ (i.op = 0x33 ∧ c = .waite t ∧ (i.a % 2 = 1 ∨ i.x / 2 % 2 = 1 ∧ i.b % 2 = 1
            ∨ (s.task t).pair i.a = 0 ∧ i.x / 2 % 2 = 0) ∧ cause = 4)
        ∨ (i.op = 0x34 ∧ c = .setev t ∧ 47 < ea.toNat ∧ cause = 4)
        ∨ (i.op = 0x35 ∧ c = .clrev t ∧ i.a % 2 = 1 ∧ cause = 4)
        ∨ ((i.op = 0x38 ∧ c = .bcast t ∨ i.op = 0x39 ∧ c = .armd t)
          ∧ (32740 < a.toNat ∨ a.toNat % 4 ≠ 0) ∧ cause = 2)
        ∨ (i.op = 0x38 ∧ c = .bcast t ∧ a.toNat ≤ 32740 ∧ a.toNat % 4 = 0 ∧ i.x % 4 ≠ 0 ∧ cause = 4)
        ∨ (i.op = 0x39 ∧ c = .armd t ∧ a.toNat ≤ 32740 ∧ a.toNat % 4 = 0 ∧ i.b % 2 = 1 ∧ cause = 4)
        ∨ (i.op = 0x3B ∧ c = .push t ∧ (a.toNat % 8 ≠ 0 ∨ 32760 < a.toNat) ∧ cause = 2)
        ∨ (i.op = 0x3B ∧ c = .push t ∧ a.toNat % 8 = 0 ∧ a.toNat ≤ 32760 ∧ s.seq.eccBad = []
          ∧ (fld (joinWords (s.dmRead a.toNat) (s.dmRead (a.toNat + 4))) 56 8 < 0xB3
            ∨ fld (joinWords (s.dmRead a.toNat) (s.dmRead (a.toNat + 4))) 52 4 = 0) ∧ cause = 5)
        ∨ (i.op = 0x3C ∧ c = .pop t ∧ (a.toNat % 8 ≠ 0 ∨ 32704 < a.toNat) ∧ cause = 2)
        ∨ (i.op = 0x3C ∧ c = .pop t ∧ a.toNat % 8 = 0 ∧ a.toNat ≤ 32704 ∧ 95 < i.x % 128 ∧ cause = 4)) →
      Completes c s (TaskFaults t cause s)

/-! ## Loader and host commands (chapter 13) -/

/-- The ROM program is in charge as T0; where some region is not OFF it starts no bring-up (R371, R373). -/
def RomInCharge (s u : State) : Prop :=
  Only [.seq, .regions, .pool] s u ∧ Told s u ∧ u.seq.mode = .rom ∧ (u.task 0).state = .ready
  ∧ (u.task 0).pc = Config.romModeEntry % 16384 ∧ (u.task 0).g = [] ∧ TasksBut 0 s u
  ∧ ((∃ e ∈ s.regions, e.2.racg.state ≠ .off) → u.regions = s.regions)

/-- The load fails (R377): its code, both memories zero, LOAD_FAIL, ROM mode. -/
def LoadFailed (code : Nat) (s u : State) : Prop :=
  RomInCharge s u ∧ u.seq.loadRes = code ∧ u.seq.imem = [] ∧ u.seq.dmem = [] ∧ bit u.seq.event 3 = true
  ∧ u.seq.verifyAt = none

/-- Loading is entered (R371, R376): both memories zero, T0 READY at the ROM's loader, the other tasks STOPPED. -/
def EntersLoading (s u : State) : Prop :=
  Only [.seq] s u ∧ u.seq.mode = .loading ∧ u.seq.imem = [] ∧ u.seq.dmem = [] ∧ u.seq.received = 0
  ∧ u.seq.loads = (s.seq.loads + 1) % 65536 ∧ u.seq.cold = false ∧ u.seq.jobs = [] ∧ u.seq.pushes = []
  ∧ (u.task 0).state = .ready ∧ (u.task 0).pc = Config.romEntry ∧ u.seq.begin_ = none
  ∧ (∀ n, 1 ≤ n → n < 4 → (u.task n).state = .stopped)
  ∧ u.seq.scratch = s.seq.scratch ∧ u.seq.posted = [] ∧ u.seq.popMove = none

/-- Something that an instruction has begun is still in progress (R376). -/
abbrev InProgress (s : State) : Prop :=
  s.seq.popMove.isSome = true ∨ s.seq.posted ≠ [] ∨ ∃ n, n < 4 ∧ ((s.task n).armd.isSome = true
    ∨ (s.task n).ldk.isSome = true ∨ (s.task n).state = .ready ∧ s.now < (s.task n).readyAt)

/-- Loads begin and are cut short (R371, R372, R375, R376, R378): LOAD_BEGIN stops every task and zeroes both memories and
enters LOADING, at once where no instruction is in progress, else once what is has ended, 64 tk after it at the
latest; LOAD_ABORT, and a gap of 2^24 tk, fail with code 7; no word for 2^30 tk enters ROM mode; outside LOADING
LOAD_ABORT is ignored, and in LOADING LOAD_BEGIN. -/
def LoadsBeginAndStop : Prop :=
  ∀ (p : Path) (s : State), Live s → s.mayWrite p 0x08000 = true →
    ((s.seq.mode = .rom ∨ s.seq.mode = .image) → s.seq.begin_ = none →
      (¬InProgress s → Completes (.loadBegin p) s (EntersLoading s))
      ∧ (InProgress s → Completes (.loadBegin p) s fun u => Only [.seq] s u ∧ u.seq.mode = s.seq.mode
        ∧ u.seq.begin_ = some s.now ∧ u.seq.imem = s.seq.imem ∧ u.seq.dmem = s.seq.dmem
        ∧ ∀ n, n < 4 → u.task n = if (s.task n).state = .stopped ∨ (s.task n).state = .faulted then s.task n
          else if (s.task n).state = .ready ∧ s.now < (s.task n).readyAt then { s.task n with stopDue := 1 }
          else { s.task n with state := .stopped, stopDue := 0 }))
    ∧ (∀ t0, s.seq.begin_ = some t0 →
      (¬InProgress s ∨ t0 + 64 ≤ s.now → EntersLoading s s.loadStep)
      ∧ (InProgress s → s.now < t0 + 64 → s.loadStep = s))
    ∧ (s.seq.mode = .loading →
      Completes (.loadBegin p) s (fun u => u = s) ∧ Completes (.loadAbort p) s (LoadFailed 7 s)
      ∧ (s.seq.received ≠ 0 → s.seq.verifyAt = none → s.seq.wordsAt + 2 ^ 24 ≤ s.now →
          Completes .loadGapTimeout s (LoadFailed 7 s))
      ∧ (s.seq.received = 0 → s.seq.verifyAt = none → s.seq.wordsAt + 2 ^ 30 ≤ s.now →
          Completes .loadTimeout s fun u => RomInCharge s u ∧ u.seq.loadRes = s.seq.loadRes
            ∧ u.seq.imem = s.seq.imem ∧ u.seq.dmem = s.seq.dmem))
    ∧ (s.seq.mode ≠ .loading → Completes (.loadAbort p) s (fun u => u = s)
        ∧ Completes (.loadEnd p) s (fun u => u = s))

/-- Image words (R374, R375, R378): each is counted; the 16th makes the header's checks, of which the first that fails ends
the load with its code; the later ones go to instruction and data memory in order; a word with 64 waiting is lost and
fails the load with 7; LOAD_END fails with 3 unless 40 + IWORDS + DWORDS words have come by the end of its die tick;
outside LOADING a word is ignored. -/
def ImageWords : Prop :=
  ∀ (p : Path) (v : Word) (s : State), Live s → s.mayWrite p 0x08030 = true → s.mayWrite p 0x08000 = true →
    (s.seq.mode ≠ .loading → Completes (.imgData p v) s (fun u => u = s))
    ∧ (s.seq.mode = .loading → s.seq.verifyAt = none →
      (64 ≤ s.seq.port → Completes (.imgData p v) s (LoadFailed 7 s))
      ∧ (s.seq.port < 64 → s.seq.received < 15 → Completes (.imgData p v) s fun u => u = { s with
          seq := { s.seq with
            words := v :: s.seq.words, received := s.seq.received + 1, wordsAt := s.now,
            port := s.seq.port + 1 } })
      ∧ (s.seq.port < 64 → s.seq.received = 15 → ∀ q, q = { s.seq with
            words := v :: s.seq.words, received := 16, wordsAt := s.now, port := s.seq.port + 1 } →
          (q.hdr 0 ≠ 0x4C595331 → Completes (.imgData p v) s (LoadFailed 2 s))
          ∧ ((∀ n, n < 4 → q.entryOf n = 0xFFFF) → Completes (.imgData p v) s (LoadFailed 2 s))
          ∧ (({ s with seq := q } : State).headerFails = 0 →
              Completes (.imgData p v) s fun u => u = { s with seq := q }))
      ∧ (s.seq.port < 64 → 16 ≤ s.seq.received → s.seq.received - 16 < s.seq.iwords →
          Completes (.imgData p v) s fun u => Only [.seq] s u ∧ u.seq.received = s.seq.received + 1
            ∧ u.seq.dmem = s.seq.dmem
            ∧ (Memory.wf 0 s.seq.imem = true → tget 0 u.seq.imem (s.seq.received - 16) = v)
            ∧ ∀ b, b ≠ s.seq.received - 16 → tget 0 u.seq.imem b = tget 0 s.seq.imem b)
      ∧ ((s.seq.received < 16 ∨ s.seq.received ≠ 40 + s.seq.iwords + s.seq.dwords) →
          Completes (.loadEnd p) s (fun u => Only [] s u ∧ u.log.ending = true)
          ∧ (s.log.ending = true → LoadFailed 3 s s.loadEnds))
      ∧ (16 ≤ s.seq.received → s.seq.received = 40 + s.seq.iwords + s.seq.dwords →
          Completes (.loadEnd p) s fun u => u = { s with seq := { s.seq with verifyAt := some s.now } }))

/-- A verified image runs (R375, R377): MODE image, LOAD_RESULT 1, LOAD_DONE, each task with an entry READY there with G1 0
after a cold reset and 1 after an update and the rest 0, the others STOPPED; a TASK_ENTRY that software has written in
the die tick keeps that value (R17); a signature that does not verify fails the load with 4. -/
def LoadVerified : Prop :=
  ∀ (t0 : Nat) (s : State), Live s → s.seq.mode = .loading → s.seq.verifyAt = some t0 → t0 < s.now →
    s.now ≤ t0 + 2100000 →
    (s.imageSigned = true → Completes .loadVerifyDone s fun u => Only [.seq, .pool] s u ∧ Told s u
      ∧ u.seq.mode = .image ∧ u.seq.loadRes = 1 ∧ bit u.seq.event 2 = true
      ∧ u.seq.imgVer = s.seq.hdr 6 ∧ u.seq.secVer = s.seq.hdr 2
      ∧ u.seq.imem = s.seq.imem ∧ u.seq.dmem = s.seq.dmem
      ∧ ∀ n, n < 4 → (u.task n).entry
          = (if s.wroteNow (0x08020 + 4 * n) then (s.task n).entry else s.seq.entryOf n % 16384)
        ∧ (s.seq.entryOf n = 0xFFFF → (u.task n).state = .stopped)
        ∧ (s.seq.entryOf n ≠ 0xFFFF → (u.task n).state = .ready ∧ (u.task n).pc = s.seq.entryOf n % 16384
            ∧ (u.task n).reg 1 = (if s.seq.cold then 0 else 1)
            ∧ ∀ m, 2 ≤ m → (u.task n).reg m = 0))
    ∧ (s.imageSigned = false → Completes .loadVerifyDone s (LoadFailed 4 s))

/-- RESTART and STOP (R367, R380, R387): with an image, RESTART starts a STOPPED or FAULTED task at TASK_ENTRY with G1 2,
one that faults in the die tick of the RESTART too; STOP stops a WAITING task as its die tick ends. -/
def RestartAndStop : Prop :=
  ∀ (p : Path) (n : Nat) (s : State), Live s → s.mayWrite p 0x08000 = true → n < 4 → s.seq.mode = .image →
    s.seq.begin_ = none →
    (((s.task n).state = .stopped ∨ (s.task n).state = .faulted) →
      Completes (.seqRestart p (2 ^ n)) s fun u => Only [.seq] s u ∧ TasksBut n s u
        ∧ (u.task n).state = .ready ∧ (u.task n).pc = (s.task n).entry % 16384
        ∧ tget 0 (u.task n).g 1 = 2 ∧ ∀ m, m ≠ 1 → tget 0 (u.task n).g m = tget 0 (s.task n).g m)
    ∧ ((s.task n).state = .ready → Completes (.seqRestart p (2 ^ n)) s fun u =>
        Only [] s u ∧ u.log.restart = s.log.restart ||| 2 ^ n)
    ∧ (s.log.restart = 2 ^ n → (s.task n).state = .faulted →
      ((s.restartsAgain).task n).state = .ready ∧ ((s.restartsAgain).task n).pc = (s.task n).entry % 16384)
    ∧ (∀ w, (s.task n).state = .waiting w → Completes (.seqStop p (2 ^ n)) s fun u =>
        Only [.seq] s u ∧ TasksBut n s u ∧ u.task n = { s.task n with stopDue := 3 })

/-- SUBMIT (R320, R381 to R383, R387): ignored and counted while BUSY or with a LENGTH outside 2 to 8, but taken after all
where BUSY falls in its die tick; otherwise the port's coach is
formed from CMD_BUF with bits 49, 50 and 63 to 56 of carriage 1 as the port writes them: 0, 0 and 0xFF, or for a
logical command the judgement of the map. -/
def SubmitFormsTheCommand : Prop :=
  ∀ (p : Path) (len : Nat) (s : State), Live s → s.mayWrite p 0x00140 = true → len < 16 →
    ((s.cmd.busy.isSome = true ∨ len < 2 ∨ 8 < len) →
      Completes (.submit p len) s fun u => Only [.cmd] s u
        ∧ u.cmd = { s.cmd with len := len, refused := min 0xFFFF (s.cmd.refused + 1) }
        ∧ (2 ≤ len → len ≤ 8 → s.log.submit = none → u.log.submit = some len))
    ∧ (∀ l, s.log.submit = some l → 2 ≤ l → l ≤ 8 → s.cmd.busy = none →
      (s.submitAgain).cmd.busy.isSome = true ∧ (s.submitAgain).cmd.refused = s.cmd.refused - 1)
    ∧ (s.cmd.busy = none → 2 ≤ len → len ≤ 8 → ∀ c, c = s.cmd.carriage 1 →
      Completes (.submit p len) s fun u => Only [.cmd, .hz, .pool] s u ∧ Told s u
        ∧ ∃ c1, u.cmd = { s.cmd with
            len := len, last := coachHeader 0xC0 len 0x160 s.tick,
            busy := some (coachHeader 0xC0 len 0x160 s.tick :: c1
              :: (List.range (len - 2)).map (fun i => s.cmd.carriage (i + 2))) }
          ∧ c1 &&& 0x00F9FFFFFFFFFFFF = c &&& 0x00F9FFFFFFFFFFFF
          ∧ (bit c 48 = false → u.hz = s.hz ∧ u.pool = s.pool ∧ fld c1 49 2 = 0 ∧ fld c1 56 8 = 0xFF)
          ∧ (∀ k, bit c 48 = true → fld c 40 8 ≤ 143 →
              genAge s (fld c 24 16) ≤ genAge s (s.lmapAt (fld c 40 8)).gen →
              (s.lmapAt (fld c 40 8)).slot = some k → k < 10 →
              u.hz = s.hz ∧ fld c1 49 2 = 0 ∧ fld c1 56 8 = 10 * (fld c 40 8 / 9) + k)
          ∧ (bit c 48 = true → fld c 40 8 ≤ 143 →
              genAge s (s.lmapAt (fld c 40 8)).gen < genAge s (fld c 24 16) →
              bit u.hz.event 5 = true ∧ fld c1 49 2 = 1 ∧ fld c1 56 8 = 0xFF))

/-- The row of a host command's CODE (R386). -/
def RowOf (code t : Nat) (sup tb : Bool) (c : Instr) : Prop :=
  (code = 0x01 ∧ c = .cmdStatus t sup) ∨ (code = 0x10 ∧ c = .cmdGearChange t sup)
  ∨ (code = 0x11 ∧ c = .cmdGearAbort t sup) ∨ (code = 0x20 ∧ c = .cmdRacg t sup)
  ∨ (code = 0x21 ∧ c = .cmdCoupler t sup) ∨ (code = 0x30 ∧ c = .cmdFence t sup)
  ∨ (code = 0x31 ∧ c = .cmdAdopt t sup) ∨ (code = 0x32 ∧ c = .cmdUnfence t sup)
  ∨ (code = 0x40 ∧ c = .cmdMeasArm t sup tb) ∨ (code = 0x41 ∧ c = .cmdMeasDisarm t sup)
  ∨ (code = 0x50 ∧ c = .cmdGtJoin t sup) ∨ (code = 0x51 ∧ c = .cmdGtLeave t sup)
  ∨ (code = 0x60 ∧ c = .cmdSnapStamp t sup) ∨ (code = 0x61 ∧ c = .cmdSnapAck t sup)
  ∨ (code = 0x62 ∧ c = .cmdPartners t sup)

/-- Task `t` of a running image has `w` at the head of queue 0: a host command it has yet to take. -/
abbrev HostCommand (t : Nat) (w : List DWord) (s : State) : Prop :=
  Live s ∧ t < 4 ∧ s.seq.mode = .image ∧ (s.task t).state ≠ .stopped ∧ (s.task t).state ≠ .faulted
  ∧ s.seq.pushes = [] ∧ (∃ c, Poppable (s.queue 0) s.now c ∧ s.coachWords c = w) ∧ fld (w.headD 0) 56 8 = 0xC0

/-- The completion of `w` follows `v` (R383, R384): a coach for queue 1 with the command's CODE and TAG. -/
def HostDone (t : Nat) (w : List DWord) (status detail : Nat) (rest : List DWord) (v u : State) : Prop :=
  u = { v with log := u.log, seq := { v.seq with pushes := v.seq.pushes ++ [{
    task := t, queue := 1, at_ := v.now, words := coachHeader 0xC1 (rest.length + 2) (0x158 + t) v.tick
      :: packD [(0, 8, fld (w.getD 1 0) 0 8), (8, 16, fld (w.getD 1 0) 8 16), (24, 8, status), (32, 1, 0),
        (40, 24, detail)] :: rest }] } }

/-- Host commands answered without side effect (R384, R385): STALE_GEN where the port set STALE or UNMAPPED, UNSUPPORTED where
the image does not implement the CODE, MALFORMED for a CODE outside the table, a wrong length or an illegal field. -/
def HostCommandsTurnedAway : Prop :=
  ∀ (t : Nat) (w : List DWord) (s : State), HostCommand t w s →
    (∀ sup tb c, RowOf (fld (w.getD 1 0) 0 8) t sup tb c →
      (fld (w.getD 1 0) 49 2 ≠ 0 →
        Completes c s (HostDone t w 3 0 [] (s.pop 0 true).1))
      ∧ (fld (w.getD 1 0) 49 2 = 0 → sup = false →
        Completes c s (HostDone t w 6 0 [] (s.pop 0 true).1)))
    ∧ (fld (w.getD 1 0) 49 2 = 0 → (∀ sup tb c, ¬RowOf (fld (w.getD 1 0) 0 8) t sup tb c) →
      Completes (.cmdMalformed t) s (HostDone t w 1 0 [] (s.pop 0 true).1))
    ∧ (fld (w.getD 1 0) 49 2 = 0 → (fld (w.getD 1 0) 0 8 = 0x01 ∨ fld (w.getD 1 0) 0 8 = 0x50
        ∨ fld (w.getD 1 0) 0 8 = 0x51 ∨ fld (w.getD 1 0) 0 8 = 0x61) →
      (w.length ≠ 2 ∨ fld (w.getD 1 0) 51 5 ≠ 0) →
      Completes (.cmdMalformed t) s (HostDone t w 1 0 [] (s.pop 0 true).1))
    ∧ (fld (w.getD 1 0) 49 2 = 0 → fld (w.getD 1 0) 0 8 = 0x20 → bit (w.getD 1 0) 48 = false →
      207 < fld (w.getD 2 0) 0 8 →
      Completes (.cmdMalformed t) s (HostDone t w 1 0 [] (s.pop 0 true).1))

/-- The command is in the form of its CODE, its generation is not stale (R384, R386). -/
abbrev HostCommandOk (t code : Nat) (w : List DWord) (s : State) : Prop :=
  HostCommand t w s ∧ fld (w.getD 1 0) 0 8 = code ∧ fld (w.getD 1 0) 49 2 = 0 ∧ cmdMalformed w = false

/-- Host commands carried out (R386): the task takes the command from queue 0 and has the effect of the mechanism's own
command, and its completion says OK, or STATE_CONFLICT where the mechanism refused, with the DETAIL of its CODE. -/
def HostCommandsCarriedOut : Prop :=
  ∀ (t : Nat) (w : List DWord) (s s0 : State), s0 = (s.pop 0 true).1 →
    (HostCommandOk t 0x01 w s → Completes (.cmdStatus t true) s
      (HostDone t w 0 0 [joinWords s0.seqStatus s0.seq.imgVer] s0))
    ∧ (HostCommandOk t 0x11 w s → Completes (.cmdGearAbort t true) s fun u => ∃ v late,
      exec (.slotAbort .seq (fld (w.getD 2 0) 0 2)) s0 = .next v ∧ HostDone t w late 0 [] v u
      ∧ late = (if ((s0.slot (fld (w.getD 2 0) 0 2)).state = .arming
            ∨ (s0.slot (fld (w.getD 2 0) 0 2)).state = .armed)
          ∧ s0.tick.toNat + 64 < (s0.slot (fld (w.getD 2 0) 0 2)).door.toNat then 0 else 2))
    ∧ (∀ r code gear, HostCommandOk t 0x20 w s → r = cmdRegion w → code = fld (w.getD 2 0) 8 4 →
      gear = fld (w.getD 2 0) 12 4 →
      Completes (.cmdRacg t true) s fun u => HostDone t w (if s0.racgRefuses r code gear then 2 else 0)
        (fld ((s0.racgCommand r code gear).regionRead r 0) 0 24) [] (s0.racgCommand r code gear) u)
    ∧ (∀ i code side, HostCommandOk t 0x21 w s → i = fld (w.getD 2 0) 0 10 → code = fld (w.getD 2 0) 10 4 →
      side = bit (w.getD 2 0) 14 →
      Completes (.cmdCoupler t true) s fun u => HostDone t w (if s0.cplRefuses i code side then 2 else 0)
        (fld ((s0.cplCommand i code side).cplStateWord i) 0 24) [] (s0.cplCommand i code side) u)
    ∧ (∀ r, HostCommandOk t 0x32 w s → r = cmdRegion w → Completes (.cmdUnfence t true) s fun u => ∃ v,
      exec (.unfence .seq r) s0 = .next v
      ∧ ((s0.hz.fence = .idle ∧ r ≤ 159 ∧ (s0.hzr r).fenced = true) → HostDone t w 0 0 [] v u)
      ∧ (¬(s0.hz.fence = .idle ∧ r ≤ 159 ∧ (s0.hzr r).fenced = true) →
          HostDone t w 2 v.hz.reason [] v u))
    ∧ (∀ tb ch, HostCommandOk t 0x40 w s → ch = fld (w.getD 2 0) 0 6 →
      Completes (.cmdMeasArm t true tb) s fun u => ∃ v1 v2 v3 v,
        exec (.measCfgWrite .seq ch 0 (hiWord (w.getD 2 0))) s0 = .next v1
        ∧ exec (.measCfgWrite .seq ch 1 (loWord (w.getD 3 0))) v1 = .next v2
        ∧ exec (.measCfgWrite .seq ch 2 (hiWord (w.getD 3 0))) v2 = .next v3
        ∧ exec (.measArm .seq ch tb) v3 = .next v
        ∧ HostDone t w (if v3.armRefused ch then 2 else 0) 0 [] v u)
    ∧ (HostCommandOk t 0x41 w s → Completes (.cmdMeasDisarm t true) s fun u => ∃ v,
        exec (.measDisarm .seq (fld (w.getD 2 0) 0 6)) s0 = .next v
        ∧ HostDone t w (if (s0.chan (fld (w.getD 2 0) 0 6)).state = .idle then 2 else 0) 0 [] v u)
    ∧ (HostCommandOk t 0x50 w s → Completes (.cmdGtJoin t true) s fun u => ∃ v,
        exec (.join .seq) s0 = .next v ∧ HostDone t w (if s0.joinOk then 0 else 2) 0 [] v u)
    ∧ (HostCommandOk t 0x51 w s → Completes (.cmdGtLeave t true) s fun u => ∃ v,
        exec (.leave .seq) s0 = .next v
        ∧ HostDone t w (if s0.gt.state = .standalone then 2 else 0) 0 [] v u)
    ∧ (HostCommandOk t 0x61 w s → Completes (.cmdSnapAck t true) s fun u => ∃ v,
        exec (.snapAck .seq) s0 = .next v ∧ HostDone t w 0 0 [] v u)
    ∧ (HostCommandOk t 0x62 w s → Completes (.cmdPartners t true) s fun u => ∃ v1 v2 v3 v4,
        exec (.partnerWrite .seq 0 (loWord (w.getD 2 0))) s0 = .next v1
        ∧ exec (.partnerWrite .seq 1 (loWord (w.getD 3 0))) v1 = .next v2
        ∧ exec (.partnerWrite .seq 2 (loWord (w.getD 4 0))) v2 = .next v3
        ∧ exec (.partnerWrite .seq 3 (loWord (w.getD 5 0))) v3 = .next v4 ∧ HostDone t w 0 0 [] v4 u)

/-- The task keeps the command as a job until its mechanism comes to rest. -/
def HostKeeps (t : Nat) (w : List DWord) (kind : JobKind) (v u : State) : Prop :=
  u = { v with log := u.log, seq := { v.seq with jobs := v.seq.jobs ++
    [{ task := t, code := fld (w.getD 1 0) 0 8, tag := fld (w.getD 1 0) 8 16, kind := kind }] } }

/-- Host commands that take time (R198, R385, R386): a gear change goes to a free door slot whose GO is accepted, and completes
when the slot is at rest, with its ACK and EXCEPT sets in two coaches; a FENCE or ADOPT that the fence unit accepts is
kept until the unit's command has ended, and completes with OK, or FAILED with its REASON, and one it refuses is
answered STATE_CONFLICT with its REASON; a stamp is answered after
its coach is pushed. -/
def HostCommandsThatTakeTime : Prop :=
  ∀ (t : Nat) (w : List DWord) (s s0 : State), s0 = (s.pop 0 true).1 →
    (∀ k, HostCommandOk t 0x10 w s → s0.freeSlot = some k → s0.gearValid (fld (w.getD 7 0) 0 4) = true →
      s0.leadOk (s0.cmdDoor w) = true →
      (∀ r, r < 208 → (cmdSet w).getLsbD r = true → s0.gearConflict (fld (w.getD 7 0) 0 4) r = false) →
      ∀ s1, s1 = s0.updSlot k (fun d => { d with
        set := cmdSet w, door := s0.cmdDoor w, target := fld (w.getD 7 0) 0 4,
        resync := bit (w.getD 7 0) 4 }) →
      s1.goOutcome k = 0 →
      Completes (.cmdGearChange t true) s fun u => HostKeeps t w (.gear k) (s1.slotGoNow k) u
        ∧ (u.slot k).state = .arming ∧ (u.slot k).set = cmdSet w)
    ∧ (HostCommandOk t 0x10 w s → s0.freeSlot = none →
      Completes (.cmdGearChange t true) s (HostDone t w 2 0 [] s0))
    ∧ (∀ r, HostCommandOk t 0x10 w s → r < 208 → (cmdSet w).getLsbD r = true →
      ((s0.region r).racg.state = .off ∨ (s0.region r).racg.refLost = true ∨ (s0.hzr r).fenced = true
        ∨ (s0.region r).racg.armed = true) →
      Completes (.cmdGearChange t true) s (HostDone t w 2 0 [] s0))
    ∧ (∀ r a, HostCommandOk t 0x30 w s → r = cmdRegion w → r < 256 → a = bit (w.getD 2 0) 8 →
      Completes (.cmdFence t true) s fun u => ∃ v, exec (.fence .seq r a) s0 = .next v
        ∧ ((s0.hz.fence ≠ .idle ∨ v.hz.fence = .idle) → HostDone t w 2 v.hz.reason [] v u)
        ∧ (s0.hz.fence = .idle → v.hz.fence ≠ .idle → HostKeeps t w .fence v u))
    ∧ (∀ l, HostCommandOk t 0x31 w s → l = fld (w.getD 2 0) 0 8 →
      Completes (.cmdAdopt t true) s fun u => ∃ v, exec (.adopt .seq l) s0 = .next v
        ∧ ((s0.hz.fence ≠ .idle ∨ v.hz.fence = .idle) → HostDone t w 2 v.hz.reason [] v u)
        ∧ (s0.hz.fence = .idle → v.hz.fence ≠ .idle → HostKeeps t w .adopt v u))
    ∧ (∀ q, HostCommandOk t 0x60 w s → q = fld (w.getD 2 0) 56 7 →
      Completes (.cmdSnapStamp t true) s fun u => ∃ v,
        exec (.stamp .seq (bit (w.getD 2 0) 48) (fld (w.getD 2 0) 32 16))
          { s0 with hz := { s0.hz with stampId := loWord (w.getD 2 0) } } = .next v
        ∧ ((q = 0 ∨ 95 < q ∨ bit (s0.queue q).cfg 0 = false) → HostDone t w 5 0 [] v u)
        ∧ (1 ≤ q → q ≤ 95 → bit (s0.queue q).cfg 0 = true → HostDone t w 0 0 []
            { v with seq := { v.seq with pushes := v.seq.pushes ++ [{
              task := t, queue := q, at_ := v.now, words := coachOf 0xB3 (0x158 + t) v.tick v.hz.stampBody }] } } u))
    ∧ (∀ j k, j.kind = .gear k → ¬SlotBusy (s.slot k) → Only [.seq] s (s.jobStep j)
      ∧ ∃ c1 c2, (s.jobStep j).seq.pushes = s.seq.pushes ++
          [{ task := j.task, queue := 1, words := c1, at_ := s.now },
            { task := j.task, queue := 1, words := c2, at_ := s.now }]
        ∧ c1.length = 6 ∧ c2.length = 6 ∧ bit (c1.getD 1 0) 32 = true ∧ bit (c2.getD 1 0) 32 = false
        ∧ fld (c2.getD 1 0) 24 8 = (if (s.slot k).state = .cancelled then 4 else 0)
        ∧ c1.drop 2 = setCarriages (s.slot k).ack ∧ c2.drop 2 = setCarriages (s.slot k).exc)
    ∧ (∀ j why, (j.kind = .fence ∨ j.kind = .adopt) → j.result = some why → why < 16 → Only [.seq] s (s.jobStep j)
      ∧ ∃ c, (s.jobStep j).seq.pushes = s.seq.pushes ++
          [{ task := j.task, queue := 1, words := c, at_ := s.now }]
        ∧ fld (c.getD 1 0) 24 8 = (if why = 0 then 0 else 5)
        ∧ fld (c.getD 1 0) 40 24 = why + (if j.kind = .fence then 16 else 0))

/-! ## The metrology island and the mailbox (chapter 14) -/

/-- Nothing outside the island changes. -/
def IslandFrame (s t : State) : Prop := t = { s with island := t.island }

/-- The newest coach of the log is a notice of a kind, the only coach formed (R403). -/
def OneNotice (kind : Nat) (x y : Island) : Prop :=
  y.coachSeq = x.coachSeq + 1
  ∧ ∃ c, y.log.getLast? = some c ∧ c.seq = y.coachSeq ∧ fld (c.words.getD 1 0) 32 8 = kind
    ∧ fld (c.words.getD 1 0) 0 30 = c.seq % 2 ^ 30

/-- An interval of `cycles` MREF cycles is recorded (R398, R400, R402): energy in whole mJ with the rest carried on, the
next RECORD_SEQ, three coaches in the log, and, where the mailbox has power, three that wait for the handover in
order. -/
def Recorded (i : Interval) (cycles : Nat) (x y : Island) : Prop :=
  (∀ d, d = (1000000000 + x.params.mrefCorr).toNat * 8000000000000 →
    y.energyCum = (x.energyCum + (i.sum * 1000000000 + x.remainder) / d) % 2 ^ 64
    ∧ y.remainder = (i.sum * 1000000000 + x.remainder) % d)
  ∧ y.recordSeq = (x.recordSeq + 1) % 2 ^ 32 ∧ y.first = false ∧ x.coachSeq + 3 ≤ y.coachSeq
  ∧ (x.live = true → ∃ a b c, y.outbox = x.outbox ++ [a, b, c]
      ∧ a.seq = x.coachSeq + 1 ∧ b.seq = x.coachSeq + 2 ∧ c.seq = x.coachSeq + 3
      ∧ fld (a.words.getD 1 0) 32 32 = y.recordSeq ∧ a.words.getD 5 0 = BitVec.ofNat 64 y.energyCum
      ∧ fld (a.words.getD 4 0) 32 32 = elapsedUs x.params cycles % 2 ^ 32
      ∧ fld (a.words.getD 7 0) 0 32 = x.params.crc % 2 ^ 32 ∧ fld (a.words.getD 2 0) 0 32 = x.audit % 2 ^ 32)

/-- The first coach that the record adds to those that wait carries a flag (R400). -/
def FlagTold (n : Nat) (x y : Island) : Prop :=
  x.live = true → ∃ a, y.outbox[x.outbox.length]? = some a ∧ (fld (a.words.getD 2 0) 32 10).testBit n = true

/-- The island's interval may open (R396, R410). -/
def MayMeasure (x : Island) : Bool :=
  (x.lcSeen == 1 || x.lcSeen == 2 || x.lcSeen == 3) && x.mrefOk && x.adcOk

/-- Start and loss of the supplies, and the crystal (R388, R390, R393, R396, R399, R403, R409): a start reads the life-cycle
state, tells START with the key or NO_KEY, keeps the counters, and measures where MREF, the ADC and the state allow;
a loss with VBAT keeps the open interval, its cycles free short of the next sample, one without loses it and the
calendar; the crystal's judgement, present again after 1 s, is told and marks the open interval. -/
def IslandSupplies : Prop :=
  ∀ (s : State),
    (s.island.up = false → ∀ xtal mref adc, Completes (.islandStart xtal mref adc) s fun t => IslandFrame s t
      ∧ t.island.up = true ∧ t.island.xtalOk = xtal ∧ t.island.mrefOk = mref ∧ t.island.adcOk = adc
      ∧ t.island.lcSeen = s.lc.state.code ∧ t.island.discip = false
      ∧ t.island.calValid = (s.island.calValid && s.island.vbat && s.island.xtalOk)
      ∧ t.island.interval.isSome = MayMeasure t.island ∧ t.island.kept = none
      ∧ t.island.params = s.island.params ∧ t.island.audit = s.island.audit
      ∧ (s.island.kept = none → t.island.energyCum = s.island.energyCum
          ∧ t.island.recordSeq = s.island.recordSeq ∧ t.island.remainder = s.island.remainder
          ∧ (s.lc.state ≠ .blank → s.lc.state ≠ .ended → s.island.lcSeen = s.lc.state.code →
              s.island.hasKey = true →
              t.island.coachSeq = s.island.coachSeq + 3 + (if mref = true ∧ adc = true then 0 else 1)))
      ∧ (∀ i, s.island.kept = some i → s.lc.state ≠ .blank → s.lc.state ≠ .ended →
          t.island.recordSeq = (s.island.recordSeq + 1) % 2 ^ 32
          ∧ ∀ d, d = (1000000000 + s.island.params.mrefCorr).toNat * 8000000000000 →
            t.island.energyCum
              = (s.island.energyCum + (i.sum * 1000000000 + s.island.remainder) / d) % 2 ^ 64))
    ∧ (s.island.up = true → ∀ vbat, Completes (.standbyLoss vbat) s fun t => IslandFrame s t
      ∧ t.island.up = false ∧ t.island.interval = none ∧ t.island.discip = false
      ∧ t.island.kept = (if vbat = true then s.island.interval.map (fun i => { i with
          cycles := i.cycles + Config.mrefPhase s.island.time % 1250 }) else none)
      ∧ t.island.lost = (!vbat && s.island.interval.isSome) ∧ t.island.calValid = (s.island.calValid && vbat)
      ∧ t.island.log = s.island.log ∧ t.island.params = s.island.params ∧ t.island.audit = s.island.audit
      ∧ t.island.hasKey = s.island.hasKey ∧ t.island.keyGen = s.island.keyGen
      ∧ t.island.recordSeq = s.island.recordSeq ∧ t.island.coachSeq = s.island.coachSeq
      ∧ t.island.energyCum = s.island.energyCum)
    ∧ (∀ ok, s.island.xtalOk ≠ ok → (ok = true → s.island.xtalAt + 525000000 ≤ s.island.time) →
      Completes (.xtalOkChange ok) s fun t => IslandFrame s t
      ∧ t.island.xtalOk = ok
      ∧ (s.island.up = true → OneNotice 4 s.island t.island ∧ t.island.calValid = s.island.calValid)
      ∧ (s.island.up = false → t.island.calValid = (s.island.calValid && ok)
          ∧ t.island.coachSeq = s.island.coachSeq)
      ∧ ∀ i, s.island.interval = some i →
          t.island.interval = some (if ok = true then i else { i with flags := i.flags ||| 256 }))

/-- The calendar goes on by the island's time, a second to 525,000,000 of its units, at a free rate that is off by at most
100 ppm while disciplined and 2% otherwise, and never back (R391, R393; the bounds are the model's choice, log
entry 45); without the standby supply and the crystal it stands. -/
def CalendarGoesOn : Prop :=
  ∀ (x : Island) (n : Nat), x.calAt ≤ x.time → n = (x.time - x.calAt) * 2 ^ 32 →
    x.calSec * 2 ^ 32 + x.calFrac + n < 2 ^ 96 → x.calFrac < 2 ^ 32 →
    x.calTo = { x with calSec := x.calTo.calSec, calFrac := x.calTo.calFrac, calAt := x.time }
    ∧ x.calUnits ≤ x.calTo.calUnits
    ∧ ((x.up = false ∧ (x.vbat = false ∨ x.xtalOk = false)) → x.calTo.calUnits = x.calUnits)
    ∧ ∀ b, b = (if x.discip = true then 100 else 20000) →
      (x.calTo.calUnits - x.calUnits) * 525000000000000 ≤ n * (1000000 + b)
      ∧ ((x.up = true ∨ (x.vbat = true ∧ x.xtalOk = true)) →
          n * (1000000 - b) < (x.calTo.calUnits - x.calUnits + 1) * 525000000000000)

/-- The calendar (R390 to R393): an edge within 100 us of 1 s after the last valid one, 20 ms with neither crystal nor MREF,
disciplines it; another, and a missing one, end the discipline; the edge that the second of two valid messages names
sets an invalid calendar; a valid calendar never steps, and a message that differs is only told. `x` is the island
with its calendar gone on to the present. -/
def IslandCalendar : Prop :=
  ∀ (s : State) (x : Island), x = s.island.calTo → s.island.up = true →
    (∀ d, s.island.edgeAt = none → Completes (.islandSyncEdge d) s fun t =>
      t = { s with island := { x with edgeAt := some s.island.time, edgeRun := 0 } })
    ∧ (∀ d w, s.island.edgeAt.isSome = true →
      w = (if s.island.xtalOk = true ∨ s.island.mrefOk = true then 100 else 20000) →
      (1000000 ≤ d + w → d ≤ 1000000 + w → Completes (.islandSyncEdge d) s fun t => IslandFrame s t
        ∧ t.island.discip = true ∧ t.island.edgeAt = some s.island.time ∧ t.island.todNext = none
        ∧ t.island.interval = s.island.interval
        ∧ (s.island.calValid = true → t.island.calValid = true
            ∧ ((s.island.xtalOk = true ∨ s.island.mrefOk = true) →
                t.island.calSec = x.calSec ∧ t.island.calFrac = x.calFrac))
        ∧ (s.island.calValid = true → s.island.discip = true → w = 100 → ∀ sec, s.island.todNext = some sec →
            sec ≠ x.nearestSec → OneNotice 7 s.island t.island)
        ∧ (s.island.calValid = false → ∀ sec, s.island.todNext = some sec → 2 ≤ s.island.tod.run →
            t.island.calValid = true ∧ t.island.calSec = sec ∧ t.island.calFrac = 0)
        ∧ (s.island.calValid = false → s.island.todNext = none → t.island.calValid = false))
      ∧ (d + w < 1000000 ∨ 1000000 + w < d → Completes (.islandSyncEdge d) s fun t => IslandFrame s t
        ∧ t.island.discip = false ∧ t.island.edgeRun = 0 ∧ t.island.calValid = s.island.calValid
        ∧ t.island.calSec = x.calSec ∧ t.island.calFrac = x.calFrac
        ∧ (s.island.discip = true → OneNotice 7 s.island t.island)))
    ∧ (∀ e, s.island.edgeAt = some e →
      e + 525 * (1000000 + (if s.island.xtalOk = true ∨ s.island.mrefOk = true then 100 else 20000))
        < s.island.time →
      Completes .islandSyncEdgeMissing s fun t => IslandFrame s t ∧ t.island.discip = false
        ∧ t.island.edgeAt = none ∧ t.island.calValid = s.island.calValid ∧ t.island.calSec = x.calSec)
    ∧ (∀ (a b c d e f fl sq crc : Byte), crc8 [0x47, 0x54, a, b, c, d, e, f, fl, sq] = crc.toNat →
      Completes (.islandTodMessage [0x47, 0x54, a, b, c, d, e, f, fl, sq, crc, 0x0A]) s fun t => IslandFrame s t
        ∧ t.island.calSec = x.calSec ∧ t.island.calValid = s.island.calValid
        ∧ t.island.tod.seq = some sq.toNat ∧ t.island.tod.seconds = beNat [a, b, c, d, e, f]
        ∧ t.island.todNext = (if s.island.todInTime = true
              ∧ s.island.tod.seq = some ((sq.toNat + 255) % 256)
              ∧ s.island.tod.seconds + 1 = beNat [a, b, c, d, e, f]
            then some (beNat [a, b, c, d, e, f]) else none))

/-- Samples (R394 to R396): a good frame adds p to the interval's sum exactly, and marks an over-range; one that fails its
CRC, its FRAME_MARK or its zero bits, or does not come, takes the last good p and is counted in MISSED. -/
def IslandSamples : Prop :=
  ∀ (s : State) (x : Island), x = s.island.calTo → s.island.up = true → s.island.mrefOk = true →
    (∀ (f : DWord), crc8 ((dwordBytes f).reverse.take 7) = fld f 0 8 → bit f 15 = true → fld f 10 5 = 0 →
      ∀ p, p = ((sfld f 40 24 * (s.island.params.vGain : Int) / 65536 + s.island.params.vOfs)
          * (sfld f 16 24 * (s.island.params.iGain : Int) / 65536 + s.island.params.iOfs)).toNat →
      Completes (.adcFrame (some f)) s fun t => t = { s with island := { x with
        lastP := p, missRun := 0, goodRun := s.island.goodRun + 1,
        interval := s.island.interval.map (fun i => { i with
          sum := i.sum + p, samples := i.samples + 1, missed := i.missed, cycles := i.cycles + 1250,
          active := i.active + (if s.regions.any (fun e => isCore e.1 && e.2.racg.shutter) then 1 else 0),
          flags := i.flags ||| (if fld f 8 2 = 0 then 0 else 128) }) } })
    ∧ (∀ (o : Option DWord),
      (∀ f, o = some f → crc8 ((dwordBytes f).reverse.take 7) ≠ fld f 0 8 ∨ bit f 15 = false ∨ fld f 10 5 ≠ 0) →
      Completes (.adcFrame o) s fun t => t = { s with island := { x with
        missRun := s.island.missRun + 1, goodRun := 0,
        interval := s.island.interval.map (fun i => { i with
          sum := i.sum + s.island.lastP, samples := i.samples + 1, missed := i.missed + 1,
          cycles := i.cycles + 1250,
          active := i.active + (if s.regions.any (fun e => isCore e.1 && e.2.racg.shutter) then 1 else 0)
          }) } })

/-- ADC fault and loss of MREF (R396): the open interval closes with its flag and no new one opens; 8 good frames, or MREF
present for 1 s, let one open again; an absence of more than 1 s, and its end, are told. The cycles a row tells agree
with the samples counted (the model's reading, log entry 45). -/
def IslandAbsences : Prop :=
  ∀ (s : State), s.island.up = true →
    (s.island.adcOk = true → 16 ≤ s.island.missRun → ∀ cycles, s.island.countFits cycles = true →
      Completes (.adcFault cycles) s fun t =>
      IslandFrame s t ∧ t.island.adcOk = false ∧ t.island.interval = none
        ∧ (s.island.interval = none → t.island.recordSeq = s.island.recordSeq)
        ∧ ∀ i, s.island.interval = some i → Recorded i cycles s.island t.island
            ∧ FlagTold 3 s.island t.island)
    ∧ (s.island.mrefOk = true → ∀ cycles, s.island.countFits cycles = true →
      Completes (.mrefLost cycles) s fun t =>
      IslandFrame s t ∧ t.island.mrefOk = false ∧ t.island.interval = none
        ∧ (s.island.interval = none → t.island.recordSeq = s.island.recordSeq)
        ∧ ∀ i, s.island.interval = some i → Recorded i cycles s.island t.island
            ∧ FlagTold 2 s.island t.island)
    ∧ (s.island.adcOk = false → 8 ≤ s.island.goodRun → Completes .adcRecovery s fun t => IslandFrame s t
      ∧ t.island.adcOk = true ∧ (s.island.interval = none → t.island.interval.isSome = MayMeasure t.island)
      ∧ (s.island.adcTold = true → OneNotice 4 s.island t.island))
    ∧ (s.island.mrefOk = false → s.island.mrefAt + 525000000 ≤ s.island.time →
      Completes .mrefReturn s fun t => IslandFrame s t
      ∧ t.island.mrefOk = true ∧ (s.island.interval = none → t.island.interval.isSome = MayMeasure t.island)
      ∧ (s.island.mrefTold = true → OneNotice 4 s.island t.island))
    ∧ (s.island.adcOk = false → s.island.adcTold = false → s.island.adcAt + 525000000 < s.island.time →
      Completes (.islandAbsenceTimeout .adc) s fun t => IslandFrame s t ∧ t.island.adcTold = true
        ∧ OneNotice 4 s.island t.island)
    ∧ (s.island.mrefOk = false → s.island.mrefTold = false → s.island.mrefAt + 525000000 < s.island.time →
      Completes (.islandAbsenceTimeout .mref) s fun t => IslandFrame s t ∧ t.island.mrefTold = true
        ∧ OneNotice 4 s.island t.island)

/-- Intervals (R397, R398, R402): at the 600,000,000th MREF cycle the interval closes and the next opens; the record's three
coaches are handed to the mailbox in order. -/
def IslandIntervals : Prop :=
  ∀ (s : State), s.island.up = true →
    (∀ i, s.island.interval = some i → i.cycles ≤ 600001250 → 599997500 ≤ i.cycles →
      Completes (.intervalClose 600000000) s fun t => IslandFrame s t
      ∧ Recorded i 600000000 s.island t.island
      ∧ t.island.interval = (if MayMeasure s.island = true
          then some { flags := if s.island.xtalOk = true then 0 else 256 } else none))
    ∧ (s.island.live = true → s.island.outbox ≠ [] → Completes .recordHandover s fun t => IslandFrame s t
      ∧ t.island.outbox = [] ∧ t.island.wire = s.island.wire ++ s.island.outbox.map (fun c => (c, false))
      ∧ t.island.log = s.island.log ∧ s.island.handedHi ≤ t.island.handedHi
      ∧ ∀ c ∈ s.island.outbox, c.seq ≤ t.island.handedHi)

/-- Sealed parameters (R405 to R407, R415): a block that passes every check closes the open interval, counts the audit
counter, comes into force and is told; one that fails any changes nothing but the notice of its refusal; a block cut
short changes nothing. -/
def IslandParameters : Prop :=
  ∀ (bytes : List Byte) (cycles : Nat) (s : State), s.island.up = true → s.island.countFits cycles = true →
    (Completes (.parameterBlock bytes false cycles) s fun t => IslandFrame s t
      ∧ OneNotice 6 s.island t.island ∧ t.island.params = s.island.params ∧ t.island.audit = s.island.audit
      ∧ t.island.interval = s.island.interval ∧ t.island.calValid = s.island.calValid)
    ∧ ((blockFormat bytes = false ∨ crc32 (bytes.take 60) ≠ leNat (bytes.drop 60 |>.take 4)
        ∨ leNat (bytes.drop 28 |>.take 4) ≤ s.island.params.ver ∨ s.island.lcSeen = 4
        ∨ 0xFFFFFFFF ≤ s.island.audit) →
      Completes (.parameterBlock bytes true cycles) s fun t => IslandFrame s t
        ∧ OneNotice 6 s.island t.island ∧ t.island.params = s.island.params ∧ t.island.audit = s.island.audit
        ∧ t.island.interval = s.island.interval ∧ t.island.calValid = s.island.calValid)
    ∧ (blockFormat bytes = true → crc32 (bytes.take 60) = leNat (bytes.drop 60 |>.take 4) →
      s.island.params.ver < leNat (bytes.drop 28 |>.take 4) → s.island.lcSeen ≠ 4 →
      s.island.audit < 0xFFFFFFFF →
      Completes (.parameterBlock bytes true cycles) s fun t => IslandFrame s t
        ∧ t.island.audit = s.island.audit + 1 ∧ t.island.params.ver = leNat (bytes.drop 28 |>.take 4)
        ∧ t.island.params.vGain = leNat (bytes.drop 4 |>.take 4)
        ∧ t.island.params.iGain = leNat (bytes.drop 12 |>.take 4)
        ∧ t.island.params.crc = leNat (bytes.drop 60 |>.take 4)
        ∧ t.island.calValid = (s.island.calValid && leNat (bytes.drop 32 |>.take 1) != 1)
        ∧ t.island.calSec = s.island.calTo.calSec
        ∧ (s.island.interval = none → t.island.recordSeq = s.island.recordSeq
            ∧ t.island.energyCum = s.island.energyCum)
        ∧ ∀ i, s.island.interval = some i → t.island.recordSeq = (s.island.recordSeq + 1) % 2 ^ 32
            ∧ (t.island.interval = none
              ∨ t.island.interval = some { flags := if s.island.xtalOk = true then 0 else 256 })
            ∧ (cycles ≠ 600000000 → FlagTold 4 s.island t.island))
    ∧ Completes .paramBlockTimeout s (fun t => t = { s with island := s.island.calTo })

/-- The mailbox (R411, R412, R414): power good starts the replay, one coach each 16 ms, after the live coaches that wait; a
coach comes into the slot of its COACH_SEQ with TICK stamped, FULL set and READ clear; reading the high word of its
last carriage, the latched one where the low word was read before, sets READ and changes nothing in the island; each
update, 2^−10 s after the last at the earliest, copies the island's counters to the mirrors. -/
def MailboxAndReplay : Prop :=
  ∀ (s : State),
    (s.island.up = true → Completes .mailboxPowerGood s fun t => IslandFrame s t
      ∧ t.island.powerGood = true ∧ t.island.log = s.island.log ∧ t.island.wire = s.island.wire
      ∧ ∀ c cs, s.island.log = c :: cs → s.island.lcSeen = 4 → c.seq ≤ s.island.coachSeq →
          t.island.replay = some c.seq ∧ t.island.replayEnd = s.island.coachSeq)
    ∧ (s.island.up = true → s.island.powerGood = true → s.island.replayAt ≤ s.island.time →
      ∀ n, s.island.replay = some n → Completes .replayHandover s fun t => IslandFrame s t
        ∧ t.island.outbox = []
        ∧ t.island.replay = (if n < s.island.replayEnd then some (n + 1) else none)
        ∧ (∀ c, s.island.log.find? (fun c => c.seq == n) = some c →
            t.island.wire = s.island.wire ++ s.island.outbox.map (fun c => (c, false)) ++ [(c, true)]))
    ∧ (Live s → ∀ c re rest h ws, s.island.wire = (c, re) :: rest → c.words = h :: ws →
      Completes .mailboxCoach s fun t => t = { s with mb := t.mb, island := { s.island with wire := rest } }
        ∧ t.mb = { s.mb with slots := t.mb.slots }
        ∧ (t.mbSlot (c.seq % 32)).full = true ∧ (t.mbSlot (c.seq % 32)).read = false
        ∧ (t.mbSlot (c.seq % 32)).replay = re ∧ (t.mbSlot (c.seq % 32)).words.drop 1 = ws
        ∧ (∀ w, (t.mbSlot (c.seq % 32)).words.head? = some w →
            fld w 0 40 = s.tick.toNat % 2 ^ 40 ∧ fld w 40 24 = fld h 40 24)
        ∧ ∀ k, k ≠ c.seq % 32 → t.mbSlot k = s.mbSlot k)
    ∧ (Live s → ∀ p k off, k < 32 → (s.mbSlot k).words ≠ [] → (s.mbSlot k).words.length ≤ 8 →
      off + 4 = 0x80100 + 0x40 * k + 8 * (s.mbSlot k).words.length →
      Completes (.mailboxSlotRead p k) s fun t => t = { s with
        mb := t.mb, out := t.out, glob := { s.glob with latches := t.glob.latches } }
      ∧ t.mb = { s.mb with slots := t.mb.slots }
      ∧ t.mbSlot k = (if (s.mbSlot k).full = true then { s.mbSlot k with read := true } else s.mbSlot k)
      ∧ (s.glob.latches.find? (fun e => e.1 == off) = none → t.glob = s.glob
          ∧ t.out = { s.out with readData := some (hiWord ((s.mbSlot k).words.getLastD 0)) })
      ∧ (∀ w, s.glob.latches.find? (fun e => e.1 == off) = some (off, w) →
          t.out = { s.out with readData := some w } ∧ t.glob.latches = tdel s.glob.latches off)
      ∧ ∀ j, j ≠ k → t.mbSlot j = s.mbSlot j)
    ∧ (Live s → ∀ p k, k < 32 → (s.mbSlot k).words = [] → Completes (.mailboxSlotRead p k) s fun t =>
      t = { s with out := { s.out with readData := some 0 } })
    ∧ (s.island.up = true → s.island.mirrorAt + 512695 ≤ s.island.time → ∀ sec frac,
      s.island.calFits (sec % 2 ^ 64) (frac % 2 ^ 32) = true → Completes (.mailboxMirrorUpdate sec frac) s fun t =>
      t = { s with mb := t.mb, island := { s.island.calTo with
        calSec := sec % 2 ^ 64, calFrac := frac % 2 ^ 32, mirrorAt := s.island.time } }
      ∧ (s.sb.inReset = false → t.mb.slots = s.mb.slots ∧ fld t.mb.newest 0 30 = s.island.handedHi % 2 ^ 30
        ∧ t.mb.audit = BitVec.ofNat 32 s.island.audit ∧ t.mb.record = BitVec.ofNat 32 s.island.recordSeq
        ∧ t.mb.energy = BitVec.ofNat 64 s.island.energyCum ∧ t.mb.calSec = BitVec.ofNat 64 sec
        ∧ t.mb.id = Config.islandId)
      ∧ (s.sb.inReset = true → t.mb = s.mb))

/-! ## Cold reset, pins and the SMBus target (chapter 15) -/

/-- Cold reset (R412, R423 to R425, R442, R444, R446, R452): it clears the mailbox slots and lets mailbox power good fall; a
transition that it cuts short is found done or not done, a free value, and not done where it began in the die tick of
the reset; at its end, 1 ms after its last cause at the earliest, every register has its reset value, the straps are
sampled, a pending erase is carried out, and the fuses, the key store and the island stay; the nonce is new, a free
value. -/
def ColdResetAndItsEnd : Prop :=
  ∀ (s : State),
    (∀ c, s.sb.inReset = true → Completes (.coldReset c) s fun t =>
      t = { s with sb := { s.sb with resetAt := s.now, causes := c :: s.sb.causes } })
    ∧ (∀ c, s.sb.inReset = false → (s.lc.busy = .none ∨ ∃ b n a, s.lc.busy = .verifying b n a) →
      Completes (.coldReset c) s fun t => t = { s with
        sb := { s.sb with inReset := true, resetAt := s.now, causes := c :: s.sb.causes },
        mb := { s.mb with slots := [] },
        island := { s.island with powerGood := false, replay := none, outbox := [], wire := [] },
        lc := { s.lc with busy := .none } })
    ∧ (∀ c to_ re a, s.sb.inReset = false → s.lc.busy = .moving to_ re a →
      Completes (.coldReset c) s fun t => Only [.sb, .mb, .island, .lc, .free] s t ∧ t.sb.inReset = true
        ∧ t.mb.slots = [] ∧ t.island.powerGood = false ∧ t.lc.busy = .none
        ∧ (s.now ≤ a → t.lc = { s.lc with busy := .none })
        ∧ (t.lc = { s.lc with busy := .none }
          ∨ (t.lc.state = to_ ∧ t.lc.uid = s.lc.uid ∧ t.lc.keys = s.lc.keys ∧ t.lc.revoked = s.lc.revoked
            ∧ t.lc.minSecVer = s.lc.minSecVer ∧ t.lc.reissues = s.lc.reissues + (if re = true then 1 else 0)
            ∧ t.lc.erasePend = (to_ == .return_ || to_ == .ended))))
    ∧ (∀ addr strap, s.sb.inReset = true → s.sb.resetAt + 525000 ≤ s.now →
      Completes (.coldResetEnd addr strap) s fun t =>
      t = { State.reset with
        pending := s.pending, freeIdx := t.freeIdx, island := s.island, lc := t.lc,
        hz := { State.reset.hz with feedStrap := strap % 16 },
        sb := { State.reset.sb with smbAddr := addr % 8 } }
      ∧ t.lc.state = s.lc.state ∧ t.lc.uid = s.lc.uid ∧ t.lc.reissues = s.lc.reissues
      ∧ t.lc.revoked = s.lc.revoked ∧ t.lc.minSecVer = s.lc.minSecVer ∧ t.lc.erasePend = false
      ∧ t.lc.unlock = none ∧ t.lc.sealed = false ∧ t.lc.busy = .none ∧ t.lc.event = 0
      ∧ (s.lc.erasePend = false → t.lc.populated = s.lc.populated ∧ t.lc.keys = s.lc.keys)
      ∧ (s.lc.erasePend = true → t.lc.populated = s.lc.populated % 4 ∧ t.lc.keys = []))
    ∧ (∀ addr strap, (s.sb.inReset = false ∨ s.now < s.sb.resetAt + 525000) →
      Completes (.coldResetEnd addr strap) s fun t => t = s)

/-- EVT_IN (R426, R329): an assertion sets SB_EVENT's bit and is a feed event where FEED_SRC, as its die tick ends, names the
line; a deassertion only lowers its level; neither is seen before TICK_VALID, nor within FILTER tk of the line's last
change; there are four lines. -/
def EvtInLines : Prop :=
  ∀ (i gap : Nat) (s : State), Live s → gap = max 1 (fld s.sb.evtCfg 8 8) →
    (i < 4 → s.ref.tickValid = true → tget 0 s.sb.evtAt i + gap ≤ s.now → s.sb.evtLevel.testBit i = false →
      Completes (.evtInAssert i) s fun t =>
        (t.sb = { s.sb with
          evtLevel := s.sb.evtLevel ||| 2 ^ i, evtAt := tput s.sb.evtAt i s.now, event := s.sb.event ||| oneBit i })
        ∧ Only [.sb, .pool] s t ∧ Told s t ∧ t.log.evts = s.log.evts ++ [i])
    ∧ (s.log.evts = [i] →
        (s.hz.feedSrc.testBit i = false → s.evtEnds = s)
        ∧ (s.hz.feedSrc.testBit i = true → Only [.pool, .hz] s s.evtEnds ∧ Told s s.evtEnds
            ∧ s.evtEnds.hz.feedCount = min 0xFFFF (s.hz.feedCount + 1)
            ∧ s.evtEnds.hz.aFeed = min 65535 (s.hz.aFeed + 256) ∧ bit s.evtEnds.hz.event 9 = true))
    ∧ (i < 4 → s.ref.tickValid = true → tget 0 s.sb.evtAt i + gap ≤ s.now → s.sb.evtLevel.testBit i = true →
      Completes (.evtInDeassert i) s fun t => t = { s with sb := { s.sb with
        evtLevel := s.sb.evtLevel - 2 ^ i, evtAt := tput s.sb.evtAt i s.now } })
    ∧ (i < 4 → (s.ref.tickValid = false ∨ s.now < tget 0 s.sb.evtAt i + gap) →
      Completes (.evtInAssert i) s (fun t => t = s) ∧ Completes (.evtInDeassert i) s (fun t => t = s))

/-- ALARM# (R427), as each die tick ends: low while a hazard of the map waits for SNAP_ACK with its enable, or while a source
that ALARM_CFG names stands: the halted sequencer, the root's holdover, a thermal trip, a test level, a failed segment
of the spine; each time it goes low ALARM_ON is set. That the pin follows as a tick ends is the model's reading, log
entry 17. -/
def AlarmFollowsItsSources : Prop :=
  ∀ (s : State),
    (s.alarmWanted = true ↔
      ((s.hz.snapPend = true ∧ bit s.hz.ctl 2 = true) ∨ (s.halted = true ∧ bit s.sb.alarmCfg 0 = true)
        ∨ (s.ref.activeRoot.state = .holdover ∧ bit s.sb.alarmCfg 1 = true)
        ∨ (s.anyTrip = true ∧ bit s.sb.alarmCfg 2 = true) ∨ bit s.sb.alarmCfg 3 = true
        ∨ (s.ref.segFailed ≠ 0 ∧ bit s.sb.alarmCfg 4 = true)))
    ∧ Only [.sb, .pool] s s.alarmSettle ∧ Told s s.alarmSettle
    ∧ s.alarmSettle.sb = { s.sb with
        alarm := s.alarmWanted,
        event := if s.alarmWanted = true ∧ s.sb.alarm = false then s.sb.event ||| oneBit 8 else s.sb.event }

/-- A refused SMBus access (R430): REFUSED, LAST_OFFSET and SMB_REFUSED, and nothing else but its coach. -/
def SmbRefused (off : Nat) (s t : State) : Prop :=
  Only [.sb, .pool, .out] s t ∧ Told s t
  ∧ t.sb = { s.sb with
      refused := min 0xFFFF (s.sb.refused + 1), lastOff := off, event := s.sb.event ||| oneBit 4 }

/-- SMBus reads (R428 to R430): a listed aligned offset answers its word, READN its words in ascending order; an offset that
is not listed or not aligned answers 0 and is refused; a wrong code, byte count or n is NACKed without effect; a
clock held low for 25 ms is counted. -/
def SmbusReads : Prop :=
  ∀ (s : State), Live s →
    (∀ off, off < 2 ^ 20 → off % 4 = 0 → smbReadable off = true → pairLow off = false →
      (4 ≤ off → pairLow (off - 4) = false) → off ≠ 0x80018 → s.before .smbus off = none →
      Completes (.read32 off) s (fun t => t = { s with out := { s.out with
          readData := some (s.readReg off), nack := false } })
      ∧ Completes (.readn off 1) s (fun t => t = { s with out := { s.out with
          readWords := [s.readReg off], nack := false } }))
    ∧ (∀ off, off < 2 ^ 20 → (off % 4 ≠ 0 ∨ smbReadable off = false) →
      Completes (.read32 off) s fun t => SmbRefused off s t
        ∧ t.out = { s.out with readData := some 0, nack := false })
    ∧ (∀ off, off < 2 ^ 20 → off % 4 = 0 → smbReadable off = true → smbReadable (off + 4) = true →
      pairLow off = true →
      Completes (.readn off 2) s fun t => t.out.readWords = [s.readReg off, s.readReg (off + 4)]
        ∧ t.out.nack = false ∧ Only [.out, .glob, .mb] s t)
    ∧ (∀ off n, off < 2 ^ 20 → (n = 0 ∨ 8 < n) →
      Completes (.readn off n) s fun t => t = { s with out := { s.out with nack := true } })
    ∧ (∀ code count, ¬ (code = 0x20 ∧ count = 3) → ¬ (code = 0x21 ∧ count = 7) → ¬ (code = 0x22 ∧ count = 4) →
      Completes (.smbBadCommand code count) s fun t => t = { s with out := { s.out with nack := true } })
    ∧ Completes .smbTimeout s (fun t => Only [.sb, .pool] s t ∧ Told s t
        ∧ t.sb = { s.sb with
            timeouts := min 0xFF (s.sb.timeouts + 1), event := s.sb.event ||| oneBit 6 })

/-- SMBus writes (R16, R43, R429 to R431): the sideband block's registers and FEED_NOTE alone take one; another offset refuses
it; a bad PEC byte, or none while PEC_REQ is 1, leaves it without effect and is counted. What the sequencer has written
in the same die tick stands; an event of this die tick is not cleared. -/
def SmbusWrites : Prop :=
  ∀ (off : Nat) (v : Word) (pec : Pec) (s : State), Live s → off < 2 ^ 20 →
    ((pec = .bad ∨ (pec = .absent ∧ bit s.sb.smbCfg 0 = true)) →
      Completes (.write32 off v pec) s fun t => Only [.sb, .pool, .out] s t ∧ Told s t
        ∧ t.sb = { s.sb with pecErrs := min 0xFF (s.sb.pecErrs + 1), event := s.sb.event ||| oneBit 5 }
        ∧ t.out = { s.out with nack := false })
    ∧ ((pec = .good ∨ (pec = .absent ∧ bit s.sb.smbCfg 0 = false)) →
      ((off % 4 ≠ 0 ∨ (off ≠ 0x04080 ∧ off < 0xA0000) ∨ 0xA1000 ≤ off) →
        Completes (.write32 off v pec) s fun t => SmbRefused off s t)
      ∧ (off = 0xA0008 → s.before .smbus off = none → Completes (.write32 off v pec) s fun t => t = { s with
          sb := { s.sb with evtCfg := v &&& 0xFF0F }, out := { s.out with nack := false }, log := t.log })
      ∧ (off = 0xA0008 → s.before .smbus off ≠ none → Completes (.write32 off v pec) s fun t => t = { s with
          out := { s.out with nack := false } })
      ∧ (off = 0xA0028 → Completes (.write32 off v pec) s fun t => t = { s with
          sb := { s.sb with event := s.sb.event &&& ~~~(v &&& ~~~tget 0 s.log.risen 0xA0028) },
          out := { s.out with nack := false }, log := t.log })
      ∧ (off = 0xA0014 → s.before .smbus off = none → Completes (.write32 off v pec) s fun t => t = { s with
          sb := { s.sb with smbCfg := if s.lc.sealed = true then s.sb.smbCfg else v &&& 1 },
          out := { s.out with nack := false }, log := t.log }))

/-! ## Life cycle, keys, unlock and the seal (chapter 16) -/

/-- The life-cycle block's own work: nothing else changes but coaches formed; the fuses, the identity, the key store, the
running unlock stay, unless the statement says otherwise. -/
def LcFrame (s t : State) : Prop := Only [.lc, .pool] s t ∧ Told s t

/-- The command is turned away with a result (R448): RESULT, CMD_REFUSED and its coach, no other effect. -/
def LcRefused (r : Nat) (s t : State) : Prop :=
  LcFrame s t ∧ t.lc = { s.lc with result := r, event := s.lc.event ||| oneBit 6 }

/-- A passing token's checks (R441), each by itself. -/
def TokenPasses (l : Lifecycle) (b : List Byte) (nonce : DWord) : Prop :=
  tokFormat b = true ∧ l.state.kinds.contains (tokKind b) = true ∧ tokNat b 8 8 = l.uid.toNat
  ∧ tokNat b 16 8 = nonce.toNat
  ∧ (∃ k ∈ l.tokenKeys (tokKind b), Config.ecdsaVerify k (b.take 32) (b.drop 32) = true)
  ∧ (tokKind b = 4 → l.reissues < 3)

/-- Tokens (R441 to R443, R447, R448): a VERIFY by the host takes the token and the nonce as they stand; at its end the nonce
is new; a token that passes has its effect, an unlock or the start of its transition; one that fails a check has the
first failing check's result and no effect. -/
def Tokens : Prop :=
  ∀ (s : State), Live s →
    (s.lc.busy = .none → s.lc.state ≠ .ended → Completes (.verify .host) s fun t =>
      t = { s with lc := { s.lc with
        busy := .verifying ((List.range 32).flatMap (fun w => wordBytes (tget 0 s.lc.token w))) s.lc.nonce
          s.now } })
    ∧ (s.lc.busy = .none → s.lc.state = .ended → Completes (.verify .host) s (LcRefused 6 s))
    ∧ (s.lc.busy ≠ .none → Completes (.verify .host) s (LcRefused 9 s))
    ∧ (∀ b nonce at_, s.lc.busy = .verifying b nonce at_ → s.now ≤ at_ + 2100000 → Completes .verifyDone s fun t =>
      Only [.lc, .pool, .free] s t ∧ Told s t
      ∧ t.lc.state = s.lc.state ∧ t.lc.uid = s.lc.uid ∧ t.lc.keys = s.lc.keys
      ∧ t.lc.populated = s.lc.populated ∧ t.lc.revoked = s.lc.revoked ∧ t.lc.minSecVer = s.lc.minSecVer
      ∧ t.lc.reissues = s.lc.reissues ∧ t.lc.sealed = s.lc.sealed
      ∧ t.lc.lastKind = tokKind b % 8 ∧ t.lc.lastScope = tokScope b % 4
      ∧ (TokenPasses s.lc b nonce → t.lc.result = 1 ∧ t.lc.event = s.lc.event ||| oneBit 1
          ∧ (tokKind b = 2 → t.lc.busy = .none ∧ t.lc.unlock = some (tokScope b)
              ∧ t.lc.unlockAt = s.now ∧ t.lc.unlockDur = tokDuration b)
          ∧ (tokKind b ≠ 2 → t.lc.unlock = s.lc.unlock)
          ∧ (tokKind b = 1 → t.lc.busy = .moving .provisioned false s.now)
          ∧ (tokKind b = 3 → t.lc.busy = .moving .return_ false s.now)
          ∧ (tokKind b = 4 → t.lc.busy = .moving .provisioned true s.now)
          ∧ (tokKind b = 5 → t.lc.busy = .moving .ended false s.now))
      ∧ (¬ TokenPasses s.lc b nonce → t.lc.result ≠ 1 ∧ t.lc.busy = .none ∧ t.lc.unlock = s.lc.unlock
          ∧ (tokFormat b = false → t.lc.result = 2 ∧ t.lc.event = s.lc.event ||| oneBit 2)
          ∧ (tokFormat b = true → s.lc.state.kinds.contains (tokKind b) = true →
              tokNat b 8 8 = s.lc.uid.toNat → tokNat b 16 8 ≠ nonce.toNat →
              t.lc.result = 5 ∧ t.lc.event = s.lc.event ||| oneBit 2)
          ∧ (tokFormat b = true → s.lc.state.kinds.contains (tokKind b) = false →
              t.lc.result = 6 ∧ t.lc.event = s.lc.event ||| oneBit 2 ||| oneBit 6)))

/-- Transitions (R443 to R446, R448): ENTER_FIELD needs a usable integrator slot, END the argument 0x0ED0; the commitment
changes the state, ends an unlock, erases the key store on entry to RETURN and ENDED and keeps every other fuse; the
island reads the state. It comes before the host's accesses to P blocks of its die tick (R452). -/
def Transitions : Prop :=
  ∀ (s : State), Live s →
    (s.lc.busy = .none →
      (s.lc.state = .provisioned → (∃ k, (k = 2 ∨ k = 3) ∧ s.lc.hasSlot k = true ∧ s.lc.isRevoked k = false) →
        Completes (.enterField .host) s fun t =>
          t = { s with lc := { s.lc with busy := .moving .field false s.now } })
      ∧ (s.lc.state ≠ .provisioned → Completes (.enterField .host) s (LcRefused 6 s))
      ∧ (s.lc.state = .provisioned ∨ s.lc.state = .field →
        Completes (.lcEnd .host 0x0ED0) s (fun t =>
          t = { s with lc := { s.lc with busy := .moving .ended false s.now } })
        ∧ ∀ arg, arg < 65536 → arg ≠ 0x0ED0 → Completes (.lcEnd .host arg) s (LcRefused 10 s))
      ∧ (s.lc.state ≠ .provisioned → s.lc.state ≠ .field → ∀ arg, Completes (.lcEnd .host arg) s (LcRefused 6 s)))
    ∧ (∀ to_ re at_, s.lc.busy = .moving to_ re at_ → s.now ≤ at_ + 26250000 → s.log.priv = false →
      Completes .transitionCommit s fun t =>
      Only [.lc, .island, .pool] s t ∧ Told s t
      ∧ t.lc = { s.lc with
          state := to_, busy := .none, reissues := s.lc.reissues + (if re = true then 1 else 0),
          unlock := none, result := 1, erasePend := t.lc.erasePend,
          populated := if to_ = .return_ ∨ to_ = .ended then s.lc.populated % 4 else s.lc.populated,
          keys := if to_ = .return_ ∨ to_ = .ended then [] else s.lc.keys,
          event := s.lc.event ||| oneBit 0 ||| (if s.lc.unlock.isSome = true then oneBit 3 else 0) }
      ∧ ((to_ = .return_ ∨ to_ = .ended) → t.lc.erasePend = false)
      ∧ (s.island.up = false → t.island = s.island)
      ∧ (s.island.up = true → t.island.lcSeen = to_.code ∧ (to_ = .ended → s.island.lcSeen ≠ 4 →
          t.island.hasKey = false ∧ t.island.interval = none)))

/-- Key commands (R448, R449, R451): KEY_INSTALL fills an empty slot with a point of the curve, REVOKE blows a fuse while an
accepted slot remains, RAISE_FLOOR raises MIN_SEC_VER up to 64 and to the running image's SEC_VER, RELOCK ends an
unlock; each is refused in another state, with another argument, and while BUSY; a code outside the table does
nothing, and the sequencer writes none. -/
def KeyCommands : Prop :=
  ∀ (arg : Nat) (s : State), Live s → arg < 65536 →
    (s.lc.busy = .none → s.lc.state = .provisioned →
      ((arg = 2 ∨ arg = 3 ∨ arg = 4) → s.lc.hasSlot arg = false →
        Config.onCurve ((List.range 24).flatMap (fun w => wordBytes (tget 0 s.lc.keyBuf w))) = true →
        Completes (.keyInstall .host arg) s fun t => LcFrame s t
          ∧ t.lc = { s.lc with
              populated := s.lc.populated + 2 ^ arg, keys := t.lc.keys, result := 1,
              event := s.lc.event ||| oneBit 5 }
          ∧ tget [] t.lc.keys arg = (List.range 24).map (tget 0 s.lc.keyBuf)
          ∧ ∀ k, k ≠ arg → tget [] t.lc.keys k = tget [] s.lc.keys k)
      ∧ ((arg < 2 ∨ 4 < arg ∨ s.lc.hasSlot arg = true
          ∨ Config.onCurve ((List.range 24).flatMap (fun w => wordBytes (tget 0 s.lc.keyBuf w))) = false) →
        Completes (.keyInstall .host arg) s (LcRefused 10 s)))
    ∧ (s.lc.busy = .none → s.lc.state ≠ .provisioned → Completes (.keyInstall .host arg) s (LcRefused 6 s))
    ∧ (s.lc.busy = .none → (s.lc.state = .provisioned ∨ s.lc.state = .field) →
      (arg < 4 → (∃ k, (k = 0 ∨ k = 2 ∨ k = 3) ∧ k ≠ arg ∧ s.lc.hasSlot k = true ∧ s.lc.isRevoked k = false) →
        Completes (.revoke .host arg) s fun t => LcFrame s t
          ∧ t.lc = { s.lc with
              revoked := s.lc.revoked ||| 2 ^ arg, result := 1, event := s.lc.event ||| oneBit 5 })
      ∧ ((4 ≤ arg ∨ ∀ k, (k = 0 ∨ k = 2 ∨ k = 3) → k = arg ∨ s.lc.hasSlot k = false ∨ s.lc.isRevoked k = true) →
        Completes (.revoke .host arg) s (LcRefused 10 s)))
    ∧ (s.lc.busy = .none → (s.lc.state = .provisioned ∨ s.lc.state = .field ∨ s.lc.state = .return_) →
      (s.lc.minSecVer < arg → arg ≤ 64 → (s.seqImage = true → arg ≤ s.seq.secVer.toNat) →
        Completes (.raiseFloor .host arg) s fun t =>
          t = { s with lc := { s.lc with minSecVer := arg, result := 1 } })
      ∧ ((arg ≤ s.lc.minSecVer ∨ 64 < arg ∨ (s.seqImage = true ∧ s.seq.secVer.toNat < arg)) →
        Completes (.raiseFloor .host arg) s (LcRefused 10 s)))
    ∧ (s.lc.busy = .none →
      (s.lc.unlock = none → Completes (.relock .host) s fun t => t = { s with lc := { s.lc with result := 1 } })
      ∧ (s.lc.unlock.isSome = true → Completes (.relock .host) s fun t => LcFrame s t
          ∧ t.lc = { s.lc with unlock := none, result := 1, event := s.lc.event ||| oneBit 3 }))
    ∧ (∀ code, Completes (.lcReservedCmd .host code) s (fun t => t = s))
    ∧ (s.lc.busy ≠ .none → ∀ c ∈ [Instr.enterField .host, .lcEnd .host arg, .keyInstall .host arg,
        .revoke .host arg, .raiseFloor .host arg, .relock .host], Completes c s (LcRefused 9 s))
    ∧ ∀ c ∈ [Instr.verify .seq, .enterField .seq, .lcEnd .seq arg, .keyInstall .seq arg, .revoke .seq arg,
        .raiseFloor .seq arg, .relock .seq, .seal .seq], Completes c s (fun t => t = s)

/-- The seal and the end of an unlock (R447, R449): SEAL seals in any state, and FIELD and ENDED seal themselves 2^34 tk
after the cold reset; an unlock ends when its duration has passed, of 2^30 tk a unit, 0 never. A seal of the host comes
before the LK writes of other paths in its die tick, which are then ignored (R43, R452). -/
def SealAndUnlock : Prop :=
  ∀ (s : State), Live s →
    (s.lc.sealed = false → (∀ e ∈ s.log.wrote, e.1 = .host ∨ lkMask e.2.1 = 0) →
      Completes (.seal .host) s fun t => LcFrame s t
        ∧ t.lc = { s.lc with sealed := true, event := s.lc.event ||| oneBit 4 })
    ∧ (s.lc.sealed = false → ∀ old, s.log.wrote = [(.seq, 0x0208C, old)] →
      Completes (.seal .host) s fun t => Only [.lc, .pool, .doors] s t
        ∧ t.lc = { s.lc with sealed := true, event := s.lc.event ||| oneBit 4 }
        ∧ t.doors = { s.doors with cfg := old &&& 3 })
    ∧ (s.lc.sealed = true → Completes (.seal .host) s fun t => t = s)
    ∧ ((s.lc.state = .field ∨ s.lc.state = .ended) → s.lc.sealed = false → 2 ^ 34 ≤ s.now →
      Completes .autoSeal s fun t => LcFrame s t
        ∧ t.lc = { s.lc with sealed := true, event := s.lc.event ||| oneBit 4 })
    ∧ (s.lc.unlock.isSome = true → s.lc.unlockDur ≠ 0 → s.lc.unlockDur * 2 ^ 30 ≤ s.now - s.lc.unlockAt →
      Completes .unlockExpiry s fun t => LcFrame s t
        ∧ t.lc = { s.lc with unlock := none, event := s.lc.event ||| oneBit 3 })
    ∧ ((s.lc.unlock = none ∨ s.lc.unlockDur = 0) → Completes .unlockExpiry s fun t => t = s)

/-! ## The KTC window (chapters 00 and 01) -/

/-- No path ordered after this one has written in this die tick (R43). -/
abbrev NothingLater (p : Path) (s : State) : Prop := ∀ off, s.before p off = none

/-- Register writes that a path may make (R12 to R14, R16, R38, R43, R449): an RW field takes its bits, a W1C bit is cleared by
a 1 where no event of this die tick has set it, an LK field takes none after the seal; the host reaches S and P blocks
only while privileged windows are open, the sequencer S blocks always. An RW register that a path ordered later has
written in this die tick stands as it is. Registers of the blocks stand for their kinds. -/
def RegisterWrites : Prop :=
  ∀ (p : Path) (v : Word) (s : State), Live s → p = .host ∨ p = .seq → NothingLater p s →
    Completes (.registerWrite p 0x0000C 32 v) s (fun t =>
      t = { s with glob := { s.glob with intEnable := v &&& 0x3FFF }, log := t.log })
    ∧ ((p = .seq ∨ s.privOpen = true) →
      Completes (.registerWrite p 0x01008 32 v) s (fun t =>
        t = { s with log := t.log, ref := { s.ref with
          refEvent := s.ref.refEvent &&& ~~~(v &&& ~~~tget 0 s.log.risen 0x01008) } })
      ∧ Completes (.registerWrite p 0x0100C 32 v) s (fun t =>
        t = { s with log := t.log, ref := { s.ref with refEventEn := v &&& 0x3FFF } })
      ∧ Completes (.registerWrite p 0x01010 32 v) s (fun t => t = { s with log := t.log, ref := { s.ref with
          watchLimits := if s.lc.sealed = true then s.ref.watchLimits else v &&& 0x0FFFFFFF } })
      ∧ Completes (.registerWrite p 0x0208C 32 v) s (fun t => t = { s with log := t.log, doors := { s.doors with
          cfg := if s.lc.sealed = true then s.doors.cfg else v &&& 3 } })
      ∧ Completes (.registerWrite p 0x03024 32 v) s (fun t =>
        t = { s with log := t.log, fc := { s.fc with tightVal := v &&& 0xFFFF, was := t.fc.was } })
      ∧ (∀ r, r < 208 → (s.region r).racg.refLost = false →
        Completes (.registerWrite p (0x10000 + 0x100 * r + 0x0C) 32 v) s fun t => Only [.regions] s t
          ∧ RegionIs r { s.region r with regs := { (s.region r).regs with eventEn := v &&& 0x3FFF } } s t)
      ∧ (∀ i, i < 936 → Completes (.registerWrite p (0x20000 + 0x20 * i + 0x0C) 32 v) s fun t =>
          Only [.cpls] s t ∧ CplsBut i s t ∧ t.cpl i = { s.cpl i with event := (s.cpl i).event
            &&& ~~~(v &&& ~~~tget 0 s.log.risen (0x20000 + 0x20 * i + 0x0C)) })
      ∧ (∀ c, c < 64 → Completes (.registerWrite p (0x30000 + 0x40 * c + 0x14) 32 v) s fun t =>
          Only [.meas] s t ∧ ChansBut c s t ∧ t.chan c = { s.chan c with eventEn := v &&& 0x7FF }))
    ∧ (∀ q, q < 96 → Completes (.registerWrite p (0x38000 + 0x40 * q + 0x0C) 32 v) s fun t =>
        Only [.pool] s t ∧ QueuesBut q s t
          ∧ t.queue q = { s.queue q with event := (s.queue q).event
            &&& ~~~(v &&& ~~~tget 0 s.log.risen (0x38000 + 0x40 * q + 0x0C)) })
    ∧ (p = .host → s.privOpen = true → ∀ k, k < 0x4000 →
        Completes (.registerWrite p (0x60000 + 4 * k) 32 v) s fun t => Only [.seq] s t
          ∧ (Memory.wf 0 s.seq.imem = true → tget 0 t.seq.imem k = v)
          ∧ ∀ j, j ≠ k → tget 0 t.seq.imem j = tget 0 s.seq.imem j)

/-- The order of the paths in one die tick (R43): host, SMBus, sequencer. A host write of a register of RW fields alone that
the sequencer or the SMBus target has written before it in the same die tick has no effect, and a host read of it
answers what it was before that. -/
def PathsInOrder : Prop :=
  ∀ (off : Nat) (v w : Word) (s : State), Live s → s.before .host off = some w →
    (off % 4 = 0 → rwMask off = 0xFFFFFFFF → s.mayReach .host off = true → off < 0x40000 →
      Completes (.registerWrite .host off 32 v) s fun t => t = s)
    ∧ ((off = 0x0000C ∨ off = 0x0100C ∨ off = 0x02084 ∨ off = 0x03024 ∨ off = 0x08044) →
      Completes (.readLowWordLatch .host off 32) s fun t =>
        t = { s with out := { s.out with readData := some w } })

/-- Writes without effect (R12, R13, R38 to R41): another width or alignment, an offset that no chapter defines, the mailbox
from every path, a P block from the sequencer or with privileged windows closed, the life-cycle block from the
sequencer; of the host's writes to an S block with privileged windows closed HOST_IGNORED alone takes note. -/
def WritesWithoutEffect : Prop :=
  ∀ (off : Nat) (v : Word) (s : State), Live s →
    (∀ p width, width ≠ 32 → Completes (.registerWrite p off width v) s fun t => t = s)
    ∧ (∀ p, (p = .host ∨ p = .seq) → off % 4 ≠ 0 → Completes (.registerWrite p off 32 v) s fun t => t = s)
    ∧ (∀ p, (p = .host ∨ p = .seq) → (0x1D000 ≤ off ∧ off < 0x20000 ∨ 0x78000 ≤ off ∧ off < 0x90000
          ∨ 0x91000 ≤ off ∧ off < 0xA0000 ∨ 0xA1000 ≤ off) →
        Completes (.registerWrite p off 32 v) s fun t => Only [] s t)
    ∧ ((0x40000 ≤ off ∧ off < 0x78000 ∨ 0x90000 ≤ off ∧ off < 0x91000) →
        Completes (.registerWrite .seq off 32 v) s fun t => t = s)
    ∧ (s.privOpen = false → 0x40000 ≤ off → off < 0x78000 →
        Completes (.registerWrite .host off 32 v) s fun t => Only [] s t)
    ∧ (s.privOpen = false → off % 4 = 0 →
        (0x01000 ≤ off ∧ off < 0x08000 ∨ 0x10000 ≤ off ∧ off < 0x1D000 ∨ 0x20000 ≤ off ∧ off < 0x27500
          ∨ 0x30000 ≤ off ∧ off < 0x31000) →
        Completes (.registerWrite .host off 32 v) s fun t => t = { s with
          glob := { s.glob with ignored := min 0xFFFF (s.glob.ignored + 1), lastOff := off / 16 % 65536 },
          log := { s.log with ignored := s.log.ignored + 1 } })

/-- Reads, pairs, and the count of ignored writes (R12, R18, R44, R47): a read of another width or alignment answers 0 and
changes nothing; a read of a pair's low word answers it and latches the high word, which the next read of the high
word answers, whatever it has become; GLOBAL_CTL clears HOST_IGNORED but for the writes ignored in its own die
tick. -/
def PairsAndIgnoredCount : Prop :=
  ∀ (s : State), Live s →
    (∀ p off width, (width ≠ 32 ∨ ((p = .host ∨ p = .seq) ∧ off % 4 ≠ 0)) →
      Completes (.readLowWordLatch p off width) s fun t =>
        t = { s with out := { s.out with readData := some 0 } })
    ∧ (∀ p off, (p = .host ∨ p = .seq) → pairLow off = true → Completes (.readLowWordLatch p off 32) s fun t =>
      Only [.out, .glob, .mb] s t ∧ t.out = { s.out with readData := some (s.readReg off) }
      ∧ t.glob = { s.glob with latches := t.glob.latches }
      ∧ tget 0 t.glob.latches (off + 4) = s.readReg (off + 4)
      ∧ ∀ k, k ≠ off + 4 → tget 0 t.glob.latches k = tget 0 s.glob.latches k)
    ∧ (∀ off w, off % 4 = 0 → off + 4 < 2 ^ 20 → pairLow off = true → smbReadable (off + 4) = true →
      s.glob.latches.find? (fun e => e.1 == off + 4) = some (off + 4, w) →
      Completes (.read32 (off + 4)) s fun t => t.out.readData = some w ∧ Only [.out, .glob, .mb] s t)
    ∧ (∀ p, (p = .host ∨ p = .seq) → Completes (.clrIgnored p) s fun t =>
      t = { s with glob := { s.glob with
        ignored := min 0xFFFF s.log.ignored, lastOff := if s.log.ignored = 0 then 0 else s.glob.lastOff } })

/-- Every write to the metrology mailbox is ignored, from every path and in every life-cycle state (R40): no mailbox slot
or mirror and nothing of the island changes; the SMBus target alone takes note of the refusal. -/
def MailboxIgnoresWrites : Prop :=
  ∀ (off : Nat) (v : Word) (s : State), 0x80000 ≤ off → off < 0x81000 →
    (∀ p width, Completes (.registerWrite p off width v) s fun t => t.mb = s.mb ∧ t.island = s.island
      ∧ ((p = .host ∨ p = .seq) → t = s) ∧ Only [.sb, .pool] s t ∧ Told s t)
    ∧ ∀ pec, Completes (.write32 off v pec) s fun t => t.mb = s.mb ∧ t.island = s.island
      ∧ Only [.sb, .pool, .out] s t ∧ Told s t

/-! ## The machine -/

/-- The block's step: the front command is carried out on the state with the rest of the queue. -/
def StepRunsFrontCommand : Prop :=
  ∀ (c : Instr) (rest : List Instr) (s : State), s.pending = c :: rest →
    Sys2Proof.Machine.step s = Sys2Proof.Machine.exec c { s with pending := rest }

/-- An empty queue: one die tick passes (log entry 1, the model's choice): the model's time and the island's go on by one,
TICK counts where TICK_VALID is 1 (R24) and no step of it is to be made, the queue stays empty, the life cycle is as it
was. -/
def EmptyQueuePassesOneTick : Prop :=
  ∀ s : State, s.pending = [] → ∃ t, Sys2Proof.Machine.step s = .next t ∧ t.pending = []
    ∧ t.now = s.now + 1
    ∧ (s.tickEnd.log.step = false → t.tick = (if s.ref.tickValid = true then s.tick + 1 else s.tick))
    ∧ t.island = { s.island with time := s.island.time + 1 } ∧ t.lc = s.lc
    ∧ (s.sb.inReset = true → Only [.now, .tick, .pool, .island] s t)

/-- A command whose operands lie in their ranges completes in every state (R8, R10); one that names a part the KTC does
not have may stop with noSuchPart; no command stops otherwise. -/
def EveryCommandCompletes : Prop :=
  ∀ (c : Instr) (s : State),
    (c.wellFormed = true → ∃ t, Sys2Proof.Machine.exec c s = .next t)
    ∧ ((∃ t, Sys2Proof.Machine.exec c s = .next t)
      ∨ ∃ what i, Sys2Proof.Machine.exec c s = .fault (.noSuchPart what i))

/-- The rows of the island and the mailbox, but the mailbox's own (R388 to R415). -/
def islandRow : Instr → Bool
  | .islandStart .. => true
  | .standbyLoss .. => true
  | .xtalOkChange .. => true
  | .islandSyncEdge .. => true
  | .islandSyncEdgeMissing => true
  | .islandTodMessage .. => true
  | .adcFrame .. => true
  | .adcFault .. => true
  | .adcRecovery => true
  | .mrefLost .. => true
  | .mrefReturn => true
  | .islandAbsenceTimeout .. => true
  | .intervalClose .. => true
  | .recordHandover => true
  | .parameterBlock .. => true
  | .paramBlockTimeout => true
  | .mailboxPowerGood => true
  | .replayHandover => true
  | .mailboxMirrorUpdate .. => true
  | _ => false

/-- The two rows of a cold reset (R423). -/
def resetRow : Instr → Bool
  | .coldReset .. => true
  | .coldResetEnd .. => true
  | _ => false

/-- While a cold reset is in force no command but its own rows and the island's changes anything (R423, R424; that commands
are then without effect is the model's reading, log entry 2). -/
def ColdResetHoldsTheBlock : Prop :=
  ∀ (c : Instr) (s t : State), s.sb.inReset = true → resetRow c = false → islandRow c = false →
    Sys2Proof.Machine.exec c s = .next t → t = s

/-- A transition that R443 lists, with the mark of a reissue. -/
def ListedMove (a b : LcState) (reissue : Bool) : Prop :=
  (a = .blank ∧ b = .provisioned ∧ reissue = false) ∨ (a = .provisioned ∧ b = .field ∧ reissue = false)
  ∨ ((a = .provisioned ∨ a = .field) ∧ b = .return_ ∧ reissue = false)
  ∨ (a = .return_ ∧ b = .provisioned ∧ reissue = true)
  ∨ (a ≠ .ended ∧ b = .ended ∧ reissue = false)

/-- The life cycle is sound: a transition in progress is one that R443 lists. -/
def LcSound (s : State) : Prop :=
  ∀ to_ re at_, s.lc.busy = .moving to_ re at_ → ListedMove s.lc.state to_ re

/-- The state after reset (R31, R424, the register tables of the chapters): TICK is not valid and 0, both references are
ABSENT and both roots IDLE, every region's RACG is OFF behind a closed shutter, the door slots are IDLE, the
couplers DISABLED, the measurement channels IDLE, the pool is empty with queues 0 and 1 alone enabled, the group
tick unit is STANDALONE, MAP_GEN is 0, the sequencer has not started, no command waits; the memories have their
canonical form. -/
def ResetValues : Prop :=
  State.reset.pending = [] ∧ State.reset.tick = 0 ∧ State.reset.ref.tickValid = false
    ∧ State.reset.ref.refA.state = .absent ∧ State.reset.ref.refB.state = .absent
    ∧ State.reset.ref.rpa.state = .idle ∧ State.reset.ref.rpb.state = .idle
    ∧ State.reset.readReg 0x01000 = 0x00000A03
    ∧ (∀ r, r < 208 → (State.reset.region r).racg.state = .off
        ∧ (State.reset.region r).racg.shutter = false)
    ∧ (∀ k, k < 4 → (State.reset.slot k).state = .idle)
    ∧ (∀ i, i < 832 → (State.reset.cpl i).state = .disabled)
    ∧ (∀ ch, ch < 64 → (State.reset.chan ch).state = .idle)
    ∧ (∀ q, q < 96 → (State.reset.qEnabled q = decide (q < 2) ∧ (State.reset.queue q).coaches = []))
    ∧ State.reset.gt.state = .standalone ∧ State.reset.hz.mapGen = 0
    ∧ State.reset.seq.mode = .notStarted ∧ State.reset.cmd.len = 2 ∧ State.reset.sb.inReset = false
    ∧ State.reset.memoriesWf = true ∧ LcSound State.reset

/-- Every step keeps the memories in canonical form: addresses rise, and no entry holds 0, which an unlisted
address reads as; from every state with that form, reachable or not. -/
def StepKeepsMemoriesCanonical : Prop :=
  ∀ s t : State, s.memoriesWf = true → Sys2Proof.Machine.step s = .next t → t.memoriesWf = true

/-- What the fuses hold only burns (R437, R442, R443, R446, R448): the security floor and REISSUES do not fall, no revoked
slot is valid again, the identity stays. -/
def FusesOnlyBurn (s t : State) : Prop :=
  s.lc.minSecVer ≤ t.lc.minSecVer ∧ s.lc.reissues ≤ t.lc.reissues ∧ t.lc.uid = s.lc.uid
    ∧ (∀ k, s.lc.revoked.testBit k = true → t.lc.revoked.testBit k = true)

/-- The life-cycle state changes only as R443 lists, by any step from a state whose transition in progress is listed, a cold
reset that cuts one short included; such states stay such; and the fuses only burn. -/
def LifeCycleMovesAsListed : Prop :=
  ∀ s t : State, LcSound s → Sys2Proof.Machine.step s = .next t →
    LcSound t ∧ FusesOnlyBurn s t
      ∧ (t.lc.state = s.lc.state ∨ ∃ re, ListedMove s.lc.state t.lc.state re)

/-- Nothing of the KTC reaches the island (R389): a command that is neither one of the island's rows nor of a cold reset nor
the commitment of a transition nor a coach's arrival in the mailbox changes nothing of it. -/
def IslandIsApart : Prop :=
  ∀ (c : Instr) (s t : State), islandRow c = false → resetRow c = false → c ≠ .transitionCommit →
    c ≠ .mailboxCoach → Sys2Proof.Machine.exec c s = .next t → t.island = s.island

/-! ## The obligations -/

/-- A step carries out the command at the front of the queue on the state with the rest of the queue. -/
def Obligations.StepIsExecOfTheFrontCommand : Prop :=
  StepRunsFrontCommand

/-- On an empty queue one die tick passes (the model's choice, log entry 1): TICK, the clocks, nothing of the
life cycle. -/
def Obligations.EmptyQueueIsOneDieTick : Prop :=
  EmptyQueuePassesOneTick

/-- Every command completes in every state unless it names a part that the KTC does not have. Where it rests on
a reading or choice of the model, that is of log entry 9. -/
def Obligations.EveryWellFormedCommandCompletes : Prop :=
  EveryCommandCompletes

/-- While a cold reset is in force only its own rows and the rows of the island change anything. Where it rests
on a reading or choice of the model, that is of log entry 2. -/
def Obligations.ColdResetInForceHoldsEveryOtherCommand : Prop :=
  ColdResetHoldsTheBlock

/-- What the machine holds after reset. Where it rests on a reading or choice of the model, that is of log
entries 4, 12, 13 and 20. -/
def Obligations.StateAfterReset : Prop :=
  ResetValues

/-- Every step keeps the memories in their canonical form. -/
def Obligations.EveryStepKeepsTheMemoriesCanonical : Prop :=
  StepKeepsMemoriesCanonical

/-- Every step keeps listed transitions listed, moves the life-cycle state only as R443 lists, and burns no fuse
back. -/
def Obligations.LifeCycleStateMovesOnlyAsListed : Prop :=
  LifeCycleMovesAsListed

/-- No command of the KTC's own changes anything of the metrology island. -/
def Obligations.TheKtcNeverReachesTheIsland : Prop :=
  IslandIsApart

/-- Every write to the metrology mailbox is ignored, from every path and in every life-cycle state. -/
def Obligations.MailboxIgnoresEveryWrite : Prop :=
  MailboxIgnoresWrites

/-- What a register write does by path, write class, access code and seal, and which writes have no effect.
Where it rests on a reading or choice of the model, that is of log entries 15 and 49. -/
def Obligations.RegisterWritesByPath : Prop :=
  RegisterWrites ∧ PathsInOrder ∧ WritesWithoutEffect

/-- The low word of a 64-bit quantity latches its high word; GLOBAL_CTL clears HOST_IGNORED. Where it rests on a
reading or choice of the model, that is of log entry 14. -/
def Obligations.PairReadsAndIgnoredCount : Prop :=
  PairsAndIgnoredCount

/-- Presence, qualification and the watch channel tests of the two references. Where it rests on a reading or
choice of the model, that is of log entry 19. -/
def Obligations.ReferenceMonitoring : Prop :=
  ReferencePresence ∧ WatchChannelTests ∧ QualificationCompletes ∧ PhaseOffsetIsWrapped
    ∧ WatchChannelStandsWhereItMust

/-- A single missing edge is counted in MISS_ONE and has no other effect. -/
def Obligations.AMissingEdgeAloneHasNoEffect : Prop :=
  SingleMissingEdge

/-- Loss of the active reference, holdover, root lock, timeout, fault and retry. Where it rests on a reading or
choice of the model, that is of log entries 3, 19 and 20. -/
def Obligations.LossesAndFaultsOfReferencesAndRoots : Prop :=
  LossOfTheActiveReference ∧ RootsLockAndFault ∧ RetryRefused

/-- Forced, automatic and revertive switchovers of the roots, and the slew that follows. Where it rests on a
reading or choice of the model, that is of log entry 19. -/
def Obligations.RootSwitchoversAndSlew : Prop :=
  ForceSwitchOrRefused ∧ SwitchoverAndSlew

/-- A failed spine segment is replaced by the spare of its half or is dead, and a failed spare trunk is told.
Where it rests on a reading or choice of the model, that is of log entry 20. -/
def Obligations.TickSpineSegments : Prop :=
  SpineSegments

/-- Each command of a region's generator is carried out in the states that allow it and refused in the others. -/
def Obligations.RacgCommands : Prop :=
  RacgCommandsCarriedOut ∧ DueDoorComesFirst ∧ RacgCommandsRefused

/-- Lock, loss of lock, and what is put in place at an output switch. Where it rests on a reading or choice of
the model, that is of log entries 3, 21 and 24. -/
def Obligations.RacgLocksAndOutputSwitches : Prop :=
  LockAndOutputSwitches ∧ CeilingTimer

/-- An arm message is acknowledged or refused with the reason that the rule gives. -/
def Obligations.ArmAnsweredByTheRegion : Prop :=
  ArmingAcknowledgedOrRefused

/-- A door's frequency change and its ramp, and a region that loses the die tick at its tap. Where it rests on a
reading or choice of the model, that is of log entries 21, 22 and 24. -/
def Obligations.DoorsRampsAndLostDieTicks : Prop :=
  DoorsAndRamps ∧ CeilingFromTheNextTick ∧ DieTickLostAtATap

/-- The DCO measurement, the phase control and the shutter of a region. Where it rests on a reading or choice of
the model, that is of log entries 3 and 18. -/
def Obligations.RegionMeasurementPhaseAndShutter : Prop :=
  WalkSteps ∧ MeasurePhaseShutter

/-- A droop crossing stretches the clock by its rule, and episodes end, continue and are counted. Where it rests
on a reading or choice of the model, that is of log entries 3 and 23. -/
def Obligations.DroopCrossingsAndEpisodes : Prop :=
  CrossingStretches ∧ EpisodesEndAndCount

/-- The detectors' selection, thresholds and trims, and the margin probe. -/
def Obligations.DetectorsAndMarginProbe : Prop :=
  DetectorSelection ∧ MarginProbe

/-- CAL_DONE records the calibration, and its age and temperature mark it stale. -/
def Obligations.CalibrationIsRecordedAndJudged : Prop :=
  CalibrationRecord

/-- A region's ledger is snapshot by command, by span and by step, with its counts as they stand. Where it rests
on a reading or choice of the model, that is of log entry 39. -/
def Obligations.LedgersSnapshot : Prop :=
  LedgerSnapshots

/-- A thermal conversion sets and clears HOT and TRIP as the limits state. Where it rests on a reading or choice
of the model, that is of log entry 25. -/
def Obligations.ThermalConversions : Prop :=
  ThermalGuard

/-- Forecasts open tighten windows and regulator warnings, and these end. Where it rests on a reading or choice
of the model, that is of log entry 26. -/
def Obligations.ForecastsWindowsAndWarnings : Prop :=
  ForecastsOpenWindows ∧ WindowsAndWarningsEnd ∧ WarningsAsATickBegins

/-- AVSBus requests are sent, queued, answered, retried and refused. Where it rests on a reading or choice of
the model, that is of log entries 18 and 27. -/
def Obligations.AvsBusRequests : Prop :=
  AvsRequests

/-- GO and ABORT are judged, a door is armed in every region of its set or cancelled in all. Where it rests on a
reading or choice of the model, that is of log entry 30. -/
def Obligations.DoorSlotCommandsAndArming : Prop :=
  GoAndAbortJudged ∧ ArmingIsAllOrNone ∧ CancelReachesTheSet

/-- Gear entries take their writes until the seal, and trips are cleared. Where it rests on a reading or choice
of the model, that is of log entry 30. -/
def Obligations.GearTableAndTrips : Prop :=
  GearEntriesAndTrips

/-- Each coupler command is carried out in the states that allow it and refused in the others. -/
def Obligations.CouplerCommands : Prop :=
  CouplerCommandsCarriedOut ∧ CouplerCommandsRefused

/-- Couplers reach the ends of their drains, holds and swaps, and pass entries in order, once. Where it rests on
a reading or choice of the model, that is of log entry 31. -/
def Obligations.CouplerStatesAndEntries : Prop :=
  CouplersReachTheirEnds ∧ CouplersTakeWritesInOrder ∧ CouplersGiveReadsInOrder ∧ CouplersCrossByPointers

/-- Measurement channels are armed, disarmed and refused, and their configuration is kept while busy. Where it
rests on a reading or choice of the model, that is of log entry 28. -/
def Obligations.MeasurementChannelCommands : Prop :=
  MeasurementCommands

/-- Intervals start and stop at their edges, results complete and are read, streams stamp and recalibrate. Where
it rests on a reading or choice of the model, that is of log entries 28 and 39. -/
def Obligations.IntervalsResultsAndStreams : Prop :=
  StartEdges ∧ StopEdges ∧ ResultsCompleteAndAreRead ∧ StreamsStampAndRecalibrate

/-- Queue control, and what disabling a queue discards and reports. Where it rests on a reading or choice of the
model, that is of log entry 34. -/
def Obligations.QueuesEnabledAndDisabled : Prop :=
  QueueControl ∧ DisablingAQueue

/-- Pops by the host and the read buffer they fill. -/
def Obligations.HostPopsAndReadBuffer : Prop :=
  PopsByTheHost ∧ ReadBuffer

/-- A waiting coach is granted, its notice comes and coalesces, and the pool shows its peak and its carts. Where
it rests on a reading or choice of the model, that is of log entries 3, 34, 35 and 36. -/
def Obligations.GrantsNoticesAndPoolWindow : Prop :=
  AWaitingCoachIsGranted ∧ NoticesAndCoalescing ∧ PeakAndDebugWindow

/-- SYNC_IN edges and time-of-day messages, and what they do to an ALIGNED root. Where it rests on a reading or
choice of the model, that is of log entries 37 and 38. -/
def Obligations.GroupTimeInputs : Prop :=
  SyncInEdges ∧ TimeOfDayMessages

/-- Alignment words are sent and received, and an exchange with the source steers the unit through its states.
Where it rests on a reading or choice of the model, that is of log entries 18 and 38. -/
def Obligations.AlignmentWordsAndExchanges : Prop :=
  AlignmentWords ∧ ExchangesWithTheSource

/-- Loss of the source, holdover and ejection, and joining and leaving the group. Where it rests on a reading or
choice of the model, that is of log entry 38. -/
def Obligations.SourcesJoiningAndLeaving : Prop :=
  SourceLostAndEjected ∧ JoinAndLeave

/-- The TICK step, the compare slots, the membership table and what is written only in STANDALONE. Where it
rests on a reading or choice of the model, that is of log entries 38 and 39. -/
def Obligations.TickStepsComparesAndMembership : Prop :=
  TheTickStep ∧ CompareSlots ∧ MembershipAndConfiguration

/-- The hazard accumulators' latch and effect, and what the map port lets pass. Where it rests on a reading or
choice of the model, that is of log entry 40. -/
def Obligations.HazardLevelsAndMap : Prop :=
  HazardLatch ∧ HazardEffect ∧ MapPortJudges

/-- Fence, adopt and unfence commands are judged, and their sequences end with the map changed. Where it rests
on a reading or choice of the model, that is of log entry 40. -/
def Obligations.FencingSequences : Prop :=
  FenceCommandsJudged ∧ FenceSequencesEnd

/-- Feed events, partners that share a feed, and stamped snapshots. Where it rests on a reading or choice of the
model, that is of log entry 39. -/
def Obligations.FeedEventsPartnersStamps : Prop :=
  FeedPartnersAndStamps

/-- The fields of an instruction word lie where the encoding puts them. -/
def Obligations.LysioWordsDecode : Prop :=
  InstructionWords

/-- Computation and control flow of the sequencer: results, branches, jumps and their costs. -/
def Obligations.LysioComputationAndControl : Prop :=
  ComputationResults ∧ ControlFlow

/-- Data memory accesses of the sequencer, and its loads and posted stores of KTC registers. Where it rests on a
reading or choice of the model, that is of log entries 7 and 33. -/
def Obligations.LysioMemoryAndRegisters : Prop :=
  DataMemoryAccesses ∧ KtcRegisterAccesses

/-- Timed waits, event lines and waits for them. Where it rests on a reading or choice of the model, that is of
log entry 43. -/
def Obligations.LysioWaitsAndEventLines : Prop :=
  TimedWaits ∧ EventLinesAndWaits

/-- Doors armed and awaited by the sequencer, broadcasts, and coaches pushed and popped. Where it rests on a
reading or choice of the model, that is of log entries 32 and 43. -/
def Obligations.LysioDoorsBroadcastsPushPop : Prop :=
  DoorsAndBroadcasts ∧ PushAndPop

/-- Starting, stopping and halting tasks, and the faults an instruction takes. Where it rests on a reading or
choice of the model, that is of log entries 43 and 44. -/
def Obligations.LysioTasksAndFaults : Prop :=
  TaskControl ∧ InstructionFaults

/-- Loads begin, take their words, are checked and fail with their code. Where it rests on a reading or choice
of the model, that is of log entry 42. -/
def Obligations.ImageLoading : Prop :=
  LoadsBeginAndStop ∧ ImageWords

/-- A verified image runs; tasks are restarted and stopped by the host. Where it rests on a reading or choice of
the model, that is of log entries 6, 42 and 44. -/
def Obligations.ImageStartAndRestart : Prop :=
  LoadVerified ∧ RestartAndStop

/-- SUBMIT forms a host command, and a command that is unsupported, malformed or stale is turned away. Where it
rests on a reading or choice of the model, that is of log entry 41. -/
def Obligations.HostCommandPort : Prop :=
  SubmitFormsTheCommand ∧ HostCommandsTurnedAway

/-- Host commands reach their mechanism, and are answered at once or when it ends. Where it rests on a reading
or choice of the model, that is of log entries 41 and 52. -/
def Obligations.HostCommandsAnswered : Prop :=
  HostCommandsCarriedOut ∧ HostCommandsThatTakeTime

/-- The island's supplies and start, and its calendar. Where it rests on a reading or choice of the model, that
is of log entries 4 and 45. -/
def Obligations.IslandStartAndCalendar : Prop :=
  IslandSupplies ∧ CalendarGoesOn ∧ IslandCalendar

/-- Samples are summed, absences close the interval, and records carry the energy without loss. Where it rests
on a reading or choice of the model, that is of log entries 6 and 45. -/
def Obligations.IslandSamplesAndRecords : Prop :=
  IslandSamples ∧ IslandAbsences ∧ IslandIntervals

/-- Sealed parameters are accepted or refused; coaches are replayed and shown in the mailbox. Where it rests on
a reading or choice of the model, that is of log entries 6 and 45. -/
def Obligations.IslandParametersAndMailbox : Prop :=
  IslandParameters ∧ MailboxAndReplay

/-- Cold reset and its end, the EVT_IN lines, ALARM#, and the SMBus target. Where it rests on a reading or choice of the
model, that is of log entries 17, 46, 47 and 51. -/
def Obligations.ResetPinsAndSmbus : Prop :=
  ColdResetAndItsEnd ∧ EvtInLines ∧ AlarmFollowsItsSources ∧ SmbusReads ∧ SmbusWrites

/-- Tokens are verified once, and transitions of the life cycle are begun and committed. Where it rests on a
reading or choice of the model, that is of log entries 6, 46 and 48. -/
def Obligations.TokensAndTransitions : Prop :=
  Tokens ∧ Transitions

/-- Key commands, the configuration seal and the end of an unlock. Where it rests on a reading or choice of the
model, that is of log entry 48. -/
def Obligations.KeyCommandsSealAndUnlock : Prop :=
  KeyCommands ∧ SealAndUnlock
end

