-- ==== Sys2Proof/Laws/Outcome.lean ====
section
/-! SUPPORT. When a command takes place: the guards every meaning goes through. -/

namespace Sys2Proof.Machine

open Sys2Proof

/-- An event that is due takes place. -/
theorem act_next {s : State} {b : Bool} {f : State → State} (hr : s.sb.inReset = false) (hb : b = true) :
    act s b f = .next (f s) := by simp [act, hr, hb]

/-- An event that is not due, or any in cold reset, leaves the state. -/
theorem act_idle {s : State} {b : Bool} {f : State → State} (h : s.sb.inReset = true ∨ b = false) :
    act s b f = .next s := by
  rcases h with h | h <;> simp [act, h]

/-- What an event answers. -/
theorem act_cases {s t : State} {b : Bool} {f : State → State} (h : act s b f = .next t) :
    t = s ∨ (s.sb.inReset = false ∧ b = true ∧ t = f s) := by
  unfold act at h
  by_cases hc : (!s.sb.inReset && b) = true
  · simp only [hc, if_true] at h
    simp only [Bool.and_eq_true, Bool.not_eq_true'] at hc
    exact .inr ⟨hc.1, hc.2, by injection h with h; exact h.symm⟩
  · simp only [hc] at h
    left; injection h with h; exact h.symm

/-- An event of a part that exists. -/
theorem actAt_next {what : String} {n i : Nat} {s : State} {b : Bool} {f : State → State} (hi : i < n)
    (hr : s.sb.inReset = false) (hb : b = true) : actAt what n i s b f = .next (f s) := by
  simp [actAt, hi, act, hr, hb]

theorem actAt_cases {what : String} {n i : Nat} {s t : State} {b : Bool} {f : State → State}
    (h : actAt what n i s b f = .next t) :
    t = s ∨ (i < n ∧ s.sb.inReset = false ∧ b = true ∧ t = f s) := by
  unfold actAt at h
  split at h
  · rename_i hi
    rcases act_cases h with h | h
    · exact .inl h
    · exact .inr ⟨hi, h⟩
  · cases h

/-- A write by a path that may write the offset. -/
theorem State.gate_open {s : State} {p : Path} {off : Nat} {f : State → State}
    (h : s.mayWrite p off = true) : s.gate p off f = f s := by simp [State.gate, h]

/-- A write by a path that may not: counted or refused where R38 and R430 say so, else nothing. -/
theorem State.gate_shut {s : State} {p : Path} {off : Nat} {f : State → State}
    (h : s.mayWrite p off = false) :
    s.gate p off f = s ∨ s.gate p off f = s.countIgnored off ∨ s.gate p off f = s.smbRefuse off := by
  unfold State.gate
  simp only [h, Bool.false_eq_true, if_false]
  split
  · exact .inl rfl
  · cases p
    · dsimp only
      split
      · exact .inr (.inl rfl)
      · exact .inl rfl
    · exact .inr (.inr rfl)
    · exact .inl rfl

/-- A row that writes RW fields, by a path that no later one has overtaken. -/
theorem State.gateRw_open {s : State} {p : Path} {off : Nat} {old : Word} {f : State → State}
    (h : s.mayWrite p off = true) (hb : s.before p off = none) :
    s.gateRw p off old f = (f s).noteWrite p off old := by simp [State.gateRw, State.gate_open h, hb]

theorem writeAct_next {s : State} {p : Path} {off : Nat} {f : State → State}
    (hr : s.sb.inReset = false) (hw : s.mayWrite p off = true) : writeAct s p off f = .next (f s) := by
  simp [writeAct, act, hr, State.gate, hw]

theorem regionWrite_next {s : State} {p : Path} {r off : Nat} {f : State → State} (hi : isRegion r = true)
    (hr : s.sb.inReset = false) (hw : s.mayWrite p (regionPage r + off) = true)
    (hl : (s.region r).racg.refLost = false) : regionWrite s p r off f = .next (f s) := by
  simp [regionWrite, act, hi, hr, State.gate, hw, hl]

theorem regionWriteRw_next {s : State} {p : Path} {r off : Nat} {old : Word} {f : State → State}
    (hi : isRegion r = true) (hr : s.sb.inReset = false) (hw : s.mayWrite p (regionPage r + off) = true)
    (hb : s.before p (regionPage r + off) = none) (hl : (s.region r).racg.refLost = false) :
    regionWriteRw s p r off old f = .next ((f s).noteWrite p (regionPage r + off) old) := by
  simp [regionWriteRw, act, hi, hr, State.gateRw_open hw hb, hl]

end Sys2Proof.Machine
end

