-- ==== Sys2Proof/Laws/Table.lean ====
section
/-! SUPPORT. Tables and memories: reading after writing, and the canonical form every write keeps. -/

namespace Sys2Proof.Machine

open Sys2Proof

@[simp] theorem tget_nil {α : Type} (d : α) (i : Nat) : tget d [] i = d := rfl

/-- Reading after writing. -/
@[simp] theorem tget_tput {α : Type} (d : α) (t : Tbl α) (i j : Nat) (a : α) :
    tget d (tput t i a) j = if j = i then a else tget d t j := by
  induction t with
  | nil => simp [tput, tget]
  | cons e t ih =>
    obtain ⟨k, b⟩ := e
    simp only [tput]
    split
    · simp [tget]
    · split
      · rename_i h; subst h
        by_cases hj : j = i <;> simp [tget, hj]
      · rename_i h1 h2
        by_cases hj : j = k
        · subst hj; simp [tget, Ne.symm h2]
        · simp [tget, hj, ih]

theorem tget_of_lt_head {α : Type} (d : α) (t : Tbl α) (i : Nat) (ht : tsorted t = true)
    (hh : ∀ e, t.head? = some e → i < e.1) : tget d t i = d := by
  induction t with
  | nil => rfl
  | cons e t ih =>
    obtain ⟨k, b⟩ := e
    have hk : i < k := hh (k, b) rfl
    have hne : i ≠ k := by omega
    simp only [tget, hne, if_false]
    cases t with
    | nil => rfl
    | cons e' t' =>
      obtain ⟨k', b'⟩ := e'
      simp only [tsorted, Bool.and_eq_true, decide_eq_true_eq] at ht
      apply ih ht.2
      intro e he
      simp at he
      subst he
      simp
      omega

/-- Reading after removing, in a sorted table. -/
theorem tget_tdel {α : Type} (d : α) (t : Tbl α) (i j : Nat) (ht : tsorted t = true) :
    tget d (tdel t i) j = if j = i then d else tget d t j := by
  induction t with
  | nil => simp [tdel]
  | cons e t ih =>
    obtain ⟨k, b⟩ := e
    have htail : tsorted t = true := by
      cases t with
      | nil => rfl
      | cons e' t' =>
        obtain ⟨k', b'⟩ := e'
        simp only [tsorted, Bool.and_eq_true] at ht
        exact ht.2
    simp only [tdel]
    split
    · rename_i h; subst h
      by_cases hj : j = i
      · subst hj
        simp only [if_true]
        apply tget_of_lt_head d t j htail
        intro e he
        cases t with
        | nil => simp at he
        | cons e' t' =>
          obtain ⟨k', b'⟩ := e'
          simp at he; subst he
          simp only [tsorted, Bool.and_eq_true, decide_eq_true_eq] at ht
          exact ht.1
      · simp [tget, hj]
    · rename_i h
      by_cases hj : j = k
      · subst hj; simp [tget, Ne.symm h]
      · simp [tget, hj, ih htail]

theorem tsorted_cons {α : Type} (k : Nat) (b : α) (t : Tbl α) (ht : tsorted t = true)
    (hh : ∀ e, t.head? = some e → k < e.1) : tsorted ((k, b) :: t) = true := by
  cases t with
  | nil => rfl
  | cons e' t' =>
    obtain ⟨k', b'⟩ := e'
    simp only [tsorted, Bool.and_eq_true, decide_eq_true_eq]
    exact ⟨hh _ rfl, ht⟩

theorem tsorted_tail {α : Type} (e : Nat × α) (t : Tbl α) (h : tsorted (e :: t) = true) :
    tsorted t = true := by
  cases t with
  | nil => rfl
  | cons e' t' =>
    obtain ⟨k, b⟩ := e
    obtain ⟨k', b'⟩ := e'
    simp only [tsorted, Bool.and_eq_true] at h
    exact h.2

theorem tsorted_head {α : Type} (k : Nat) (b : α) (t : Tbl α) (h : tsorted ((k, b) :: t) = true) :
    ∀ e, t.head? = some e → k < e.1 := by
  intro e he
  cases t with
  | nil => simp at he
  | cons e' t' =>
    obtain ⟨k', b'⟩ := e'
    simp at he; subst he
    simp only [tsorted, Bool.and_eq_true, decide_eq_true_eq] at h
    exact h.1

/-- The first index of a table after a write. -/
theorem tput_head {α : Type} (t : Tbl α) (i : Nat) (a : α) (m : Nat) (hm : m < i)
    (hh : ∀ e, t.head? = some e → m < e.1) : ∀ e, (tput t i a).head? = some e → m < e.1 := by
  cases t with
  | nil => intro e he; simp [tput] at he; subst he; exact hm
  | cons e' t' =>
    obtain ⟨k', b'⟩ := e'
    have hk : m < k' := hh _ rfl
    intro e he
    simp only [tput] at he
    split at he
    · simp at he; subst he; exact hm
    · split at he
      · simp at he; subst he; exact hm
      · simp at he; subst he; exact hk

/-- A write keeps a table sorted. -/
theorem tsorted_tput {α : Type} (t : Tbl α) (i : Nat) (a : α) (h : tsorted t = true) :
    tsorted (tput t i a) = true := by
  induction t with
  | nil => rfl
  | cons e t ih =>
    obtain ⟨k, b⟩ := e
    simp only [tput]
    split
    · rename_i hlt
      simp only [tsorted, Bool.and_eq_true, decide_eq_true_eq]
      exact ⟨hlt, h⟩
    · split
      · rename_i he; subst he
        exact tsorted_cons _ _ _ (tsorted_tail _ _ h) (tsorted_head _ _ _ h)
      · exact tsorted_cons _ _ _ (ih (tsorted_tail _ _ h))
          (tput_head _ _ _ _ (by omega) (tsorted_head _ _ _ h))

/-- A removal keeps a table sorted. -/
theorem tsorted_tdel {α : Type} (t : Tbl α) (i : Nat) (h : tsorted t = true) :
    tsorted (tdel t i) = true := by
  induction t with
  | nil => rfl
  | cons e t ih =>
    obtain ⟨k, b⟩ := e
    have hd := tsorted_head _ _ _ h
    have ht := tsorted_tail _ _ h
    simp only [tdel]
    split
    · exact ht
    · refine tsorted_cons _ _ _ (ih ht) ?_
      intro e he
      cases t with
      | nil => simp [tdel] at he
      | cons e' t' =>
        obtain ⟨k', b'⟩ := e'
        have hk : k < k' := hd _ rfl
        simp only [tdel] at he
        split at he
        · cases t' with
          | nil => simp at he
          | cons e'' t'' =>
            have := tsorted_head _ _ _ ht e he
            simp at he
            omega
        · simp at he; subst he; exact hk

theorem all_tput {α : Type} (p : α → Bool) (t : Tbl α) (i : Nat) (a : α) (ha : p a = true)
    (h : t.all (fun e => p e.2) = true) : (tput t i a).all (fun e => p e.2) = true := by
  induction t with
  | nil => simp [tput, ha]
  | cons e t ih =>
    obtain ⟨k, b⟩ := e
    simp only [List.all_cons, Bool.and_eq_true] at h
    simp only [tput]
    split
    · simp only [List.all_cons, Bool.and_eq_true]; exact ⟨ha, h⟩
    · split
      · simp only [List.all_cons, Bool.and_eq_true]; exact ⟨ha, h.2⟩
      · simp only [List.all_cons, Bool.and_eq_true]; exact ⟨h.1, ih h.2⟩

theorem all_tdel {α : Type} (p : α → Bool) (t : Tbl α) (i : Nat)
    (h : t.all (fun e => p e.2) = true) : (tdel t i).all (fun e => p e.2) = true := by
  induction t with
  | nil => simp [tdel]
  | cons e t ih =>
    obtain ⟨k, b⟩ := e
    simp only [List.all_cons, Bool.and_eq_true] at h
    simp only [tdel]
    split
    · exact h.2
    · simp only [List.all_cons, Bool.and_eq_true]; exact ⟨h.1, ih h.2⟩

/-- Every write of a memory keeps its canonical form. -/
theorem Memory.wf_mput {α : Type} [DecidableEq α] (d : α) (t : Tbl α) (i : Nat) (a : α)
    (h : Memory.wf d t = true) : Memory.wf d (mput d t i a) = true := by
  simp only [Memory.wf, Bool.and_eq_true] at h ⊢
  simp only [mput]
  split
  · exact ⟨tsorted_tdel _ _ h.1, all_tdel (fun x => decide (x ≠ d)) _ _ h.2⟩
  · rename_i ha
    exact ⟨tsorted_tput _ _ _ h.1, all_tput (fun x => decide (x ≠ d)) _ _ _ (by simpa using ha) h.2⟩

/-- Reading a memory after a write. -/
theorem tget_mput {α : Type} [DecidableEq α] (d : α) (t : Tbl α) (i j : Nat) (a : α)
    (h : tsorted t = true) : tget d (mput d t i a) j = if j = i then a else tget d t j := by
  simp only [mput]
  split
  · rename_i ha; subst ha; exact tget_tdel _ _ _ _ h
  · exact tget_tput _ _ _ _ _

@[simp] theorem Memory.wf_nil {α : Type} [DecidableEq α] (d : α) : Memory.wf d ([] : Tbl α) = true := rfl

/-- A word written keeps the form. -/
theorem Memory.wf_writeWord (m : List Host.Cell) (a : Nat) (v : Word) (h : Memory.wf 0 m = true) :
    Memory.wf 0 (writeWord m a v) = true := by
  simp only [writeWord]
  repeat' apply Memory.wf_mput
  exact h

/-- A carriage written keeps the form. -/
theorem Memory.wf_writeDword (m : List Host.Cell) (a : Nat) (v : DWord) (h : Memory.wf 0 m = true) :
    Memory.wf 0 (writeDword m a v) = true := by
  simp only [writeDword]
  repeat' apply Memory.wf_writeWord
  exact h

end Sys2Proof.Machine
end

