-- ==== Sys2Proof/Laws/State.lean ====
section
/-! SUPPORT. The accessors of the state: what each update leaves as it was, and what it makes readable. -/

namespace Sys2Proof.Machine

open Sys2Proof

@[simp] theorem State.setRegion_frame (s : State) (r : Nat) (g : Region) :
    (s.setRegion r g).pending = s.pending ∧ (s.setRegion r g).now = s.now ∧
    (s.setRegion r g).freeIdx = s.freeIdx ∧ (s.setRegion r g).tick = s.tick ∧
    (s.setRegion r g).glob = s.glob ∧ (s.setRegion r g).ref = s.ref ∧ (s.setRegion r g).fc = s.fc ∧
    (s.setRegion r g).doors = s.doors ∧ (s.setRegion r g).cpls = s.cpls ∧ (s.setRegion r g).meas = s.meas ∧
    (s.setRegion r g).pool = s.pool ∧ (s.setRegion r g).gt = s.gt ∧ (s.setRegion r g).hz = s.hz ∧
    (s.setRegion r g).seq = s.seq ∧ (s.setRegion r g).cmd = s.cmd ∧ (s.setRegion r g).island = s.island ∧
    (s.setRegion r g).mb = s.mb ∧ (s.setRegion r g).sb = s.sb ∧ (s.setRegion r g).lc = s.lc ∧
    (s.setRegion r g).out = s.out := by
  simp [State.setRegion]

@[simp] theorem State.updRegion_frame (s : State) (r : Nat) (f : Region → Region) :
    (s.updRegion r f).pending = s.pending ∧ (s.updRegion r f).now = s.now ∧
    (s.updRegion r f).freeIdx = s.freeIdx ∧ (s.updRegion r f).tick = s.tick ∧
    (s.updRegion r f).glob = s.glob ∧ (s.updRegion r f).ref = s.ref ∧ (s.updRegion r f).fc = s.fc ∧
    (s.updRegion r f).doors = s.doors ∧ (s.updRegion r f).cpls = s.cpls ∧ (s.updRegion r f).meas = s.meas ∧
    (s.updRegion r f).pool = s.pool ∧ (s.updRegion r f).gt = s.gt ∧ (s.updRegion r f).hz = s.hz ∧
    (s.updRegion r f).seq = s.seq ∧ (s.updRegion r f).cmd = s.cmd ∧ (s.updRegion r f).island = s.island ∧
    (s.updRegion r f).mb = s.mb ∧ (s.updRegion r f).sb = s.sb ∧ (s.updRegion r f).lc = s.lc ∧
    (s.updRegion r f).out = s.out := by
  simp [State.updRegion]

@[simp] theorem State.setSlot_frame (s : State) (i : Nat) (d : DoorSlot) :
    (s.setSlot i d).pending = s.pending ∧ (s.setSlot i d).now = s.now ∧ (s.setSlot i d).freeIdx = s.freeIdx ∧
    (s.setSlot i d).tick = s.tick ∧ (s.setSlot i d).glob = s.glob ∧ (s.setSlot i d).ref = s.ref ∧
    (s.setSlot i d).regions = s.regions ∧ (s.setSlot i d).fc = s.fc ∧ (s.setSlot i d).cpls = s.cpls ∧
    (s.setSlot i d).meas = s.meas ∧ (s.setSlot i d).pool = s.pool ∧ (s.setSlot i d).gt = s.gt ∧
    (s.setSlot i d).hz = s.hz ∧ (s.setSlot i d).seq = s.seq ∧ (s.setSlot i d).cmd = s.cmd ∧
    (s.setSlot i d).island = s.island ∧ (s.setSlot i d).mb = s.mb ∧ (s.setSlot i d).sb = s.sb ∧
    (s.setSlot i d).lc = s.lc ∧ (s.setSlot i d).out = s.out := by
  simp [State.setSlot]

@[simp] theorem State.updSlot_frame (s : State) (i : Nat) (f : DoorSlot → DoorSlot) :
    (s.updSlot i f).pending = s.pending ∧ (s.updSlot i f).now = s.now ∧ (s.updSlot i f).freeIdx = s.freeIdx ∧
    (s.updSlot i f).tick = s.tick ∧ (s.updSlot i f).glob = s.glob ∧ (s.updSlot i f).ref = s.ref ∧
    (s.updSlot i f).regions = s.regions ∧ (s.updSlot i f).fc = s.fc ∧ (s.updSlot i f).cpls = s.cpls ∧
    (s.updSlot i f).meas = s.meas ∧ (s.updSlot i f).pool = s.pool ∧ (s.updSlot i f).gt = s.gt ∧
    (s.updSlot i f).hz = s.hz ∧ (s.updSlot i f).seq = s.seq ∧ (s.updSlot i f).cmd = s.cmd ∧
    (s.updSlot i f).island = s.island ∧ (s.updSlot i f).mb = s.mb ∧ (s.updSlot i f).sb = s.sb ∧
    (s.updSlot i f).lc = s.lc ∧ (s.updSlot i f).out = s.out := by
  simp [State.updSlot]

@[simp] theorem State.setCpl_frame (s : State) (i : Nat) (c : Coupler) :
    (s.setCpl i c).pending = s.pending ∧ (s.setCpl i c).now = s.now ∧ (s.setCpl i c).freeIdx = s.freeIdx ∧
    (s.setCpl i c).tick = s.tick ∧ (s.setCpl i c).glob = s.glob ∧ (s.setCpl i c).ref = s.ref ∧
    (s.setCpl i c).regions = s.regions ∧ (s.setCpl i c).fc = s.fc ∧ (s.setCpl i c).doors = s.doors ∧
    (s.setCpl i c).meas = s.meas ∧ (s.setCpl i c).pool = s.pool ∧ (s.setCpl i c).gt = s.gt ∧
    (s.setCpl i c).hz = s.hz ∧ (s.setCpl i c).seq = s.seq ∧ (s.setCpl i c).cmd = s.cmd ∧
    (s.setCpl i c).island = s.island ∧ (s.setCpl i c).mb = s.mb ∧ (s.setCpl i c).sb = s.sb ∧
    (s.setCpl i c).lc = s.lc ∧ (s.setCpl i c).out = s.out := by
  simp [State.setCpl]

@[simp] theorem State.updCpl_frame (s : State) (i : Nat) (f : Coupler → Coupler) :
    (s.updCpl i f).pending = s.pending ∧ (s.updCpl i f).now = s.now ∧ (s.updCpl i f).freeIdx = s.freeIdx ∧
    (s.updCpl i f).tick = s.tick ∧ (s.updCpl i f).glob = s.glob ∧ (s.updCpl i f).ref = s.ref ∧
    (s.updCpl i f).regions = s.regions ∧ (s.updCpl i f).fc = s.fc ∧ (s.updCpl i f).doors = s.doors ∧
    (s.updCpl i f).meas = s.meas ∧ (s.updCpl i f).pool = s.pool ∧ (s.updCpl i f).gt = s.gt ∧
    (s.updCpl i f).hz = s.hz ∧ (s.updCpl i f).seq = s.seq ∧ (s.updCpl i f).cmd = s.cmd ∧
    (s.updCpl i f).island = s.island ∧ (s.updCpl i f).mb = s.mb ∧ (s.updCpl i f).sb = s.sb ∧
    (s.updCpl i f).lc = s.lc ∧ (s.updCpl i f).out = s.out := by
  simp [State.updCpl]

@[simp] theorem State.setChan_frame (s : State) (c : Nat) (m : MeasChan) :
    (s.setChan c m).pending = s.pending ∧ (s.setChan c m).now = s.now ∧ (s.setChan c m).freeIdx = s.freeIdx ∧
    (s.setChan c m).tick = s.tick ∧ (s.setChan c m).glob = s.glob ∧ (s.setChan c m).ref = s.ref ∧
    (s.setChan c m).regions = s.regions ∧ (s.setChan c m).fc = s.fc ∧ (s.setChan c m).doors = s.doors ∧
    (s.setChan c m).cpls = s.cpls ∧ (s.setChan c m).pool = s.pool ∧ (s.setChan c m).gt = s.gt ∧
    (s.setChan c m).hz = s.hz ∧ (s.setChan c m).seq = s.seq ∧ (s.setChan c m).cmd = s.cmd ∧
    (s.setChan c m).island = s.island ∧ (s.setChan c m).mb = s.mb ∧ (s.setChan c m).sb = s.sb ∧
    (s.setChan c m).lc = s.lc ∧ (s.setChan c m).out = s.out := by
  simp [State.setChan]

@[simp] theorem State.updChan_frame (s : State) (c : Nat) (f : MeasChan → MeasChan) :
    (s.updChan c f).pending = s.pending ∧ (s.updChan c f).now = s.now ∧ (s.updChan c f).freeIdx = s.freeIdx ∧
    (s.updChan c f).tick = s.tick ∧ (s.updChan c f).glob = s.glob ∧ (s.updChan c f).ref = s.ref ∧
    (s.updChan c f).regions = s.regions ∧ (s.updChan c f).fc = s.fc ∧ (s.updChan c f).doors = s.doors ∧
    (s.updChan c f).cpls = s.cpls ∧ (s.updChan c f).pool = s.pool ∧ (s.updChan c f).gt = s.gt ∧
    (s.updChan c f).hz = s.hz ∧ (s.updChan c f).seq = s.seq ∧ (s.updChan c f).cmd = s.cmd ∧
    (s.updChan c f).island = s.island ∧ (s.updChan c f).mb = s.mb ∧ (s.updChan c f).sb = s.sb ∧
    (s.updChan c f).lc = s.lc ∧ (s.updChan c f).out = s.out := by
  simp [State.updChan]

@[simp] theorem State.setQueue_frame (s : State) (q : Nat) (x : Queue) :
    (s.setQueue q x).pending = s.pending ∧ (s.setQueue q x).now = s.now ∧
    (s.setQueue q x).freeIdx = s.freeIdx ∧ (s.setQueue q x).tick = s.tick ∧ (s.setQueue q x).glob = s.glob ∧
    (s.setQueue q x).ref = s.ref ∧ (s.setQueue q x).regions = s.regions ∧ (s.setQueue q x).fc = s.fc ∧
    (s.setQueue q x).doors = s.doors ∧ (s.setQueue q x).cpls = s.cpls ∧ (s.setQueue q x).meas = s.meas ∧
    (s.setQueue q x).gt = s.gt ∧ (s.setQueue q x).hz = s.hz ∧ (s.setQueue q x).seq = s.seq ∧
    (s.setQueue q x).cmd = s.cmd ∧ (s.setQueue q x).island = s.island ∧ (s.setQueue q x).mb = s.mb ∧
    (s.setQueue q x).sb = s.sb ∧ (s.setQueue q x).lc = s.lc ∧ (s.setQueue q x).out = s.out := by
  simp [State.setQueue]

@[simp] theorem State.updQueue_frame (s : State) (q : Nat) (f : Queue → Queue) :
    (s.updQueue q f).pending = s.pending ∧ (s.updQueue q f).now = s.now ∧
    (s.updQueue q f).freeIdx = s.freeIdx ∧ (s.updQueue q f).tick = s.tick ∧ (s.updQueue q f).glob = s.glob ∧
    (s.updQueue q f).ref = s.ref ∧ (s.updQueue q f).regions = s.regions ∧ (s.updQueue q f).fc = s.fc ∧
    (s.updQueue q f).doors = s.doors ∧ (s.updQueue q f).cpls = s.cpls ∧ (s.updQueue q f).meas = s.meas ∧
    (s.updQueue q f).gt = s.gt ∧ (s.updQueue q f).hz = s.hz ∧ (s.updQueue q f).seq = s.seq ∧
    (s.updQueue q f).cmd = s.cmd ∧ (s.updQueue q f).island = s.island ∧ (s.updQueue q f).mb = s.mb ∧
    (s.updQueue q f).sb = s.sb ∧ (s.updQueue q f).lc = s.lc ∧ (s.updQueue q f).out = s.out := by
  simp [State.updQueue]

@[simp] theorem State.setAvs_frame (s : State) (n : Nat) (a : AvsChan) :
    (s.setAvs n a).pending = s.pending ∧ (s.setAvs n a).now = s.now ∧ (s.setAvs n a).freeIdx = s.freeIdx ∧
    (s.setAvs n a).tick = s.tick ∧ (s.setAvs n a).glob = s.glob ∧ (s.setAvs n a).ref = s.ref ∧
    (s.setAvs n a).regions = s.regions ∧ (s.setAvs n a).doors = s.doors ∧ (s.setAvs n a).cpls = s.cpls ∧
    (s.setAvs n a).meas = s.meas ∧ (s.setAvs n a).pool = s.pool ∧ (s.setAvs n a).gt = s.gt ∧
    (s.setAvs n a).hz = s.hz ∧ (s.setAvs n a).seq = s.seq ∧ (s.setAvs n a).cmd = s.cmd ∧
    (s.setAvs n a).island = s.island ∧ (s.setAvs n a).mb = s.mb ∧ (s.setAvs n a).sb = s.sb ∧
    (s.setAvs n a).lc = s.lc ∧ (s.setAvs n a).out = s.out := by
  simp [State.setAvs]

@[simp] theorem State.updAvs_frame (s : State) (n : Nat) (f : AvsChan → AvsChan) :
    (s.updAvs n f).pending = s.pending ∧ (s.updAvs n f).now = s.now ∧ (s.updAvs n f).freeIdx = s.freeIdx ∧
    (s.updAvs n f).tick = s.tick ∧ (s.updAvs n f).glob = s.glob ∧ (s.updAvs n f).ref = s.ref ∧
    (s.updAvs n f).regions = s.regions ∧ (s.updAvs n f).doors = s.doors ∧ (s.updAvs n f).cpls = s.cpls ∧
    (s.updAvs n f).meas = s.meas ∧ (s.updAvs n f).pool = s.pool ∧ (s.updAvs n f).gt = s.gt ∧
    (s.updAvs n f).hz = s.hz ∧ (s.updAvs n f).seq = s.seq ∧ (s.updAvs n f).cmd = s.cmd ∧
    (s.updAvs n f).island = s.island ∧ (s.updAvs n f).mb = s.mb ∧ (s.updAvs n f).sb = s.sb ∧
    (s.updAvs n f).lc = s.lc ∧ (s.updAvs n f).out = s.out := by
  simp [State.updAvs]

@[simp] theorem State.setLink_frame (s : State) (l : Nat) (x : GtLink) :
    (s.setLink l x).pending = s.pending ∧ (s.setLink l x).now = s.now ∧ (s.setLink l x).freeIdx = s.freeIdx ∧
    (s.setLink l x).tick = s.tick ∧ (s.setLink l x).glob = s.glob ∧ (s.setLink l x).ref = s.ref ∧
    (s.setLink l x).regions = s.regions ∧ (s.setLink l x).fc = s.fc ∧ (s.setLink l x).doors = s.doors ∧
    (s.setLink l x).cpls = s.cpls ∧ (s.setLink l x).meas = s.meas ∧ (s.setLink l x).pool = s.pool ∧
    (s.setLink l x).hz = s.hz ∧ (s.setLink l x).seq = s.seq ∧ (s.setLink l x).cmd = s.cmd ∧
    (s.setLink l x).island = s.island ∧ (s.setLink l x).mb = s.mb ∧ (s.setLink l x).sb = s.sb ∧
    (s.setLink l x).lc = s.lc ∧ (s.setLink l x).out = s.out := by
  simp [State.setLink]

@[simp] theorem State.updLink_frame (s : State) (l : Nat) (f : GtLink → GtLink) :
    (s.updLink l f).pending = s.pending ∧ (s.updLink l f).now = s.now ∧ (s.updLink l f).freeIdx = s.freeIdx ∧
    (s.updLink l f).tick = s.tick ∧ (s.updLink l f).glob = s.glob ∧ (s.updLink l f).ref = s.ref ∧
    (s.updLink l f).regions = s.regions ∧ (s.updLink l f).fc = s.fc ∧ (s.updLink l f).doors = s.doors ∧
    (s.updLink l f).cpls = s.cpls ∧ (s.updLink l f).meas = s.meas ∧ (s.updLink l f).pool = s.pool ∧
    (s.updLink l f).hz = s.hz ∧ (s.updLink l f).seq = s.seq ∧ (s.updLink l f).cmd = s.cmd ∧
    (s.updLink l f).island = s.island ∧ (s.updLink l f).mb = s.mb ∧ (s.updLink l f).sb = s.sb ∧
    (s.updLink l f).lc = s.lc ∧ (s.updLink l f).out = s.out := by
  simp [State.updLink]

@[simp] theorem State.setHzr_frame (s : State) (r : Nat) (x : HzRegion) :
    (s.setHzr r x).pending = s.pending ∧ (s.setHzr r x).now = s.now ∧ (s.setHzr r x).freeIdx = s.freeIdx ∧
    (s.setHzr r x).tick = s.tick ∧ (s.setHzr r x).glob = s.glob ∧ (s.setHzr r x).ref = s.ref ∧
    (s.setHzr r x).regions = s.regions ∧ (s.setHzr r x).fc = s.fc ∧ (s.setHzr r x).doors = s.doors ∧
    (s.setHzr r x).cpls = s.cpls ∧ (s.setHzr r x).meas = s.meas ∧ (s.setHzr r x).pool = s.pool ∧
    (s.setHzr r x).gt = s.gt ∧ (s.setHzr r x).seq = s.seq ∧ (s.setHzr r x).cmd = s.cmd ∧
    (s.setHzr r x).island = s.island ∧ (s.setHzr r x).mb = s.mb ∧ (s.setHzr r x).sb = s.sb ∧
    (s.setHzr r x).lc = s.lc ∧ (s.setHzr r x).out = s.out := by
  simp [State.setHzr]

@[simp] theorem State.updHzr_frame (s : State) (r : Nat) (f : HzRegion → HzRegion) :
    (s.updHzr r f).pending = s.pending ∧ (s.updHzr r f).now = s.now ∧ (s.updHzr r f).freeIdx = s.freeIdx ∧
    (s.updHzr r f).tick = s.tick ∧ (s.updHzr r f).glob = s.glob ∧ (s.updHzr r f).ref = s.ref ∧
    (s.updHzr r f).regions = s.regions ∧ (s.updHzr r f).fc = s.fc ∧ (s.updHzr r f).doors = s.doors ∧
    (s.updHzr r f).cpls = s.cpls ∧ (s.updHzr r f).meas = s.meas ∧ (s.updHzr r f).pool = s.pool ∧
    (s.updHzr r f).gt = s.gt ∧ (s.updHzr r f).seq = s.seq ∧ (s.updHzr r f).cmd = s.cmd ∧
    (s.updHzr r f).island = s.island ∧ (s.updHzr r f).mb = s.mb ∧ (s.updHzr r f).sb = s.sb ∧
    (s.updHzr r f).lc = s.lc ∧ (s.updHzr r f).out = s.out := by
  simp [State.updHzr]

@[simp] theorem State.setLmap_frame (s : State) (l : Nat) (x : LmapEntry) :
    (s.setLmap l x).pending = s.pending ∧ (s.setLmap l x).now = s.now ∧ (s.setLmap l x).freeIdx = s.freeIdx ∧
    (s.setLmap l x).tick = s.tick ∧ (s.setLmap l x).glob = s.glob ∧ (s.setLmap l x).ref = s.ref ∧
    (s.setLmap l x).regions = s.regions ∧ (s.setLmap l x).fc = s.fc ∧ (s.setLmap l x).doors = s.doors ∧
    (s.setLmap l x).cpls = s.cpls ∧ (s.setLmap l x).meas = s.meas ∧ (s.setLmap l x).pool = s.pool ∧
    (s.setLmap l x).gt = s.gt ∧ (s.setLmap l x).seq = s.seq ∧ (s.setLmap l x).cmd = s.cmd ∧
    (s.setLmap l x).island = s.island ∧ (s.setLmap l x).mb = s.mb ∧ (s.setLmap l x).sb = s.sb ∧
    (s.setLmap l x).lc = s.lc ∧ (s.setLmap l x).out = s.out := by
  simp [State.setLmap]

@[simp] theorem State.setTask_frame (s : State) (t : Nat) (x : Task) :
    (s.setTask t x).pending = s.pending ∧ (s.setTask t x).now = s.now ∧ (s.setTask t x).freeIdx = s.freeIdx ∧
    (s.setTask t x).tick = s.tick ∧ (s.setTask t x).glob = s.glob ∧ (s.setTask t x).ref = s.ref ∧
    (s.setTask t x).regions = s.regions ∧ (s.setTask t x).fc = s.fc ∧ (s.setTask t x).doors = s.doors ∧
    (s.setTask t x).cpls = s.cpls ∧ (s.setTask t x).meas = s.meas ∧ (s.setTask t x).pool = s.pool ∧
    (s.setTask t x).gt = s.gt ∧ (s.setTask t x).hz = s.hz ∧ (s.setTask t x).cmd = s.cmd ∧
    (s.setTask t x).island = s.island ∧ (s.setTask t x).mb = s.mb ∧ (s.setTask t x).sb = s.sb ∧
    (s.setTask t x).lc = s.lc ∧ (s.setTask t x).out = s.out := by
  simp [State.setTask]

@[simp] theorem State.updTask_frame (s : State) (t : Nat) (f : Task → Task) :
    (s.updTask t f).pending = s.pending ∧ (s.updTask t f).now = s.now ∧ (s.updTask t f).freeIdx = s.freeIdx ∧
    (s.updTask t f).tick = s.tick ∧ (s.updTask t f).glob = s.glob ∧ (s.updTask t f).ref = s.ref ∧
    (s.updTask t f).regions = s.regions ∧ (s.updTask t f).fc = s.fc ∧ (s.updTask t f).doors = s.doors ∧
    (s.updTask t f).cpls = s.cpls ∧ (s.updTask t f).meas = s.meas ∧ (s.updTask t f).pool = s.pool ∧
    (s.updTask t f).gt = s.gt ∧ (s.updTask t f).hz = s.hz ∧ (s.updTask t f).cmd = s.cmd ∧
    (s.updTask t f).island = s.island ∧ (s.updTask t f).mb = s.mb ∧ (s.updTask t f).sb = s.sb ∧
    (s.updTask t f).lc = s.lc ∧ (s.updTask t f).out = s.out := by
  simp [State.updTask]

@[simp] theorem State.setMbSlot_frame (s : State) (k : Nat) (x : MbSlot) :
    (s.setMbSlot k x).pending = s.pending ∧ (s.setMbSlot k x).now = s.now ∧
    (s.setMbSlot k x).freeIdx = s.freeIdx ∧ (s.setMbSlot k x).tick = s.tick ∧
    (s.setMbSlot k x).glob = s.glob ∧ (s.setMbSlot k x).ref = s.ref ∧ (s.setMbSlot k x).regions = s.regions ∧
    (s.setMbSlot k x).fc = s.fc ∧ (s.setMbSlot k x).doors = s.doors ∧ (s.setMbSlot k x).cpls = s.cpls ∧
    (s.setMbSlot k x).meas = s.meas ∧ (s.setMbSlot k x).pool = s.pool ∧ (s.setMbSlot k x).gt = s.gt ∧
    (s.setMbSlot k x).hz = s.hz ∧ (s.setMbSlot k x).seq = s.seq ∧ (s.setMbSlot k x).cmd = s.cmd ∧
    (s.setMbSlot k x).island = s.island ∧ (s.setMbSlot k x).sb = s.sb ∧ (s.setMbSlot k x).lc = s.lc ∧
    (s.setMbSlot k x).out = s.out := by
  simp [State.setMbSlot]

@[simp] theorem State.fresh_frame (s : State) :
    (s.fresh).pending = s.pending ∧ (s.fresh).now = s.now ∧ (s.fresh).tick = s.tick ∧
    (s.fresh).glob = s.glob ∧ (s.fresh).ref = s.ref ∧ (s.fresh).regions = s.regions ∧ (s.fresh).fc = s.fc ∧
    (s.fresh).doors = s.doors ∧ (s.fresh).cpls = s.cpls ∧ (s.fresh).meas = s.meas ∧ (s.fresh).pool = s.pool ∧
    (s.fresh).gt = s.gt ∧ (s.fresh).hz = s.hz ∧ (s.fresh).seq = s.seq ∧ (s.fresh).cmd = s.cmd ∧
    (s.fresh).island = s.island ∧ (s.fresh).mb = s.mb ∧ (s.fresh).sb = s.sb ∧ (s.fresh).lc = s.lc ∧
    (s.fresh).out = s.out := by
  simp [State.fresh]

@[simp] theorem State.setRegion_region (s : State) (i j : Nat) (x : Region) :
    (s.setRegion i x).region j = if j = i then x else s.region j := by
  simp only [State.setRegion, State.region, tget_tput]
  try (split <;> simp_all)

@[simp] theorem State.updRegion_region (s : State) (i j : Nat) (f : Region → Region) :
    (s.updRegion i f).region j = if j = i then f (s.region i) else s.region j := by
  simp [State.updRegion]

@[simp] theorem State.setSlot_slot (s : State) (i j : Nat) (x : DoorSlot) :
    (s.setSlot i x).slot j = if j = i then x else s.slot j := by
  simp only [State.setSlot, State.slot, tget_tput]
  try (split <;> simp_all)

@[simp] theorem State.updSlot_slot (s : State) (i j : Nat) (f : DoorSlot → DoorSlot) :
    (s.updSlot i f).slot j = if j = i then f (s.slot i) else s.slot j := by
  simp [State.updSlot]

@[simp] theorem State.setCpl_cpl (s : State) (i j : Nat) (x : Coupler) :
    (s.setCpl i x).cpl j = if j = i then x else s.cpl j := by
  simp only [State.setCpl, State.cpl, tget_tput]
  try (split <;> simp_all)

@[simp] theorem State.updCpl_cpl (s : State) (i j : Nat) (f : Coupler → Coupler) :
    (s.updCpl i f).cpl j = if j = i then f (s.cpl i) else s.cpl j := by
  simp [State.updCpl]

@[simp] theorem State.setChan_chan (s : State) (i j : Nat) (x : MeasChan) :
    (s.setChan i x).chan j = if j = i then x else s.chan j := by
  simp only [State.setChan, State.chan, tget_tput]
  try (split <;> simp_all)

@[simp] theorem State.updChan_chan (s : State) (i j : Nat) (f : MeasChan → MeasChan) :
    (s.updChan i f).chan j = if j = i then f (s.chan i) else s.chan j := by
  simp [State.updChan]

@[simp] theorem State.setQueue_queue (s : State) (i j : Nat) (x : Queue) :
    (s.setQueue i x).queue j = if j = i then x else s.queue j := by
  simp only [State.setQueue, State.queue, tget_tput]
  try (split <;> simp_all)

@[simp] theorem State.updQueue_queue (s : State) (i j : Nat) (f : Queue → Queue) :
    (s.updQueue i f).queue j = if j = i then f (s.queue i) else s.queue j := by
  simp [State.updQueue]

@[simp] theorem State.setAvs_avs (s : State) (i j : Nat) (x : AvsChan) :
    (s.setAvs i x).avs j = if j = i then x else s.avs j := by
  simp only [State.setAvs, State.avs, tget_tput]
  try (split <;> simp_all)

@[simp] theorem State.updAvs_avs (s : State) (i j : Nat) (f : AvsChan → AvsChan) :
    (s.updAvs i f).avs j = if j = i then f (s.avs i) else s.avs j := by
  simp [State.updAvs]

@[simp] theorem State.setLink_link (s : State) (i j : Nat) (x : GtLink) :
    (s.setLink i x).link j = if j = i then x else s.link j := by
  simp only [State.setLink, State.link, tget_tput]
  try (split <;> simp_all)

@[simp] theorem State.updLink_link (s : State) (i j : Nat) (f : GtLink → GtLink) :
    (s.updLink i f).link j = if j = i then f (s.link i) else s.link j := by
  simp [State.updLink]

@[simp] theorem State.setHzr_hzr (s : State) (i j : Nat) (x : HzRegion) :
    (s.setHzr i x).hzr j = if j = i then x else s.hzr j := by
  simp only [State.setHzr, State.hzr, tget_tput]
  try (split <;> simp_all)

@[simp] theorem State.updHzr_hzr (s : State) (i j : Nat) (f : HzRegion → HzRegion) :
    (s.updHzr i f).hzr j = if j = i then f (s.hzr i) else s.hzr j := by
  simp [State.updHzr]

@[simp] theorem State.setTask_task (s : State) (i j : Nat) (x : Task) :
    (s.setTask i x).task j = if j = i then x else s.task j := by
  simp only [State.setTask, State.task, tget_tput]
  try (split <;> simp_all)

@[simp] theorem State.updTask_task (s : State) (i j : Nat) (f : Task → Task) :
    (s.updTask i f).task j = if j = i then f (s.task i) else s.task j := by
  simp [State.updTask]

/-! ## The record of the die tick -/

@[simp] theorem State.mark_frame (s : State) (off : Nat) (bits : Word) :
    (s.mark off bits).pending = s.pending ∧ (s.mark off bits).now = s.now ∧
    (s.mark off bits).freeIdx = s.freeIdx ∧ (s.mark off bits).tick = s.tick ∧
    (s.mark off bits).glob = s.glob ∧ (s.mark off bits).ref = s.ref ∧ (s.mark off bits).regions = s.regions ∧
    (s.mark off bits).fc = s.fc ∧ (s.mark off bits).doors = s.doors ∧ (s.mark off bits).cpls = s.cpls ∧
    (s.mark off bits).meas = s.meas ∧ (s.mark off bits).pool = s.pool ∧ (s.mark off bits).gt = s.gt ∧
    (s.mark off bits).hz = s.hz ∧ (s.mark off bits).seq = s.seq ∧ (s.mark off bits).cmd = s.cmd ∧
    (s.mark off bits).island = s.island ∧ (s.mark off bits).mb = s.mb ∧ (s.mark off bits).sb = s.sb ∧
    (s.mark off bits).lc = s.lc ∧ (s.mark off bits).out = s.out := by
  unfold State.mark; split <;> simp

@[simp] theorem State.mark_reads (s : State) (off : Nat) (bits : Word) (x : Nat) :
    (s.mark off bits).region x = s.region x ∧ (s.mark off bits).slot x = s.slot x ∧
    (s.mark off bits).cpl x = s.cpl x ∧ (s.mark off bits).chan x = s.chan x ∧
    (s.mark off bits).queue x = s.queue x ∧ (s.mark off bits).avs x = s.avs x ∧
    (s.mark off bits).link x = s.link x ∧ (s.mark off bits).hzr x = s.hzr x ∧
    (s.mark off bits).task x = s.task x ∧ (s.mark off bits).mbSlot x = s.mbSlot x ∧
    (s.mark off bits).lmapAt x = s.lmapAt x := by
  simp [State.region, State.slot, State.cpl, State.chan, State.queue, State.avs, State.link, State.hzr, State.task, State.mbSlot, State.lmapAt]

@[simp] theorem State.lostNow_frame (s : State) (q d o : Nat) :
    (s.lostNow q d o).pending = s.pending ∧ (s.lostNow q d o).now = s.now ∧
    (s.lostNow q d o).freeIdx = s.freeIdx ∧ (s.lostNow q d o).tick = s.tick ∧
    (s.lostNow q d o).glob = s.glob ∧ (s.lostNow q d o).ref = s.ref ∧ (s.lostNow q d o).regions = s.regions ∧
    (s.lostNow q d o).fc = s.fc ∧ (s.lostNow q d o).doors = s.doors ∧ (s.lostNow q d o).cpls = s.cpls ∧
    (s.lostNow q d o).meas = s.meas ∧ (s.lostNow q d o).pool = s.pool ∧ (s.lostNow q d o).gt = s.gt ∧
    (s.lostNow q d o).hz = s.hz ∧ (s.lostNow q d o).seq = s.seq ∧ (s.lostNow q d o).cmd = s.cmd ∧
    (s.lostNow q d o).island = s.island ∧ (s.lostNow q d o).mb = s.mb ∧ (s.lostNow q d o).sb = s.sb ∧
    (s.lostNow q d o).lc = s.lc ∧ (s.lostNow q d o).out = s.out := by
  simp [State.lostNow]

@[simp] theorem State.lostNow_reads (s : State) (q d o : Nat) (x : Nat) :
    (s.lostNow q d o).region x = s.region x ∧ (s.lostNow q d o).slot x = s.slot x ∧
    (s.lostNow q d o).cpl x = s.cpl x ∧ (s.lostNow q d o).chan x = s.chan x ∧
    (s.lostNow q d o).queue x = s.queue x ∧ (s.lostNow q d o).avs x = s.avs x ∧
    (s.lostNow q d o).link x = s.link x ∧ (s.lostNow q d o).hzr x = s.hzr x ∧
    (s.lostNow q d o).task x = s.task x ∧ (s.lostNow q d o).mbSlot x = s.mbSlot x ∧
    (s.lostNow q d o).lmapAt x = s.lmapAt x := by
  simp [State.region, State.slot, State.cpl, State.chan, State.queue, State.avs, State.link, State.hzr, State.task, State.mbSlot, State.lmapAt]

@[simp] theorem State.noteWrite_frame (s : State) (p : Path) (off : Nat) (old : Word) :
    (s.noteWrite p off old).pending = s.pending ∧ (s.noteWrite p off old).now = s.now ∧
    (s.noteWrite p off old).freeIdx = s.freeIdx ∧ (s.noteWrite p off old).tick = s.tick ∧
    (s.noteWrite p off old).glob = s.glob ∧ (s.noteWrite p off old).ref = s.ref ∧
    (s.noteWrite p off old).regions = s.regions ∧ (s.noteWrite p off old).fc = s.fc ∧
    (s.noteWrite p off old).doors = s.doors ∧ (s.noteWrite p off old).cpls = s.cpls ∧
    (s.noteWrite p off old).meas = s.meas ∧ (s.noteWrite p off old).pool = s.pool ∧
    (s.noteWrite p off old).gt = s.gt ∧ (s.noteWrite p off old).hz = s.hz ∧
    (s.noteWrite p off old).seq = s.seq ∧ (s.noteWrite p off old).cmd = s.cmd ∧
    (s.noteWrite p off old).island = s.island ∧ (s.noteWrite p off old).mb = s.mb ∧
    (s.noteWrite p off old).sb = s.sb ∧ (s.noteWrite p off old).lc = s.lc ∧
    (s.noteWrite p off old).out = s.out := by
  simp [State.noteWrite]

@[simp] theorem State.noteWrite_reads (s : State) (p : Path) (off : Nat) (old : Word) (x : Nat) :
    (s.noteWrite p off old).region x = s.region x ∧ (s.noteWrite p off old).slot x = s.slot x ∧
    (s.noteWrite p off old).cpl x = s.cpl x ∧ (s.noteWrite p off old).chan x = s.chan x ∧
    (s.noteWrite p off old).queue x = s.queue x ∧ (s.noteWrite p off old).avs x = s.avs x ∧
    (s.noteWrite p off old).link x = s.link x ∧ (s.noteWrite p off old).hzr x = s.hzr x ∧
    (s.noteWrite p off old).task x = s.task x ∧ (s.noteWrite p off old).mbSlot x = s.mbSlot x ∧
    (s.noteWrite p off old).lmapAt x = s.lmapAt x := by
  simp [State.region, State.slot, State.cpl, State.chan, State.queue, State.avs, State.link, State.hzr, State.task, State.mbSlot, State.lmapAt]

@[simp] theorem State.soon_frame (s : State) (r : Nat) :
    (s.soon r).pending = s.pending ∧ (s.soon r).now = s.now ∧ (s.soon r).freeIdx = s.freeIdx ∧
    (s.soon r).tick = s.tick ∧ (s.soon r).glob = s.glob ∧ (s.soon r).ref = s.ref ∧
    (s.soon r).regions = s.regions ∧ (s.soon r).fc = s.fc ∧ (s.soon r).doors = s.doors ∧
    (s.soon r).cpls = s.cpls ∧ (s.soon r).meas = s.meas ∧ (s.soon r).pool = s.pool ∧ (s.soon r).gt = s.gt ∧
    (s.soon r).hz = s.hz ∧ (s.soon r).seq = s.seq ∧ (s.soon r).cmd = s.cmd ∧ (s.soon r).island = s.island ∧
    (s.soon r).mb = s.mb ∧ (s.soon r).sb = s.sb ∧ (s.soon r).lc = s.lc ∧ (s.soon r).out = s.out := by
  unfold State.soon; split <;> simp

@[simp] theorem State.soon_reads (s : State) (r : Nat) (x : Nat) :
    (s.soon r).region x = s.region x ∧ (s.soon r).slot x = s.slot x ∧ (s.soon r).cpl x = s.cpl x ∧
    (s.soon r).chan x = s.chan x ∧ (s.soon r).queue x = s.queue x ∧ (s.soon r).avs x = s.avs x ∧
    (s.soon r).link x = s.link x ∧ (s.soon r).hzr x = s.hzr x ∧ (s.soon r).task x = s.task x ∧
    (s.soon r).mbSlot x = s.mbSlot x ∧ (s.soon r).lmapAt x = s.lmapAt x := by
  simp [State.region, State.slot, State.cpl, State.chan, State.queue, State.avs, State.link, State.hzr, State.task, State.mbSlot, State.lmapAt]

@[simp] theorem State.setRegion_log (s : State) (r : Nat) (g : Region) : (s.setRegion r g).log = s.log := rfl
@[simp] theorem State.updRegion_log (s : State) (r : Nat) (f : Region → Region) : (s.updRegion r f).log = s.log := rfl
@[simp] theorem State.setSlot_log (s : State) (i : Nat) (d : DoorSlot) : (s.setSlot i d).log = s.log := rfl
@[simp] theorem State.updSlot_log (s : State) (i : Nat) (f : DoorSlot → DoorSlot) : (s.updSlot i f).log = s.log := rfl
@[simp] theorem State.setCpl_log (s : State) (i : Nat) (c : Coupler) : (s.setCpl i c).log = s.log := rfl
@[simp] theorem State.updCpl_log (s : State) (i : Nat) (f : Coupler → Coupler) : (s.updCpl i f).log = s.log := rfl
@[simp] theorem State.setChan_log (s : State) (c : Nat) (m : MeasChan) : (s.setChan c m).log = s.log := rfl
@[simp] theorem State.updChan_log (s : State) (c : Nat) (f : MeasChan → MeasChan) : (s.updChan c f).log = s.log := rfl
@[simp] theorem State.setQueue_log (s : State) (q : Nat) (x : Queue) : (s.setQueue q x).log = s.log := rfl
@[simp] theorem State.updQueue_log (s : State) (q : Nat) (f : Queue → Queue) : (s.updQueue q f).log = s.log := rfl
@[simp] theorem State.setAvs_log (s : State) (n : Nat) (a : AvsChan) : (s.setAvs n a).log = s.log := rfl
@[simp] theorem State.updAvs_log (s : State) (n : Nat) (f : AvsChan → AvsChan) : (s.updAvs n f).log = s.log := rfl
@[simp] theorem State.setLink_log (s : State) (l : Nat) (x : GtLink) : (s.setLink l x).log = s.log := rfl
@[simp] theorem State.updLink_log (s : State) (l : Nat) (f : GtLink → GtLink) : (s.updLink l f).log = s.log := rfl
@[simp] theorem State.setHzr_log (s : State) (r : Nat) (x : HzRegion) : (s.setHzr r x).log = s.log := rfl
@[simp] theorem State.updHzr_log (s : State) (r : Nat) (f : HzRegion → HzRegion) : (s.updHzr r f).log = s.log := rfl
@[simp] theorem State.setLmap_log (s : State) (l : Nat) (x : LmapEntry) : (s.setLmap l x).log = s.log := rfl
@[simp] theorem State.setTask_log (s : State) (t : Nat) (x : Task) : (s.setTask t x).log = s.log := rfl
@[simp] theorem State.updTask_log (s : State) (t : Nat) (f : Task → Task) : (s.updTask t f).log = s.log := rfl
@[simp] theorem State.setMbSlot_log (s : State) (k : Nat) (x : MbSlot) : (s.setMbSlot k x).log = s.log := rfl
@[simp] theorem State.fresh_log (s : State) : s.fresh.log = s.log := rfl

end Sys2Proof.Machine
end

