-- ==== Sys2Proof/Laws/Shared.lean ====
section
/-! SUPPORT. What the shared operations may change: every field not named in the statement may change, no other. -/

namespace Sys2Proof.Machine

open Sys2Proof

@[simp] theorem State.countIgnored_frame (s : State) (off : Nat) :
    (s.countIgnored off).pending = s.pending ∧ (s.countIgnored off).now = s.now ∧
    (s.countIgnored off).freeIdx = s.freeIdx ∧ (s.countIgnored off).tick = s.tick ∧
    (s.countIgnored off).ref = s.ref ∧ (s.countIgnored off).regions = s.regions ∧
    (s.countIgnored off).fc = s.fc ∧ (s.countIgnored off).doors = s.doors ∧
    (s.countIgnored off).cpls = s.cpls ∧ (s.countIgnored off).meas = s.meas ∧
    (s.countIgnored off).pool = s.pool ∧ (s.countIgnored off).gt = s.gt ∧ (s.countIgnored off).hz = s.hz ∧
    (s.countIgnored off).seq = s.seq ∧ (s.countIgnored off).cmd = s.cmd ∧
    (s.countIgnored off).island = s.island ∧ (s.countIgnored off).mb = s.mb ∧ (s.countIgnored off).sb = s.sb ∧
    (s.countIgnored off).lc = s.lc ∧ (s.countIgnored off).out = s.out := by
  unfold State.countIgnored; (repeat' split) <;> simp

@[simp] theorem State.unroute_frame (s : State) :
    (s.unroute).pending = s.pending ∧ (s.unroute).now = s.now ∧ (s.unroute).freeIdx = s.freeIdx ∧
    (s.unroute).tick = s.tick ∧ (s.unroute).glob = s.glob ∧ (s.unroute).ref = s.ref ∧
    (s.unroute).regions = s.regions ∧ (s.unroute).fc = s.fc ∧ (s.unroute).doors = s.doors ∧
    (s.unroute).cpls = s.cpls ∧ (s.unroute).meas = s.meas ∧ (s.unroute).gt = s.gt ∧ (s.unroute).hz = s.hz ∧
    (s.unroute).seq = s.seq ∧ (s.unroute).cmd = s.cmd ∧ (s.unroute).island = s.island ∧
    (s.unroute).mb = s.mb ∧ (s.unroute).sb = s.sb ∧ (s.unroute).lc = s.lc ∧ (s.unroute).out = s.out := by
  unfold State.unroute; (repeat' split) <;> simp

@[simp] theorem State.dropCoach_frame (s : State) (src : Nat) (q : Nat) (words : List DWord) :
    (s.dropCoach src q words).pending = s.pending ∧ (s.dropCoach src q words).now = s.now ∧
    (s.dropCoach src q words).freeIdx = s.freeIdx ∧ (s.dropCoach src q words).tick = s.tick ∧
    (s.dropCoach src q words).glob = s.glob ∧ (s.dropCoach src q words).ref = s.ref ∧
    (s.dropCoach src q words).regions = s.regions ∧ (s.dropCoach src q words).fc = s.fc ∧
    (s.dropCoach src q words).doors = s.doors ∧ (s.dropCoach src q words).cpls = s.cpls ∧
    (s.dropCoach src q words).gt = s.gt ∧ (s.dropCoach src q words).hz = s.hz ∧
    (s.dropCoach src q words).seq = s.seq ∧ (s.dropCoach src q words).cmd = s.cmd ∧
    (s.dropCoach src q words).island = s.island ∧ (s.dropCoach src q words).mb = s.mb ∧
    (s.dropCoach src q words).sb = s.sb ∧ (s.dropCoach src q words).lc = s.lc ∧
    (s.dropCoach src q words).out = s.out := by
  unfold State.dropCoach; (repeat' split) <;> simp

@[simp] theorem State.offer_frame (s : State) (src : Nat) (q : Nat) (words : List DWord) :
    (s.offer src q words).pending = s.pending ∧ (s.offer src q words).now = s.now ∧
    (s.offer src q words).freeIdx = s.freeIdx ∧ (s.offer src q words).tick = s.tick ∧
    (s.offer src q words).glob = s.glob ∧ (s.offer src q words).ref = s.ref ∧
    (s.offer src q words).regions = s.regions ∧ (s.offer src q words).fc = s.fc ∧
    (s.offer src q words).doors = s.doors ∧ (s.offer src q words).cpls = s.cpls ∧
    (s.offer src q words).gt = s.gt ∧ (s.offer src q words).hz = s.hz ∧ (s.offer src q words).seq = s.seq ∧
    (s.offer src q words).cmd = s.cmd ∧ (s.offer src q words).island = s.island ∧
    (s.offer src q words).mb = s.mb ∧ (s.offer src q words).sb = s.sb ∧ (s.offer src q words).lc = s.lc ∧
    (s.offer src q words).out = s.out := by
  unfold State.offer; dsimp only; (repeat' split) <;> simp

@[simp] theorem State.formAt_frame (s : State) (tick : DWord) (typ : Nat) (src : Nat) (body : List DWord) :
    (s.formAt tick typ src body).pending = s.pending ∧ (s.formAt tick typ src body).now = s.now ∧
    (s.formAt tick typ src body).freeIdx = s.freeIdx ∧ (s.formAt tick typ src body).tick = s.tick ∧
    (s.formAt tick typ src body).glob = s.glob ∧ (s.formAt tick typ src body).ref = s.ref ∧
    (s.formAt tick typ src body).regions = s.regions ∧ (s.formAt tick typ src body).fc = s.fc ∧
    (s.formAt tick typ src body).doors = s.doors ∧ (s.formAt tick typ src body).cpls = s.cpls ∧
    (s.formAt tick typ src body).gt = s.gt ∧ (s.formAt tick typ src body).hz = s.hz ∧
    (s.formAt tick typ src body).seq = s.seq ∧ (s.formAt tick typ src body).cmd = s.cmd ∧
    (s.formAt tick typ src body).island = s.island ∧ (s.formAt tick typ src body).mb = s.mb ∧
    (s.formAt tick typ src body).sb = s.sb ∧ (s.formAt tick typ src body).lc = s.lc ∧
    (s.formAt tick typ src body).out = s.out := by
  unfold State.formAt; (repeat' split) <;> simp

@[simp] theorem State.form_frame (s : State) (typ : Nat) (src : Nat) (body : List DWord) :
    (s.form typ src body).pending = s.pending ∧ (s.form typ src body).now = s.now ∧
    (s.form typ src body).freeIdx = s.freeIdx ∧ (s.form typ src body).tick = s.tick ∧
    (s.form typ src body).glob = s.glob ∧ (s.form typ src body).ref = s.ref ∧
    (s.form typ src body).regions = s.regions ∧ (s.form typ src body).fc = s.fc ∧
    (s.form typ src body).doors = s.doors ∧ (s.form typ src body).cpls = s.cpls ∧
    (s.form typ src body).gt = s.gt ∧ (s.form typ src body).hz = s.hz ∧ (s.form typ src body).seq = s.seq ∧
    (s.form typ src body).cmd = s.cmd ∧ (s.form typ src body).island = s.island ∧
    (s.form typ src body).mb = s.mb ∧ (s.form typ src body).sb = s.sb ∧ (s.form typ src body).lc = s.lc ∧
    (s.form typ src body).out = s.out := by
  unfold State.form; (repeat' split) <;> simp

@[simp] theorem State.raiseLine_frame (s : State) (n : Nat) :
    (s.raiseLine n).pending = s.pending ∧ (s.raiseLine n).now = s.now ∧ (s.raiseLine n).freeIdx = s.freeIdx ∧
    (s.raiseLine n).tick = s.tick ∧ (s.raiseLine n).glob = s.glob ∧ (s.raiseLine n).ref = s.ref ∧
    (s.raiseLine n).regions = s.regions ∧ (s.raiseLine n).fc = s.fc ∧ (s.raiseLine n).doors = s.doors ∧
    (s.raiseLine n).cpls = s.cpls ∧ (s.raiseLine n).meas = s.meas ∧ (s.raiseLine n).pool = s.pool ∧
    (s.raiseLine n).gt = s.gt ∧ (s.raiseLine n).hz = s.hz ∧ (s.raiseLine n).cmd = s.cmd ∧
    (s.raiseLine n).island = s.island ∧ (s.raiseLine n).mb = s.mb ∧ (s.raiseLine n).sb = s.sb ∧
    (s.raiseLine n).lc = s.lc ∧ (s.raiseLine n).out = s.out := by
  unfold State.raiseLine; (repeat' split) <;> simp

@[simp] theorem State.raiseEvtLine_frame (s : State) (n : Nat) :
    (s.raiseEvtLine n).pending = s.pending ∧ (s.raiseEvtLine n).now = s.now ∧
    (s.raiseEvtLine n).freeIdx = s.freeIdx ∧ (s.raiseEvtLine n).tick = s.tick ∧
    (s.raiseEvtLine n).glob = s.glob ∧ (s.raiseEvtLine n).ref = s.ref ∧
    (s.raiseEvtLine n).regions = s.regions ∧ (s.raiseEvtLine n).fc = s.fc ∧
    (s.raiseEvtLine n).doors = s.doors ∧ (s.raiseEvtLine n).cpls = s.cpls ∧ (s.raiseEvtLine n).meas = s.meas ∧
    (s.raiseEvtLine n).pool = s.pool ∧ (s.raiseEvtLine n).gt = s.gt ∧ (s.raiseEvtLine n).hz = s.hz ∧
    (s.raiseEvtLine n).cmd = s.cmd ∧ (s.raiseEvtLine n).island = s.island ∧ (s.raiseEvtLine n).mb = s.mb ∧
    (s.raiseEvtLine n).sb = s.sb ∧ (s.raiseEvtLine n).lc = s.lc ∧ (s.raiseEvtLine n).out = s.out := by
  unfold State.raiseEvtLine; (repeat' split) <;> simp

@[simp] theorem State.updRacg_frame (s : State) (r : Nat) (f : Racg → Racg) :
    (s.updRacg r f).pending = s.pending ∧ (s.updRacg r f).now = s.now ∧ (s.updRacg r f).freeIdx = s.freeIdx ∧
    (s.updRacg r f).tick = s.tick ∧ (s.updRacg r f).glob = s.glob ∧ (s.updRacg r f).ref = s.ref ∧
    (s.updRacg r f).fc = s.fc ∧ (s.updRacg r f).doors = s.doors ∧ (s.updRacg r f).cpls = s.cpls ∧
    (s.updRacg r f).meas = s.meas ∧ (s.updRacg r f).pool = s.pool ∧ (s.updRacg r f).gt = s.gt ∧
    (s.updRacg r f).seq = s.seq ∧ (s.updRacg r f).cmd = s.cmd ∧ (s.updRacg r f).island = s.island ∧
    (s.updRacg r f).mb = s.mb ∧ (s.updRacg r f).sb = s.sb ∧ (s.updRacg r f).lc = s.lc ∧
    (s.updRacg r f).out = s.out := by
  unfold State.updRacg; dsimp only; (repeat' split) <;> simp

@[simp] theorem State.snapshot_frame (s : State) (r causes : Nat) :
    (s.snapshot r causes).pending = s.pending ∧ (s.snapshot r causes).now = s.now ∧
    (s.snapshot r causes).freeIdx = s.freeIdx ∧ (s.snapshot r causes).tick = s.tick ∧
    (s.snapshot r causes).glob = s.glob ∧ (s.snapshot r causes).ref = s.ref ∧
    (s.snapshot r causes).fc = s.fc ∧ (s.snapshot r causes).doors = s.doors ∧
    (s.snapshot r causes).cpls = s.cpls ∧ (s.snapshot r causes).meas = s.meas ∧
    (s.snapshot r causes).pool = s.pool ∧ (s.snapshot r causes).gt = s.gt ∧ (s.snapshot r causes).hz = s.hz ∧
    (s.snapshot r causes).seq = s.seq ∧ (s.snapshot r causes).cmd = s.cmd ∧
    (s.snapshot r causes).island = s.island ∧ (s.snapshot r causes).mb = s.mb ∧
    (s.snapshot r causes).sb = s.sb ∧ (s.snapshot r causes).lc = s.lc ∧
    (s.snapshot r causes).out = s.out := by
  unfold State.snapshot; dsimp only; split <;> simp [State.noteSnap]

@[simp] theorem State.snapshotNext_frame (s : State) (r causes : Nat) :
    (s.snapshotNext r causes).pending = s.pending ∧ (s.snapshotNext r causes).now = s.now ∧
    (s.snapshotNext r causes).freeIdx = s.freeIdx ∧ (s.snapshotNext r causes).tick = s.tick ∧
    (s.snapshotNext r causes).glob = s.glob ∧ (s.snapshotNext r causes).ref = s.ref ∧
    (s.snapshotNext r causes).fc = s.fc ∧ (s.snapshotNext r causes).doors = s.doors ∧
    (s.snapshotNext r causes).cpls = s.cpls ∧ (s.snapshotNext r causes).meas = s.meas ∧
    (s.snapshotNext r causes).pool = s.pool ∧ (s.snapshotNext r causes).gt = s.gt ∧
    (s.snapshotNext r causes).hz = s.hz ∧ (s.snapshotNext r causes).seq = s.seq ∧
    (s.snapshotNext r causes).cmd = s.cmd ∧ (s.snapshotNext r causes).island = s.island ∧
    (s.snapshotNext r causes).mb = s.mb ∧ (s.snapshotNext r causes).sb = s.sb ∧
    (s.snapshotNext r causes).lc = s.lc ∧ (s.snapshotNext r causes).out = s.out := by
  simp [State.snapshotNext]

@[simp] theorem State.noteCause_frame (s : State) (c r : Nat) :
    (s.noteCause c r).pending = s.pending ∧ (s.noteCause c r).now = s.now ∧
    (s.noteCause c r).freeIdx = s.freeIdx ∧ (s.noteCause c r).tick = s.tick ∧
    (s.noteCause c r).glob = s.glob ∧ (s.noteCause c r).ref = s.ref ∧ (s.noteCause c r).regions = s.regions ∧
    (s.noteCause c r).fc = s.fc ∧ (s.noteCause c r).doors = s.doors ∧ (s.noteCause c r).cpls = s.cpls ∧
    (s.noteCause c r).meas = s.meas ∧ (s.noteCause c r).pool = s.pool ∧ (s.noteCause c r).gt = s.gt ∧
    (s.noteCause c r).hz = s.hz ∧ (s.noteCause c r).seq = s.seq ∧ (s.noteCause c r).cmd = s.cmd ∧
    (s.noteCause c r).island = s.island ∧ (s.noteCause c r).mb = s.mb ∧ (s.noteCause c r).sb = s.sb ∧
    (s.noteCause c r).lc = s.lc ∧ (s.noteCause c r).out = s.out := by
  simp [State.noteCause]

@[simp] theorem State.raiseCause_frame (s : State) (c : Nat) (r : Nat) :
    (s.raiseCause c r).pending = s.pending ∧ (s.raiseCause c r).now = s.now ∧
    (s.raiseCause c r).freeIdx = s.freeIdx ∧ (s.raiseCause c r).tick = s.tick ∧
    (s.raiseCause c r).glob = s.glob ∧ (s.raiseCause c r).ref = s.ref ∧
    (s.raiseCause c r).regions = s.regions ∧ (s.raiseCause c r).fc = s.fc ∧
    (s.raiseCause c r).doors = s.doors ∧ (s.raiseCause c r).cpls = s.cpls ∧ (s.raiseCause c r).gt = s.gt ∧
    (s.raiseCause c r).seq = s.seq ∧ (s.raiseCause c r).cmd = s.cmd ∧ (s.raiseCause c r).island = s.island ∧
    (s.raiseCause c r).mb = s.mb ∧ (s.raiseCause c r).sb = s.sb ∧ (s.raiseCause c r).lc = s.lc ∧
    (s.raiseCause c r).out = s.out := by
  unfold State.raiseCause; dsimp only; (repeat' split) <;> simp

@[simp] theorem State.raiseRef_frame (s : State) (bits : Word) :
    (s.raiseRef bits).pending = s.pending ∧ (s.raiseRef bits).now = s.now ∧
    (s.raiseRef bits).freeIdx = s.freeIdx ∧ (s.raiseRef bits).tick = s.tick ∧
    (s.raiseRef bits).glob = s.glob ∧ (s.raiseRef bits).regions = s.regions ∧ (s.raiseRef bits).fc = s.fc ∧
    (s.raiseRef bits).doors = s.doors ∧ (s.raiseRef bits).cpls = s.cpls ∧ (s.raiseRef bits).gt = s.gt ∧
    (s.raiseRef bits).seq = s.seq ∧ (s.raiseRef bits).cmd = s.cmd ∧ (s.raiseRef bits).island = s.island ∧
    (s.raiseRef bits).mb = s.mb ∧ (s.raiseRef bits).sb = s.sb ∧ (s.raiseRef bits).lc = s.lc ∧
    (s.raiseRef bits).out = s.out := by
  unfold State.raiseRef; (repeat' split) <;> simp

@[simp] theorem State.raiseRegion_frame (s : State) (r : Nat) (racg : Word) (det : Word) :
    (s.raiseRegion r racg det).pending = s.pending ∧ (s.raiseRegion r racg det).now = s.now ∧
    (s.raiseRegion r racg det).freeIdx = s.freeIdx ∧ (s.raiseRegion r racg det).tick = s.tick ∧
    (s.raiseRegion r racg det).glob = s.glob ∧ (s.raiseRegion r racg det).ref = s.ref ∧
    (s.raiseRegion r racg det).fc = s.fc ∧ (s.raiseRegion r racg det).doors = s.doors ∧
    (s.raiseRegion r racg det).cpls = s.cpls ∧ (s.raiseRegion r racg det).gt = s.gt ∧
    (s.raiseRegion r racg det).hz = s.hz ∧ (s.raiseRegion r racg det).seq = s.seq ∧
    (s.raiseRegion r racg det).cmd = s.cmd ∧ (s.raiseRegion r racg det).island = s.island ∧
    (s.raiseRegion r racg det).mb = s.mb ∧ (s.raiseRegion r racg det).sb = s.sb ∧
    (s.raiseRegion r racg det).lc = s.lc ∧ (s.raiseRegion r racg det).out = s.out := by
  unfold State.raiseRegion; dsimp only; (repeat' split) <;> simp

@[simp] theorem State.raiseFc_frame (s : State) (bits : Word) (r : Nat) :
    (s.raiseFc bits r).pending = s.pending ∧ (s.raiseFc bits r).now = s.now ∧
    (s.raiseFc bits r).freeIdx = s.freeIdx ∧ (s.raiseFc bits r).tick = s.tick ∧
    (s.raiseFc bits r).glob = s.glob ∧ (s.raiseFc bits r).ref = s.ref ∧
    (s.raiseFc bits r).regions = s.regions ∧ (s.raiseFc bits r).doors = s.doors ∧
    (s.raiseFc bits r).cpls = s.cpls ∧ (s.raiseFc bits r).gt = s.gt ∧ (s.raiseFc bits r).hz = s.hz ∧
    (s.raiseFc bits r).seq = s.seq ∧ (s.raiseFc bits r).cmd = s.cmd ∧ (s.raiseFc bits r).island = s.island ∧
    (s.raiseFc bits r).mb = s.mb ∧ (s.raiseFc bits r).sb = s.sb ∧ (s.raiseFc bits r).lc = s.lc ∧
    (s.raiseFc bits r).out = s.out := by
  unfold State.raiseFc; (repeat' split) <;> simp

@[simp] theorem State.raiseAvs_frame (s : State) (bits : Word) :
    (s.raiseAvs bits).pending = s.pending ∧ (s.raiseAvs bits).now = s.now ∧
    (s.raiseAvs bits).freeIdx = s.freeIdx ∧ (s.raiseAvs bits).tick = s.tick ∧
    (s.raiseAvs bits).glob = s.glob ∧ (s.raiseAvs bits).ref = s.ref ∧ (s.raiseAvs bits).regions = s.regions ∧
    (s.raiseAvs bits).doors = s.doors ∧ (s.raiseAvs bits).cpls = s.cpls ∧ (s.raiseAvs bits).meas = s.meas ∧
    (s.raiseAvs bits).pool = s.pool ∧ (s.raiseAvs bits).gt = s.gt ∧ (s.raiseAvs bits).hz = s.hz ∧
    (s.raiseAvs bits).seq = s.seq ∧ (s.raiseAvs bits).cmd = s.cmd ∧ (s.raiseAvs bits).island = s.island ∧
    (s.raiseAvs bits).mb = s.mb ∧ (s.raiseAvs bits).sb = s.sb ∧ (s.raiseAvs bits).lc = s.lc ∧
    (s.raiseAvs bits).out = s.out := by
  unfold State.raiseAvs; (repeat' split) <;> simp

@[simp] theorem State.raiseSlot_frame (s : State) (k : Nat) (bits : Nat) :
    (s.raiseSlot k bits).pending = s.pending ∧ (s.raiseSlot k bits).now = s.now ∧
    (s.raiseSlot k bits).freeIdx = s.freeIdx ∧ (s.raiseSlot k bits).tick = s.tick ∧
    (s.raiseSlot k bits).glob = s.glob ∧ (s.raiseSlot k bits).ref = s.ref ∧
    (s.raiseSlot k bits).regions = s.regions ∧ (s.raiseSlot k bits).fc = s.fc ∧
    (s.raiseSlot k bits).cpls = s.cpls ∧ (s.raiseSlot k bits).gt = s.gt ∧ (s.raiseSlot k bits).hz = s.hz ∧
    (s.raiseSlot k bits).seq = s.seq ∧ (s.raiseSlot k bits).cmd = s.cmd ∧
    (s.raiseSlot k bits).island = s.island ∧ (s.raiseSlot k bits).mb = s.mb ∧ (s.raiseSlot k bits).sb = s.sb ∧
    (s.raiseSlot k bits).lc = s.lc ∧ (s.raiseSlot k bits).out = s.out := by
  unfold State.raiseSlot; (repeat' split) <;> simp

@[simp] theorem State.raiseDoorUnit_frame (s : State) (bits : Nat) (r : Nat) :
    (s.raiseDoorUnit bits r).pending = s.pending ∧ (s.raiseDoorUnit bits r).now = s.now ∧
    (s.raiseDoorUnit bits r).freeIdx = s.freeIdx ∧ (s.raiseDoorUnit bits r).tick = s.tick ∧
    (s.raiseDoorUnit bits r).glob = s.glob ∧ (s.raiseDoorUnit bits r).ref = s.ref ∧
    (s.raiseDoorUnit bits r).regions = s.regions ∧ (s.raiseDoorUnit bits r).fc = s.fc ∧
    (s.raiseDoorUnit bits r).cpls = s.cpls ∧ (s.raiseDoorUnit bits r).gt = s.gt ∧
    (s.raiseDoorUnit bits r).hz = s.hz ∧ (s.raiseDoorUnit bits r).seq = s.seq ∧
    (s.raiseDoorUnit bits r).cmd = s.cmd ∧ (s.raiseDoorUnit bits r).island = s.island ∧
    (s.raiseDoorUnit bits r).mb = s.mb ∧ (s.raiseDoorUnit bits r).sb = s.sb ∧
    (s.raiseDoorUnit bits r).lc = s.lc ∧ (s.raiseDoorUnit bits r).out = s.out := by
  unfold State.raiseDoorUnit; (repeat' split) <;> simp

@[simp] theorem State.raiseCpl_frame (s : State) (i : Nat) (bits : Word) :
    (s.raiseCpl i bits).pending = s.pending ∧ (s.raiseCpl i bits).now = s.now ∧
    (s.raiseCpl i bits).freeIdx = s.freeIdx ∧ (s.raiseCpl i bits).tick = s.tick ∧
    (s.raiseCpl i bits).glob = s.glob ∧ (s.raiseCpl i bits).ref = s.ref ∧
    (s.raiseCpl i bits).regions = s.regions ∧ (s.raiseCpl i bits).fc = s.fc ∧
    (s.raiseCpl i bits).doors = s.doors ∧ (s.raiseCpl i bits).gt = s.gt ∧ (s.raiseCpl i bits).hz = s.hz ∧
    (s.raiseCpl i bits).seq = s.seq ∧ (s.raiseCpl i bits).cmd = s.cmd ∧
    (s.raiseCpl i bits).island = s.island ∧ (s.raiseCpl i bits).mb = s.mb ∧ (s.raiseCpl i bits).sb = s.sb ∧
    (s.raiseCpl i bits).lc = s.lc ∧ (s.raiseCpl i bits).out = s.out := by
  unfold State.raiseCpl; (repeat' split) <;> simp

@[simp] theorem State.raiseMeas_frame (s : State) (c : Nat) (bits : Word) :
    (s.raiseMeas c bits).pending = s.pending ∧ (s.raiseMeas c bits).now = s.now ∧
    (s.raiseMeas c bits).freeIdx = s.freeIdx ∧ (s.raiseMeas c bits).tick = s.tick ∧
    (s.raiseMeas c bits).glob = s.glob ∧ (s.raiseMeas c bits).ref = s.ref ∧
    (s.raiseMeas c bits).regions = s.regions ∧ (s.raiseMeas c bits).fc = s.fc ∧
    (s.raiseMeas c bits).doors = s.doors ∧ (s.raiseMeas c bits).cpls = s.cpls ∧
    (s.raiseMeas c bits).gt = s.gt ∧ (s.raiseMeas c bits).hz = s.hz ∧ (s.raiseMeas c bits).seq = s.seq ∧
    (s.raiseMeas c bits).cmd = s.cmd ∧ (s.raiseMeas c bits).island = s.island ∧
    (s.raiseMeas c bits).mb = s.mb ∧ (s.raiseMeas c bits).sb = s.sb ∧ (s.raiseMeas c bits).lc = s.lc ∧
    (s.raiseMeas c bits).out = s.out := by
  unfold State.raiseMeas; dsimp only; (repeat' split) <;> simp

@[simp] theorem State.raiseQ_frame (s : State) (q : Nat) (bits : Word) :
    (s.raiseQ q bits).pending = s.pending ∧ (s.raiseQ q bits).now = s.now ∧
    (s.raiseQ q bits).freeIdx = s.freeIdx ∧ (s.raiseQ q bits).tick = s.tick ∧
    (s.raiseQ q bits).glob = s.glob ∧ (s.raiseQ q bits).ref = s.ref ∧ (s.raiseQ q bits).regions = s.regions ∧
    (s.raiseQ q bits).fc = s.fc ∧ (s.raiseQ q bits).doors = s.doors ∧ (s.raiseQ q bits).cpls = s.cpls ∧
    (s.raiseQ q bits).meas = s.meas ∧ (s.raiseQ q bits).gt = s.gt ∧ (s.raiseQ q bits).hz = s.hz ∧
    (s.raiseQ q bits).seq = s.seq ∧ (s.raiseQ q bits).cmd = s.cmd ∧ (s.raiseQ q bits).island = s.island ∧
    (s.raiseQ q bits).mb = s.mb ∧ (s.raiseQ q bits).sb = s.sb ∧ (s.raiseQ q bits).lc = s.lc ∧
    (s.raiseQ q bits).out = s.out := by
  unfold State.raiseQ; (repeat' split) <;> simp

@[simp] theorem State.notice_frame (s : State) (q : Nat) :
    (s.notice q).pending = s.pending ∧ (s.notice q).now = s.now ∧ (s.notice q).freeIdx = s.freeIdx ∧
    (s.notice q).tick = s.tick ∧ (s.notice q).glob = s.glob ∧ (s.notice q).ref = s.ref ∧
    (s.notice q).regions = s.regions ∧ (s.notice q).fc = s.fc ∧ (s.notice q).doors = s.doors ∧
    (s.notice q).cpls = s.cpls ∧ (s.notice q).meas = s.meas ∧ (s.notice q).gt = s.gt ∧
    (s.notice q).hz = s.hz ∧ (s.notice q).cmd = s.cmd ∧ (s.notice q).island = s.island ∧
    (s.notice q).mb = s.mb ∧ (s.notice q).sb = s.sb ∧ (s.notice q).lc = s.lc ∧ (s.notice q).out = s.out := by
  unfold State.notice; dsimp only; (repeat' split) <;> simp

@[simp] theorem State.raiseGt_frame (s : State) (bits : Word) (link : Nat) :
    (s.raiseGt bits link).pending = s.pending ∧ (s.raiseGt bits link).now = s.now ∧
    (s.raiseGt bits link).freeIdx = s.freeIdx ∧ (s.raiseGt bits link).tick = s.tick ∧
    (s.raiseGt bits link).glob = s.glob ∧ (s.raiseGt bits link).ref = s.ref ∧
    (s.raiseGt bits link).regions = s.regions ∧ (s.raiseGt bits link).fc = s.fc ∧
    (s.raiseGt bits link).doors = s.doors ∧ (s.raiseGt bits link).cpls = s.cpls ∧
    (s.raiseGt bits link).hz = s.hz ∧ (s.raiseGt bits link).seq = s.seq ∧ (s.raiseGt bits link).cmd = s.cmd ∧
    (s.raiseGt bits link).island = s.island ∧ (s.raiseGt bits link).mb = s.mb ∧
    (s.raiseGt bits link).sb = s.sb ∧ (s.raiseGt bits link).lc = s.lc ∧ (s.raiseGt bits link).out = s.out := by
  unfold State.raiseGt; (repeat' split) <;> simp

@[simp] theorem State.raiseHz_frame (s : State) (bits : Word) (r : Nat) (code : Nat) (note : Nat) (lines : Nat) :
    (s.raiseHz bits r code note lines).pending = s.pending ∧ (s.raiseHz bits r code note lines).now = s.now ∧
    (s.raiseHz bits r code note lines).freeIdx = s.freeIdx ∧
    (s.raiseHz bits r code note lines).tick = s.tick ∧ (s.raiseHz bits r code note lines).glob = s.glob ∧
    (s.raiseHz bits r code note lines).ref = s.ref ∧ (s.raiseHz bits r code note lines).regions = s.regions ∧
    (s.raiseHz bits r code note lines).fc = s.fc ∧ (s.raiseHz bits r code note lines).doors = s.doors ∧
    (s.raiseHz bits r code note lines).cpls = s.cpls ∧ (s.raiseHz bits r code note lines).gt = s.gt ∧
    (s.raiseHz bits r code note lines).seq = s.seq ∧ (s.raiseHz bits r code note lines).cmd = s.cmd ∧
    (s.raiseHz bits r code note lines).island = s.island ∧ (s.raiseHz bits r code note lines).mb = s.mb ∧
    (s.raiseHz bits r code note lines).sb = s.sb ∧ (s.raiseHz bits r code note lines).lc = s.lc ∧
    (s.raiseHz bits r code note lines).out = s.out := by
  unfold State.raiseHz; (repeat' split) <;> simp

@[simp] theorem State.raiseFence_frame (s : State) (kind : Nat) (r : Nat) (logical : Nat) (spare : Nat) (reason : Nat) :
    (s.raiseFence kind r logical spare reason).pending = s.pending ∧
    (s.raiseFence kind r logical spare reason).now = s.now ∧
    (s.raiseFence kind r logical spare reason).freeIdx = s.freeIdx ∧
    (s.raiseFence kind r logical spare reason).tick = s.tick ∧
    (s.raiseFence kind r logical spare reason).glob = s.glob ∧
    (s.raiseFence kind r logical spare reason).ref = s.ref ∧
    (s.raiseFence kind r logical spare reason).regions = s.regions ∧
    (s.raiseFence kind r logical spare reason).fc = s.fc ∧
    (s.raiseFence kind r logical spare reason).doors = s.doors ∧
    (s.raiseFence kind r logical spare reason).cpls = s.cpls ∧
    (s.raiseFence kind r logical spare reason).gt = s.gt ∧
    (s.raiseFence kind r logical spare reason).seq = s.seq ∧
    (s.raiseFence kind r logical spare reason).cmd = s.cmd ∧
    (s.raiseFence kind r logical spare reason).island = s.island ∧
    (s.raiseFence kind r logical spare reason).mb = s.mb ∧
    (s.raiseFence kind r logical spare reason).sb = s.sb ∧
    (s.raiseFence kind r logical spare reason).lc = s.lc ∧
    (s.raiseFence kind r logical spare reason).out = s.out := by
  unfold State.raiseFence; (repeat' split) <;> simp

@[simp] theorem State.feedEvent_frame (s : State) (code : Nat) (note : Nat) (lines : Nat) :
    (s.feedEvent code note lines).pending = s.pending ∧ (s.feedEvent code note lines).now = s.now ∧
    (s.feedEvent code note lines).freeIdx = s.freeIdx ∧ (s.feedEvent code note lines).tick = s.tick ∧
    (s.feedEvent code note lines).glob = s.glob ∧ (s.feedEvent code note lines).ref = s.ref ∧
    (s.feedEvent code note lines).regions = s.regions ∧ (s.feedEvent code note lines).fc = s.fc ∧
    (s.feedEvent code note lines).doors = s.doors ∧ (s.feedEvent code note lines).cpls = s.cpls ∧
    (s.feedEvent code note lines).gt = s.gt ∧ (s.feedEvent code note lines).seq = s.seq ∧
    (s.feedEvent code note lines).cmd = s.cmd ∧ (s.feedEvent code note lines).island = s.island ∧
    (s.feedEvent code note lines).mb = s.mb ∧ (s.feedEvent code note lines).sb = s.sb ∧
    (s.feedEvent code note lines).lc = s.lc ∧ (s.feedEvent code note lines).out = s.out := by
  unfold State.feedEvent; (repeat' split) <;> simp

@[simp] theorem State.raiseSeq_frame (s : State) (bits : Word) (t : Nat) :
    (s.raiseSeq bits t).pending = s.pending ∧ (s.raiseSeq bits t).now = s.now ∧
    (s.raiseSeq bits t).freeIdx = s.freeIdx ∧ (s.raiseSeq bits t).tick = s.tick ∧
    (s.raiseSeq bits t).glob = s.glob ∧ (s.raiseSeq bits t).ref = s.ref ∧
    (s.raiseSeq bits t).regions = s.regions ∧ (s.raiseSeq bits t).fc = s.fc ∧
    (s.raiseSeq bits t).doors = s.doors ∧ (s.raiseSeq bits t).cpls = s.cpls ∧ (s.raiseSeq bits t).gt = s.gt ∧
    (s.raiseSeq bits t).hz = s.hz ∧ (s.raiseSeq bits t).cmd = s.cmd ∧ (s.raiseSeq bits t).island = s.island ∧
    (s.raiseSeq bits t).mb = s.mb ∧ (s.raiseSeq bits t).sb = s.sb ∧ (s.raiseSeq bits t).lc = s.lc ∧
    (s.raiseSeq bits t).out = s.out := by
  unfold State.raiseSeq; (repeat' split) <;> simp

@[simp] theorem State.raiseLc_frame (s : State) (bits : Word) :
    (s.raiseLc bits).pending = s.pending ∧ (s.raiseLc bits).now = s.now ∧
    (s.raiseLc bits).freeIdx = s.freeIdx ∧ (s.raiseLc bits).tick = s.tick ∧ (s.raiseLc bits).glob = s.glob ∧
    (s.raiseLc bits).ref = s.ref ∧ (s.raiseLc bits).regions = s.regions ∧ (s.raiseLc bits).fc = s.fc ∧
    (s.raiseLc bits).doors = s.doors ∧ (s.raiseLc bits).cpls = s.cpls ∧ (s.raiseLc bits).gt = s.gt ∧
    (s.raiseLc bits).hz = s.hz ∧ (s.raiseLc bits).seq = s.seq ∧ (s.raiseLc bits).cmd = s.cmd ∧
    (s.raiseLc bits).island = s.island ∧ (s.raiseLc bits).mb = s.mb ∧ (s.raiseLc bits).sb = s.sb ∧
    (s.raiseLc bits).out = s.out := by
  unfold State.raiseLc; (repeat' split) <;> simp

@[simp] theorem State.raiseSb_frame (s : State) (bits : Word) :
    (s.raiseSb bits).pending = s.pending ∧ (s.raiseSb bits).now = s.now ∧
    (s.raiseSb bits).freeIdx = s.freeIdx ∧ (s.raiseSb bits).tick = s.tick ∧ (s.raiseSb bits).glob = s.glob ∧
    (s.raiseSb bits).ref = s.ref ∧ (s.raiseSb bits).regions = s.regions ∧ (s.raiseSb bits).fc = s.fc ∧
    (s.raiseSb bits).doors = s.doors ∧ (s.raiseSb bits).cpls = s.cpls ∧ (s.raiseSb bits).gt = s.gt ∧
    (s.raiseSb bits).hz = s.hz ∧ (s.raiseSb bits).seq = s.seq ∧ (s.raiseSb bits).cmd = s.cmd ∧
    (s.raiseSb bits).island = s.island ∧ (s.raiseSb bits).mb = s.mb ∧ (s.raiseSb bits).lc = s.lc ∧
    (s.raiseSb bits).out = s.out := by
  unfold State.raiseSb; (repeat' split) <;> simp

@[simp] theorem State.alarmSettle_frame (s : State) :
    (s.alarmSettle).pending = s.pending ∧ (s.alarmSettle).now = s.now ∧ (s.alarmSettle).freeIdx = s.freeIdx ∧
    (s.alarmSettle).tick = s.tick ∧ (s.alarmSettle).glob = s.glob ∧ (s.alarmSettle).ref = s.ref ∧
    (s.alarmSettle).regions = s.regions ∧ (s.alarmSettle).fc = s.fc ∧ (s.alarmSettle).doors = s.doors ∧
    (s.alarmSettle).cpls = s.cpls ∧ (s.alarmSettle).gt = s.gt ∧ (s.alarmSettle).hz = s.hz ∧
    (s.alarmSettle).seq = s.seq ∧ (s.alarmSettle).cmd = s.cmd ∧ (s.alarmSettle).island = s.island ∧
    (s.alarmSettle).mb = s.mb ∧ (s.alarmSettle).lc = s.lc ∧ (s.alarmSettle).out = s.out := by
  unfold State.alarmSettle; dsimp only; (repeat' split) <;> simp

@[simp] theorem State.smbRefuse_frame (s : State) (off : Nat) :
    (s.smbRefuse off).pending = s.pending ∧ (s.smbRefuse off).now = s.now ∧
    (s.smbRefuse off).freeIdx = s.freeIdx ∧ (s.smbRefuse off).tick = s.tick ∧
    (s.smbRefuse off).glob = s.glob ∧ (s.smbRefuse off).ref = s.ref ∧ (s.smbRefuse off).regions = s.regions ∧
    (s.smbRefuse off).fc = s.fc ∧ (s.smbRefuse off).doors = s.doors ∧ (s.smbRefuse off).cpls = s.cpls ∧
    (s.smbRefuse off).gt = s.gt ∧ (s.smbRefuse off).hz = s.hz ∧ (s.smbRefuse off).seq = s.seq ∧
    (s.smbRefuse off).cmd = s.cmd ∧ (s.smbRefuse off).island = s.island ∧ (s.smbRefuse off).mb = s.mb ∧
    (s.smbRefuse off).lc = s.lc ∧ (s.smbRefuse off).out = s.out := by
  unfold State.smbRefuse; (repeat' split) <;> simp

end Sys2Proof.Machine
end

