-- ==== Sys2Proof/Laws/Told.lean ====
section
/-! SUPPORT. Forming coaches touches the record pool as `Told` says, and what each raising of event bits
leaves of its own block. -/

namespace Sys2Proof.Machine

open Sys2Proof

theorem Told.refl (s : State) : Told s s := ⟨rfl, fun _ => rfl⟩

theorem Told.trans {a b c : State} (h : Told a b) (k : Told b c) : Told a c := by
  obtain ⟨h1, h2⟩ := h
  obtain ⟨k1, k2⟩ := k
  refine ⟨?_, fun q => ?_⟩
  · rw [k1, h1]
  · rw [k2 q, h2 q]

/-- A state with the same pool. -/
theorem Told.of_pool {a b : State} (h : b.pool = a.pool) : Told a b := by
  refine ⟨by rw [h], fun q => ?_⟩
  have : b.queue q = a.queue q := by simp [State.queue, h]
  rw [this]

theorem Told.congr {a a' b b' : State} (h : Told a b) (ha : a'.pool = a.pool) (hb : b'.pool = b.pool) :
    Told a' b' := (Told.of_pool ha.symm).trans (h.trans (Told.of_pool hb))

theorem Told.carts {a b : State} (h : Told a b) : b.pool.carts = a.pool.carts := by rw [h.1]

theorem State.unroute_told (s : State) : Told s s.unroute := ⟨rfl, fun _ => rfl⟩

theorem State.dropCoach_told (s : State) (src q : Nat) (w : List DWord) : Told s (s.dropCoach src q w) := by
  refine ⟨?_, fun x => ?_⟩
  · unfold State.dropCoach
    dsimp only
    split <;> simp [State.updQueue, State.setQueue, State.updChan, State.setChan]
  · unfold State.dropCoach
    dsimp only
    by_cases h : x = q <;> split <;>
      simp [State.queue, State.updQueue, State.setQueue, State.updChan, State.setChan, tget_tput, h]

theorem State.offer_told (s : State) (src q : Nat) (w : List DWord) : Told s (s.offer src q w) := by
  unfold State.offer
  dsimp only
  (repeat' split)
  · exact s.unroute_told
  · exact ⟨rfl, fun _ => rfl⟩
  · exact s.dropCoach_told src q w

theorem State.formAt_told (s : State) (tick : DWord) (typ src : Nat) (body : List DWord) :
    Told s (s.formAt tick typ src body) := by
  unfold State.formAt
  split
  · exact s.offer_told ..
  · exact s.unroute_told

theorem State.form_told (s : State) (typ src : Nat) (body : List DWord) : Told s (s.form typ src body) :=
  s.formAt_told ..

/-- A coach formed after an update that leaves the pool. -/
theorem Told.form {a b : State} (h : b.pool = a.pool) (typ src : Nat) (body : List DWord) :
    Told a (b.form typ src body) := (Told.of_pool h).trans (b.form_told ..)

theorem State.raiseCause_told (s : State) (c r : Nat) : Told s (s.raiseCause c r) := by
  unfold State.raiseCause
  dsimp only
  (repeat' split)
  · exact Told.form (by simp) ..
  · exact Told.form (by simp) ..
  · exact Told.of_pool (by simp)

theorem State.raiseRef_told (s : State) (bits : Word) : Told s (s.raiseRef bits) := by
  unfold State.raiseRef
  dsimp only
  (repeat' split)
  · exact .refl s
  · refine Told.trans ?_ (State.raiseCause_told ..)
    exact Told.form (by simp) ..
  · exact Told.form (by simp) ..

theorem State.raiseRegion_told (s : State) (r : Nat) (a b : Word) : Told s (s.raiseRegion r a b) := by
  unfold State.raiseRegion
  dsimp only
  (repeat' split)
  · exact Told.of_pool (by simp)
  · exact Told.form (by simp) ..

theorem State.raiseFc_told (s : State) (b : Word) (r : Nat) : Told s (s.raiseFc b r) := by
  unfold State.raiseFc
  dsimp only
  (repeat' split)
  · exact .refl s
  · exact Told.form (by simp) ..

theorem State.raiseSlot_told (s : State) (k b : Nat) : Told s (s.raiseSlot k b) := by
  unfold State.raiseSlot
  dsimp only
  (repeat' split)
  · exact .refl s
  · exact Told.form (by simp) ..

theorem State.raiseDoorUnit_told (s : State) (b r : Nat) : Told s (s.raiseDoorUnit b r) := by
  unfold State.raiseDoorUnit
  dsimp only
  (repeat' split)
  · exact .refl s
  · exact Told.form (by simp) ..

theorem State.raiseCpl_told (s : State) (i : Nat) (b : Word) : Told s (s.raiseCpl i b) := by
  unfold State.raiseCpl
  dsimp only
  (repeat' split)
  · exact .refl s
  · exact Told.form (by simp) ..

theorem State.raiseMeas_told (s : State) (c : Nat) (b : Word) : Told s (s.raiseMeas c b) := by
  unfold State.raiseMeas
  dsimp only
  (repeat' split)
  · exact Told.of_pool (by simp)
  · exact Told.form (by simp) ..

theorem State.raiseGt_told (s : State) (b : Word) (l : Nat) : Told s (s.raiseGt b l) := by
  unfold State.raiseGt
  dsimp only
  (repeat' split)
  · exact .refl s
  · exact Told.form (by simp) ..
  · exact Told.form (by simp) ..

theorem State.raiseHz_told (s : State) (b : Word) (r c n l : Nat) : Told s (s.raiseHz b r c n l) := by
  unfold State.raiseHz
  dsimp only
  (repeat' split)
  · exact .refl s
  · exact Told.form (by simp) ..

theorem State.raiseFence_told (s : State) (k r l sp w : Nat) : Told s (s.raiseFence k r l sp w) :=
  Told.form (by simp) ..

theorem State.feedEvent_told (s : State) (c n l : Nat) : Told s (s.feedEvent c n l) :=
  (Told.of_pool rfl).trans (State.raiseHz_told ..)

theorem State.raiseSeq_told (s : State) (b : Word) (t : Nat) : Told s (s.raiseSeq b t) := by
  unfold State.raiseSeq
  dsimp only
  (repeat' split)
  · exact .refl s
  · exact Told.form (by simp) ..

theorem State.raiseLc_told (s : State) (b : Word) : Told s (s.raiseLc b) := by
  unfold State.raiseLc
  dsimp only
  (repeat' split)
  · exact .refl s
  · exact Told.form (by simp) ..

theorem State.raiseSb_told (s : State) (b : Word) : Told s (s.raiseSb b) := by
  unfold State.raiseSb
  dsimp only
  (repeat' split)
  · exact .refl s
  · exact Told.form (by simp) ..

theorem State.alarmSettle_told (s : State) : Told s s.alarmSettle := by
  unfold State.alarmSettle
  dsimp only
  (repeat' split)
  · exact .refl s
  · exact (Told.of_pool rfl).trans (State.raiseSb_told ..)
  · exact Told.of_pool rfl

theorem State.smbRefuse_told (s : State) (off : Nat) : Told s (s.smbRefuse off) :=
  (Told.of_pool rfl).trans (State.raiseSb_told ..)

theorem State.snapshot_told (s : State) (r c : Nat) : Told s (s.snapshot r c) := Told.of_pool (by simp)

theorem State.gate_told (s : State) (p : Path) (off : Nat) (f : State → State) (h : Told s (f s)) :
    Told s (s.gate p off f) := by
  unfold State.gate
  (repeat' split)
  · exact h
  · exact .refl s
  · exact Told.of_pool rfl
  · exact .refl s
  · exact s.smbRefuse_told off
  · exact .refl s

end Sys2Proof.Machine
end

