-- ==== Sys2Proof/Laws/Raise.lean ====
section
/-! SUPPORT. What raising event bits does to its own block, field by field, and that a coach of a source that
is no measurement channel leaves the channels. -/

namespace Sys2Proof.Machine

open Sys2Proof

/-! ## Reads of a part through an update of the others -/

theorem State.region_congr {s t : State} (h : t.regions = s.regions) (r : Nat) : t.region r = s.region r := by
  simp [State.region, h]
theorem State.slot_congr {s t : State} (h : t.doors = s.doors) (r : Nat) : t.slot r = s.slot r := by
  simp [State.slot, h]
theorem State.cpl_congr {s t : State} (h : t.cpls = s.cpls) (r : Nat) : t.cpl r = s.cpl r := by
  simp [State.cpl, h]
theorem State.chan_congr {s t : State} (h : t.meas = s.meas) (r : Nat) : t.chan r = s.chan r := by
  simp [State.chan, h]
theorem State.queue_congr {s t : State} (h : t.pool = s.pool) (r : Nat) : t.queue r = s.queue r := by
  simp [State.queue, h]
theorem State.link_congr {s t : State} (h : t.gt = s.gt) (r : Nat) : t.link r = s.link r := by
  simp [State.link, h]
theorem State.hzr_congr {s t : State} (h : t.hz = s.hz) (r : Nat) : t.hzr r = s.hzr r := by
  simp [State.hzr, h]
theorem State.task_congr {s t : State} (h : t.seq = s.seq) (r : Nat) : t.task r = s.task r := by
  simp [State.task, h]

/-! ## Channels and coaches -/

theorem State.dropCoach_meas (s : State) {src : Nat} (h : ¬(0x100 ≤ src ∧ src < 0x140)) (q : Nat)
    (w : List DWord) : (s.dropCoach src q w).meas = s.meas := by
  unfold State.dropCoach
  dsimp only
  rw [if_neg h]
  simp

theorem State.formAt_meas (s : State) {src : Nat} (h : ¬(0x100 ≤ src ∧ src < 0x140)) (tick : DWord)
    (typ : Nat) (body : List DWord) : (s.formAt tick typ src body).meas = s.meas := by
  unfold State.formAt
  split
  · unfold State.offer
    dsimp only
    (repeat' split)
    · simp
    · rfl
    · exact s.dropCoach_meas h ..
  · simp

theorem State.form_meas (s : State) {src : Nat} (h : ¬(0x100 ≤ src ∧ src < 0x140)) (typ : Nat)
    (body : List DWord) : (s.form typ src body).meas = s.meas := s.formAt_meas h ..

/-! ## References -/

@[simp] theorem State.raiseCause_meas (s : State) (c r : Nat) : (s.raiseCause c r).meas = s.meas := by
  unfold State.raiseCause
  dsimp only
  (repeat' split)
  · rw [State.form_meas _ (by omega)] <;> simp
  · rw [State.form_meas _ (by omega)] <;> simp
  · simp

@[simp] theorem State.raiseRef_meas (s : State) (b : Word) : (s.raiseRef b).meas = s.meas := by
  unfold State.raiseRef
  dsimp only
  (repeat' split)
  · rfl
  · rw [State.raiseCause_meas, State.form_meas _ (by omega)] <;> simp
  · rw [State.form_meas _ (by omega)] <;> simp

@[simp] theorem State.raiseRef_ref (s : State) (b : Word) :
    (s.raiseRef b).ref = { s.ref with refEvent := s.ref.refEvent ||| b } := by
  unfold State.raiseRef
  dsimp only
  (repeat' split)
  · rename_i h; subst h; simp
  · simp
  · simp

/-- A cause raised changes of the hazard monitor the request alone (R317, R318). -/
@[simp] theorem State.raiseCause_hz (s : State) (c r : Nat) :
    (s.raiseCause c r).hz = { s.hz with
      reqNum := (s.raiseCause c r).hz.reqNum, snapPend := (s.raiseCause c r).hz.snapPend,
      causes := (s.raiseCause c r).hz.causes, event := (s.raiseCause c r).hz.event } := by
  unfold State.raiseCause
  dsimp only
  (repeat' split) <;> simp

/-! ## Regions -/

theorem State.raiseRegion_meas (s : State) {r : Nat} (h : r < 0x100) (a b : Word) :
    (s.raiseRegion r a b).meas = s.meas := by
  unfold State.raiseRegion
  dsimp only
  (repeat' split)
  · simp
  · rw [State.form_meas _ (by omega)] <;> simp

theorem State.raiseRegion_region (s : State) (r x : Nat) (a b : Word) :
    (s.raiseRegion r a b).region x = if x = r then
      { s.region r with
        regs := { (s.region r).regs with event := (s.region r).regs.event ||| a },
        droop := { (s.region r).droop with event := (s.region r).droop.event ||| b } }
      else s.region x := by
  unfold State.raiseRegion
  dsimp only
  (repeat' split) <;>
    simp_all [State.region, State.setRegion, tget_tput]

/-! ## The other blocks -/

@[simp] theorem State.raiseFc_fc (s : State) (b : Word) (r : Nat) :
    (s.raiseFc b r).fc = { s.fc with event := s.fc.event ||| b } := by
  unfold State.raiseFc
  dsimp only
  (repeat' split)
  · rename_i h; subst h; simp
  · simp

@[simp] theorem State.raiseFc_meas (s : State) (b : Word) (r : Nat) : (s.raiseFc b r).meas = s.meas := by
  unfold State.raiseFc
  dsimp only
  (repeat' split)
  · rfl
  · rw [State.form_meas _ (by omega)] <;> simp

@[simp] theorem State.raiseSlot_doors (s : State) (k b : Nat) :
    (s.raiseSlot k b).doors = { s.doors with event := s.doors.event ||| BitVec.ofNat 32 (b * 2 ^ (6 * k)) } := by
  unfold State.raiseSlot
  dsimp only
  (repeat' split)
  · rename_i h; subst h; simp
  · simp

@[simp] theorem State.raiseDoorUnit_doors (s : State) (b r : Nat) :
    (s.raiseDoorUnit b r).doors = { s.doors with event := s.doors.event ||| BitVec.ofNat 32 b <<< 24 } := by
  unfold State.raiseDoorUnit
  dsimp only
  (repeat' split)
  · rename_i h; subst h; simp
  · simp

theorem State.raiseSlot_meas (s : State) {k : Nat} (h : k < 4) (b : Nat) : (s.raiseSlot k b).meas = s.meas := by
  unfold State.raiseSlot
  dsimp only
  (repeat' split)
  · rfl
  · rw [State.form_meas _ (by omega)] <;> simp

@[simp] theorem State.raiseDoorUnit_meas (s : State) (b r : Nat) : (s.raiseDoorUnit b r).meas = s.meas := by
  unfold State.raiseDoorUnit
  dsimp only
  (repeat' split)
  · rfl
  · rw [State.form_meas _ (by omega)] <;> simp

theorem State.raiseCpl_cpl (s : State) (i x : Nat) (b : Word) :
    (s.raiseCpl i b).cpl x = if x = i then { s.cpl i with event := (s.cpl i).event ||| b } else s.cpl x := by
  unfold State.raiseCpl
  dsimp only
  (repeat' split) <;> simp_all [State.cpl, State.updCpl, State.setCpl, tget_tput]

@[simp] theorem State.raiseCpl_meas (s : State) (i : Nat) (b : Word) : (s.raiseCpl i b).meas = s.meas := by
  unfold State.raiseCpl
  dsimp only
  (repeat' split)
  · rfl
  · rw [State.form_meas _ (by omega)] <;> simp

@[simp] theorem State.raiseGt_gt (s : State) (b : Word) (l : Nat) :
    (s.raiseGt b l).gt = { s.gt with event := s.gt.event ||| b } := by
  unfold State.raiseGt
  dsimp only
  (repeat' split)
  · rename_i h; subst h; simp
  · simp
  · simp

@[simp] theorem State.raiseGt_meas (s : State) (b : Word) (l : Nat) : (s.raiseGt b l).meas = s.meas := by
  unfold State.raiseGt
  dsimp only
  (repeat' split)
  · rfl
  · rw [State.form_meas _ (by omega)] <;> simp
  · rw [State.form_meas _ (by omega)] <;> simp

@[simp] theorem State.raiseHz_hz (s : State) (b : Word) (r c n l : Nat) :
    (s.raiseHz b r c n l).hz = { s.hz with event := s.hz.event ||| b } := by
  unfold State.raiseHz
  dsimp only
  (repeat' split)
  · rename_i h; subst h; simp
  · simp

@[simp] theorem State.raiseHz_meas (s : State) (b : Word) (r c n l : Nat) :
    (s.raiseHz b r c n l).meas = s.meas := by
  unfold State.raiseHz
  dsimp only
  (repeat' split)
  · rfl
  · rw [State.form_meas _ (by omega)] <;> simp

@[simp] theorem State.raiseFence_hz (s : State) (k r l sp w : Nat) :
    (s.raiseFence k r l sp w).hz = { s.hz with event := s.hz.event ||| (nth [4, 8, 0x400, 0x10] k : Word) } := by
  unfold State.raiseFence
  simp

@[simp] theorem State.raiseFence_meas (s : State) (k r l sp w : Nat) :
    (s.raiseFence k r l sp w).meas = s.meas := by
  unfold State.raiseFence
  dsimp only
  rw [State.form_meas _ (by omega)] <;> simp

@[simp] theorem State.feedEvent_hz (s : State) (c n l : Nat) :
    (s.feedEvent c n l).hz = { s.hz with
      feedCount := satAdd 0xFFFF s.hz.feedCount 1, aFeed := satAdd 65535 s.hz.aFeed 256,
      event := s.hz.event ||| 0x200 } := by
  unfold State.feedEvent
  simp

@[simp] theorem State.feedEvent_meas (s : State) (c n l : Nat) : (s.feedEvent c n l).meas = s.meas := by
  unfold State.feedEvent
  simp

@[simp] theorem State.raiseSeq_seq (s : State) (b : Word) (t : Nat) :
    (s.raiseSeq b t).seq = { s.seq with event := s.seq.event ||| b } := by
  unfold State.raiseSeq
  dsimp only
  (repeat' split)
  · rename_i h; subst h; simp
  · simp

theorem State.raiseSeq_meas (s : State) (b : Word) (t : Nat) :
    (s.raiseSeq b t).meas = s.meas := by
  unfold State.raiseSeq
  dsimp only
  (repeat' split)
  · rfl
  · rw [State.form_meas _ (by omega)] <;> simp

@[simp] theorem State.raiseLc_lc (s : State) (b : Word) :
    (s.raiseLc b).lc = { s.lc with event := s.lc.event ||| b } := by
  unfold State.raiseLc
  dsimp only
  (repeat' split)
  · rename_i h; subst h; simp
  · simp

@[simp] theorem State.raiseLc_meas (s : State) (b : Word) : (s.raiseLc b).meas = s.meas := by
  unfold State.raiseLc
  dsimp only
  (repeat' split)
  · rfl
  · rw [State.form_meas _ (by omega)] <;> simp

@[simp] theorem State.raiseSb_sb (s : State) (b : Word) :
    (s.raiseSb b).sb = { s.sb with event := s.sb.event ||| b } := by
  unfold State.raiseSb
  dsimp only
  (repeat' split)
  · rename_i h; subst h; simp
  · simp

@[simp] theorem State.raiseSb_meas (s : State) (b : Word) : (s.raiseSb b).meas = s.meas := by
  unfold State.raiseSb
  dsimp only
  (repeat' split)
  · rfl
  · rw [State.form_meas _ (by omega)] <;> simp

@[simp] theorem State.alarmSettle_meas (s : State) : s.alarmSettle.meas = s.meas := by
  unfold State.alarmSettle
  dsimp only
  (repeat' split) <;> simp

/-- ALARM# and its event bit are all of the sideband that a settling changes (R427). -/
@[simp] theorem State.alarmSettle_sb (s : State) :
    s.alarmSettle.sb = { s.sb with
      alarm := s.alarmWanted, event := s.sb.event ||| (if s.alarmWanted && !s.sb.alarm then 0x100 else 0) } := by
  unfold State.alarmSettle
  dsimp only
  (repeat' split) <;> simp_all

end Sys2Proof.Machine
end

