-- ==== Sys2Proof/Laws/Refs.lean ====
section
/-! SUPPORT. What follows a change of the references (chapter 02): `refDone` and its parts. -/

namespace Sys2Proof.Machine

open Sys2Proof

@[simp] theorem RefRoot.input_setInput (x : RefRoot) (f g : Ref) (i : RefInput) :
    (x.setInput f i).input g = if g = f then i else x.input g := by
  cases f <;> cases g <;> simp [RefRoot.setInput, RefRoot.input]

@[simp] theorem RefRoot.pll_setPll (x : RefRoot) (y z : Root) (p : RootPll) :
    (x.setPll y p).pll z = if z = y then p else x.pll z := by
  cases y <;> cases z <;> simp [RefRoot.setPll, RefRoot.pll]

/-- The fields of the block that the watch channel and the standby root leave. -/
def RefRoot.KeepMost (x y : RefRoot) : Prop :=
  y = { x with refA := y.refA, refB := y.refB, rpa := y.rpa, rpb := y.rpb, watchRef := y.watchRef }

theorem RefRoot.KeepMost.refl (x : RefRoot) : x.KeepMost x := rfl

theorem RefRoot.KeepMost.trans {x y z : RefRoot} (h : x.KeepMost y) (k : y.KeepMost z) : x.KeepMost z := by
  unfold RefRoot.KeepMost at *
  rw [k, h]

theorem RefRoot.updInput_keep (x : RefRoot) (f : Ref) (g : RefInput → RefInput) :
    x.KeepMost (x.updInput f g) := by
  cases f <;> rfl

theorem RefRoot.updPll_keep (x : RefRoot) (f : Root) (g : RootPll → RootPll) : x.KeepMost (x.updPll f g) := by
  cases f <;> rfl

theorem RefRoot.watchFix_keep (x : RefRoot) (now : Nat) : x.KeepMost (x.watchFix now) := by
  unfold RefRoot.watchFix
  dsimp only
  have k : ∀ (y : RefRoot) w g, y.KeepMost (({ y with watchRef := w } : RefRoot).updInput w g) := by
    intro y w g; cases w <;> rfl
  repeat' split
  · exact x.updInput_keep ..
  · exact (x.updInput_keep ..).trans (k ..)
  · exact .refl x
  · exact k ..
  · exact .refl x

theorem RefRoot.standbyFollow_keep (x : RefRoot) (now : Nat) : x.KeepMost (x.standbyFollow now) := by
  unfold RefRoot.standbyFollow
  split
  · exact x.updPll_keep ..
  · exact .refl x

@[simp] theorem RefInput.takeUp_state (i : RefInput) (now : Nat) : (i.takeUp now).state = i.state := by
  unfold RefInput.takeUp
  split <;> simp_all

@[simp] theorem RefInput.takeUp_edges (i : RefInput) (now : Nat) : (i.takeUp now).edges = i.edges := by
  unfold RefInput.takeUp
  split <;> simp_all

/-- The watch channel leaves the roots. -/
theorem RefRoot.watchFix_pll (x : RefRoot) (now : Nat) (y : Root) : (x.watchFix now).pll y = x.pll y := by
  have h : ∀ (x : RefRoot) f g, (x.updInput f g).pll y = x.pll y := by
    intro x f g; cases f <;> cases y <;> rfl
  have h2 : ∀ (x : RefRoot) w, ({ x with watchRef := w } : RefRoot).pll y = x.pll y := by
    intro x w; cases y <;> rfl
  unfold RefRoot.watchFix
  dsimp only
  repeat' split
  all_goals simp only [h, h2]

/-- The watch channel leaves the state of a reference. -/
theorem RefRoot.watchFix_state (x : RefRoot) (now : Nat) (f : Ref) :
    ((x.watchFix now).input f).state = (x.input f).state := by
  have h2 : ∀ (x : RefRoot) w, ({ x with watchRef := w } : RefRoot).input f = x.input f := by
    intro x w; cases f <;> rfl
  have h3 : ∀ (x : RefRoot) w g, (∀ i, (g i).state = i.state) →
      ((x.updInput w g).input f).state = (x.input f).state := by
    intro x w g hg
    unfold RefRoot.updInput
    simp only [RefRoot.input_setInput]
    split
    · rename_i h; subst h; exact hg _
    · rfl
  unfold RefRoot.watchFix
  dsimp only
  repeat' split
  · exact h3 _ _ _ fun _ => rfl
  · rw [h3 _ _ _ fun i => i.takeUp_state now, h2]
    exact h3 _ _ _ fun _ => rfl
  · rfl
  · rw [h3 _ _ _ fun i => i.takeUp_state now, h2]
  · rfl

theorem RefRoot.standbyFollow_input (x : RefRoot) (now : Nat) (f : Ref) :
    (x.standbyFollow now).input f = x.input f := by
  unfold RefRoot.standbyFollow RefRoot.updPll
  split
  · cases f <;> (cases h : otherRoot x.tickSrc) <;> rfl
  · rfl

/-- The standby root alone follows. -/
theorem RefRoot.standbyFollow_active (x : RefRoot) (now : Nat) :
    (x.standbyFollow now).pll x.tickSrc = x.pll x.tickSrc := by
  unfold RefRoot.standbyFollow RefRoot.updPll
  split
  · cases h : x.tickSrc <;> rfl
  · rfl

theorem RefRoot.watchFix_tickSrc (x : RefRoot) (now : Nat) : (x.watchFix now).tickSrc = x.tickSrc := by
  rw [x.watchFix_keep now]

theorem State.refSettle_ref (s : State) :
    s.refSettle.ref = { s.ref with
      revertSince := s.refSettle.ref.revertSince, switchDue := s.refSettle.ref.switchDue } := by
  unfold State.refSettle
  rfl

theorem State.refSettle_hz (s : State) :
    s.refSettle.hz = { s.hz with rootBad := s.refSettle.hz.rootBad } := by
  unfold State.refSettle
  rfl

/-- No switchover that was ordered in this die tick is to be taken back. -/
def RefRoot.Calm (x : RefRoot) (now : Nat) : Prop :=
  x.switchDue ≠ some (now + 2) ∨ (x.watchFix now).eligible now = true

theorem RefRoot.Calm.unorder {x : RefRoot} {now : Nat} (h : x.Calm now) :
    (x.watchFix now).unorder now = (x.watchFix now, 0) := by
  have k : (x.watchFix now).switchDue = x.switchDue := by rw [x.watchFix_keep now]
  unfold RefRoot.unorder
  rcases h with h | h
  · rw [if_neg (by rw [k]; exact fun e => h e.1)]
  · rw [if_neg (by rw [h]; simp)]

/-- The references through what a taking back does. -/
theorem RefRoot.unorder_state (x : RefRoot) (now : Nat) (f : Ref) :
    ((x.unorder now).1.input f).state = (x.input f).state := by
  have h : ∀ y : RefRoot, (y.enterHold now).input f = y.input f := by
    intro y
    unfold RefRoot.enterHold RefRoot.updPll
    cases hy : y.tickSrc <;> cases f <;> rfl
  unfold RefRoot.unorder
  split
  · dsimp only
    split
    · rw [RefRoot.watchFix_state, h]; cases f <;> rfl
    · cases f <;> rfl
  · rfl

/-- The block after a calm change: what follows it in the watch channel, the waits and the event register, no
other field. -/
theorem State.refDone_ref (s : State) (x : RefRoot) (b : Word) (hc : x.Calm s.now) :
    (s.refDone x b).ref = { x with
      refA := (s.refDone x b).ref.refA, refB := (s.refDone x b).ref.refB,
      rpa := (s.refDone x b).ref.rpa, rpb := (s.refDone x b).ref.rpb,
      watchRef := (s.refDone x b).ref.watchRef,
      revertSince := (s.refDone x b).ref.revertSince, switchDue := (s.refDone x b).ref.switchDue,
      refEvent := x.refEvent ||| b } := by
  have h := x.watchFix_keep s.now
  unfold RefRoot.KeepMost at h
  unfold State.refDone
  rw [hc.unorder]
  generalize x.watchFix s.now = y at h
  dsimp only
  simp only [State.raiseRef_ref]
  rw [State.refSettle_ref]
  simp only
  rw [h]
  simp

/-- References after a change. -/
theorem State.refDone_input (s : State) (x : RefRoot) (b : Word) (f : Ref) :
    ((s.refDone x b).ref.input f).state = (x.input f).state := by
  have : (s.refDone x b).ref.input f = ((x.watchFix s.now).unorder s.now).1.input f := by
    unfold State.refDone
    dsimp only
    simp only [State.raiseRef_ref]
    rw [State.refSettle_ref]
    cases f <;> rfl
  rw [this, RefRoot.unorder_state, RefRoot.watchFix_state]

/-- Roots after a calm change. -/
theorem State.refDone_pll (s : State) (x : RefRoot) (b : Word) (hc : x.Calm s.now) (y : Root) :
    (s.refDone x b).ref.pll y = x.pll y := by
  rw [← x.watchFix_pll s.now y]
  unfold State.refDone
  rw [hc.unorder]
  dsimp only
  simp only [State.raiseRef_ref]
  rw [State.refSettle_ref]
  cases y <;> rfl

/-- What a change of the references may do to the hazard monitor: its accumulators and marks for the
references, and a snapshot request. -/
def Hazard.KeepForRefs (x y : Hazard) : Prop :=
  y = { x with
    rootBad := y.rootBad, aRef := y.aRef, aRoot := y.aRoot, reqNum := y.reqNum, snapPend := y.snapPend,
    causes := y.causes, event := y.event }

theorem Hazard.KeepForRefs.trans {x y z : Hazard} (h : x.KeepForRefs y) (k : y.KeepForRefs z) :
    x.KeepForRefs z := by
  unfold Hazard.KeepForRefs at *
  rw [k, h]

theorem State.raiseCause_keep (s : State) (c r : Nat) : s.hz.KeepForRefs (s.raiseCause c r).hz := by
  unfold State.raiseCause
  dsimp only
  repeat' split
  all_goals simp [Hazard.KeepForRefs]

theorem State.raiseRef_keep (s : State) (b : Word) : s.hz.KeepForRefs (s.raiseRef b).hz := by
  unfold State.raiseRef
  dsimp only
  repeat' split
  · rfl
  · refine Hazard.KeepForRefs.trans ?_ (State.raiseCause_keep ..)
    simp [Hazard.KeepForRefs]
  · simp [Hazard.KeepForRefs]

/-- The hazard monitor after a change. -/
theorem State.refDone_hz (s : State) (x : RefRoot) (b : Word) : s.hz.KeepForRefs (s.refDone x b).hz := by
  unfold State.refDone
  refine Hazard.KeepForRefs.trans ?_ (State.raiseRef_keep ..)
  rfl

/-- What each part is after the settling of the references. -/
@[simp] theorem State.refSettle_frame (s : State) :
    s.refSettle.pending = s.pending ∧ s.refSettle.now = s.now ∧ s.refSettle.freeIdx = s.freeIdx ∧
    s.refSettle.tick = s.tick ∧ s.refSettle.glob = s.glob ∧ s.refSettle.regions = s.regions ∧
    s.refSettle.fc = s.fc ∧ s.refSettle.doors = s.doors ∧ s.refSettle.cpls = s.cpls ∧
    s.refSettle.meas = s.meas ∧ s.refSettle.pool = s.pool ∧ s.refSettle.gt = s.gt ∧
    s.refSettle.seq = s.seq ∧ s.refSettle.cmd = s.cmd ∧ s.refSettle.island = s.island ∧
    s.refSettle.mb = s.mb ∧ s.refSettle.sb = s.sb ∧ s.refSettle.lc = s.lc ∧ s.refSettle.out = s.out := by
  unfold State.refSettle
  simp

@[simp] theorem State.refDone_frame (s : State) (x : RefRoot) (b : Word) :
    (s.refDone x b).pending = s.pending ∧ (s.refDone x b).now = s.now ∧
    (s.refDone x b).freeIdx = s.freeIdx ∧ (s.refDone x b).tick = s.tick ∧
    (s.refDone x b).glob = s.glob ∧ (s.refDone x b).regions = s.regions ∧ (s.refDone x b).fc = s.fc ∧
    (s.refDone x b).doors = s.doors ∧ (s.refDone x b).cpls = s.cpls ∧ (s.refDone x b).meas = s.meas ∧
    (s.refDone x b).gt = s.gt ∧ (s.refDone x b).seq = s.seq ∧ (s.refDone x b).cmd = s.cmd ∧
    (s.refDone x b).island = s.island ∧ (s.refDone x b).mb = s.mb ∧ (s.refDone x b).sb = s.sb ∧
    (s.refDone x b).lc = s.lc ∧
    (s.refDone x b).out = s.out := by
  unfold State.refDone
  dsimp only
  simp

/-- A change of the references touches their block, the hazard monitor and the pool. -/
theorem State.refDone_only (s : State) (x : RefRoot) (b : Word) :
    Only [.ref, .hz, .pool] s (s.refDone x b) := by
  intro p hp
  cases p <;> first | (simp at hp; done) | simp [Part.same]

theorem State.refDone_told (s : State) (x : RefRoot) (b : Word) : Told s (s.refDone x b) := by
  unfold State.refDone
  exact (Told.of_pool (by simp)).trans (State.raiseRef_told ..)

/-- A switchover ordered stays ordered through a calm change. -/
theorem State.refDone_switchDue (s : State) (x : RefRoot) (b : Word) (hc : x.Calm s.now) {d : Nat}
    (h : x.switchDue = some d) : (s.refDone x b).ref.switchDue = some d := by
  have hs : (x.watchFix s.now).switchDue = some d := by rw [x.watchFix_keep s.now]; exact h
  unfold State.refDone
  rw [hc.unorder]
  dsimp only
  simp [State.refSettle, hs]

/-- The watch channel and the roots of a state before the first lock. -/
theorem State.refDone_cold (s : State) (x : RefRoot) (b : Word) (h : x.tickValid = false)
    (hd : x.switchDue = none) :
    (∀ f, (s.refDone x b).ref.input f = x.input f) ∧ (∀ y, (s.refDone x b).ref.pll y = x.pll y) := by
  have h1 : x.watchFix s.now = x := by simp [RefRoot.watchFix, h]
  have h2 := (RefRoot.Calm.unorder (x := x) (now := s.now) (.inl (by simp [hd])))
  unfold State.refDone
  rw [h2, h1]
  dsimp only
  constructor <;> (intro y; cases y <;> simp [State.refSettle, RefRoot.input, RefRoot.pll])

end Sys2Proof.Machine
end

