-- ==== Sys2Proof/Laws/Regions.lean ====
section
/-! SUPPORT. Operations on one region (chapter 03): what each leaves alone, and the generator's record after
it. -/

namespace Sys2Proof.Machine

open Sys2Proof

theorem Only.refl (ps : List Part) (s : State) : Only ps s s := by
  intro p _
  cases p <;> rfl

theorem Part.same.trans {a b c : State} {p : Part} (h : p.same a b) (k : p.same b c) : p.same a c := by
  cases p <;> exact Eq.trans k h

theorem Only.trans {ps : List Part} {a b c : State} (h : Only ps a b) (k : Only ps b c) : Only ps a c :=
  fun p hp => (h p hp).trans (k p hp)

theorem Only.mono {ps qs : List Part} {a b : State} (h : Only ps a b) (hs : ∀ p, p ∈ ps → p ∈ qs) :
    Only qs a b := fun p hp => h p (fun hq => hp (hs p hq))

theorem RegionFrame.refl (r : Nat) (s : State) : RegionFrame r s s :=
  ⟨.refl _ s, .refl s, fun _ _ => rfl, fun _ _ => rfl, rfl⟩

theorem RegionFrame.trans {r : Nat} {a b c : State} (h : RegionFrame r a b) (k : RegionFrame r b c) :
    RegionFrame r a c := by
  obtain ⟨h1, h2, h3, h4, h5⟩ := h
  obtain ⟨k1, k2, k3, k4, k5⟩ := k
  refine ⟨h1.trans k1, h2.trans k2, fun x hx => (k3 x hx).trans (h3 x hx),
    fun x hx => (k4 x hx).trans (h4 x hx), ?_⟩
  rw [k5, h5]

theorem State.setRegion_rframe (s : State) (r : Nat) (x : Region) : RegionFrame r s (s.setRegion r x) := by
  refine ⟨fun p hp => ?_, Told.of_pool rfl, fun y hy => ?_, fun _ _ => rfl, rfl⟩
  · cases p <;> first | (simp at hp; done) | simp [Part.same]
  · simp [hy]

theorem State.updRegion_rframe (s : State) (r : Nat) (f : Region → Region) :
    RegionFrame r s (s.updRegion r f) := s.setRegion_rframe ..

theorem State.updHzr_rframe (s : State) (r : Nat) (f : HzRegion → HzRegion) :
    RegionFrame r s (s.updHzr r f) := by
  refine ⟨fun p hp => ?_, Told.of_pool rfl, fun y hy => rfl, fun y hy => ?_, rfl⟩
  · cases p <;> first | (simp at hp; done) | simp [Part.same]
  · simp [hy]

theorem State.updRacg_rframe (s : State) (r : Nat) (f : Racg → Racg) : RegionFrame r s (s.updRacg r f) := by
  unfold State.updRacg
  dsimp only
  split
  · exact (State.updRegion_rframe ..).trans (State.updHzr_rframe ..)
  · exact State.updRegion_rframe ..

theorem State.fresh_rframe (s : State) (r : Nat) : RegionFrame r s s.fresh := by
  refine ⟨fun p hp => ?_, Told.of_pool rfl, fun y hy => rfl, fun y hy => rfl, rfl⟩
  cases p <;> first | (simp at hp; done) | rfl

/-- A state that differs in the record of the die tick alone. -/
theorem RegionFrame.of_log (s : State) (r : Nat) (l : TickLog) : RegionFrame r s { s with log := l } := by
  refine ⟨fun p hp => ?_, Told.of_pool rfl, fun y hy => rfl, fun y hy => rfl, rfl⟩
  cases p <;> rfl

theorem State.mark_rframe (s : State) (r off : Nat) (b : Word) : RegionFrame r s (s.mark off b) := by
  unfold State.mark
  split
  · exact .refl r s
  · exact .of_log ..

theorem State.soon_rframe (s : State) (r x : Nat) : RegionFrame r s (s.soon x) := by
  unfold State.soon
  split
  · exact .refl r s
  · exact .of_log ..

theorem State.formAt_rframe (s : State) {r : Nat} (h : r < 0x100) (t : DWord) (typ : Nat)
    (b : List DWord) : RegionFrame r s (s.formAt t typ r b) := by
  refine ⟨fun p hp => ?_, s.formAt_told .., fun y hy => ?_, fun y hy => ?_, by simp⟩
  · have hm := s.formAt_meas (src := r) (by omega) t typ b
    cases p <;> first | (simp at hp; done) | exact hm | simp [Part.same]
  · exact State.region_congr (by simp) y
  · exact State.hzr_congr (by simp) y

theorem State.form_rframe (s : State) {r : Nat} (h : r < 0x100) (typ : Nat) (b : List DWord) :
    RegionFrame r s (s.form typ r b) := s.formAt_rframe h ..

theorem State.raiseRegion_rframe (s : State) {r : Nat} (h : r < 0x100) (a b : Word) :
    RegionFrame r s (s.raiseRegion r a b) := by
  have k (x : Region) : RegionFrame r s
      (((s.setRegion r x).mark (regionPage r + 0x08) a).mark (regionPage r + 0xB0) b) :=
    ((s.setRegion_rframe r x).trans (State.mark_rframe ..)).trans (State.mark_rframe ..)
  unfold State.raiseRegion
  extract_lets x quiet told t
  split
  · exact k _
  · exact (k _).trans (State.form_rframe _ h ..)

theorem State.snapshot_rframe (s : State) (r c : Nat) : RegionFrame r s (s.snapshot r c) := by
  unfold State.snapshot
  dsimp only
  split
  · exact .of_log ..
  · exact ((s.setRegion_rframe r _).trans (State.mark_rframe ..)).trans (.of_log ..)

theorem State.snapshotNext_rframe (s : State) (r c : Nat) : RegionFrame r s (s.snapshotNext r c) :=
  (s.updRegion_rframe r _).trans (State.soon_rframe ..)

theorem State.episodeCoach_rframe (s : State) {r : Nat} (h : r < 0x100) (t : DWord) (a b c d e f : Nat) :
    RegionFrame r s (s.episodeCoach r t a b c d e f) := s.formAt_rframe h ..

theorem State.pieceCoaches_rframe (s : State) {r : Nat} (h : r < 0x100) (t : DWord)
    (l : List (Nat × Nat × Nat × Nat)) : RegionFrame r s (s.pieceCoaches r t l) := by
  unfold State.pieceCoaches
  induction l generalizing s with
  | nil => exact .refl r s
  | cons p l ih => exact (s.episodeCoach_rframe h ..).trans (ih _)

theorem State.endEpisode_rframe (s : State) {r : Nat} (h : r < 0x100) (c : Nat) :
    RegionFrame r s (s.endEpisode r c) := by
  unfold State.endEpisode
  split
  · exact .refl r s
  · rename_i e _
    extract_lets t
    have k : RegionFrame r s t := s.updRegion_rframe ..
    split
    · exact k.trans (State.updRegion_rframe ..)
    · exact (k.trans (State.pieceCoaches_rframe _ h ..)).trans (State.episodeCoach_rframe _ h ..)

theorem State.stopStretch_rframe (s : State) {r : Nat} (h : r < 0x100) (c : Nat) :
    RegionFrame r s (s.stopStretch r c) :=
  (s.endEpisode_rframe h c).trans (State.updRegion_rframe ..)

theorem State.regionDone_rframe (s : State) {r : Nat} (h : r < 0x100) (a b : Word) :
    RegionFrame r s (s.regionDone r a b) := by
  unfold State.regionDone
  split
  · exact (State.updRegion_rframe ..).trans (State.raiseRegion_rframe _ h ..)
  · exact State.raiseRegion_rframe _ h ..

theorem State.cutRamp_rframe (s : State) (r : Nat) : RegionFrame r s (s.cutRamp r) := State.updRegion_rframe ..

theorem State.leaveDco_rframe (s : State) (r : Nat) : RegionFrame r s (s.leaveDco r) := State.updRegion_rframe ..

theorem State.startAcq_rframe (s : State) (r g : Nat) : RegionFrame r s (s.startAcq r g) :=
  ((s.cutRamp_rframe r).trans (State.updRacg_rframe ..)).trans (State.updRegion_rframe ..)

theorem State.enterBypass_rframe (s : State) {r : Nat} (h : r < 0x100) :
    RegionFrame r s (s.enterBypass r).1 := by
  have k := (s.stopStretch_rframe h endBypass).trans (State.cutRamp_rframe _ r)
  unfold State.enterBypass
  dsimp only
  split
  · exact (k.trans (State.leaveDco_rframe ..)).trans (State.updRacg_rframe ..)
  · split
    · exact k.trans (State.updRacg_rframe ..)
    · exact (k.trans (State.updRacg_rframe ..)).trans (State.snapshotNext_rframe ..)

theorem State.rephase_rframe (s : State) (r : Nat) : RegionFrame r s (s.rephase r) :=
  (s.fresh_rframe r).trans (State.updRegion_rframe ..)

theorem State.declareLock_rframe (s : State) {r : Nat} (h : r < 0x100) (d : Nat) :
    RegionFrame r s (s.declareLock r d) :=
  (((((s.fresh_rframe r).trans (State.updRegion_rframe ..)).trans (State.updRacg_rframe ..))).trans
    (State.updRegion_rframe ..)).trans (State.regionDone_rframe _ h ..)

theorem State.endAcq_rframe (s : State) {r : Nat} (h : r < 0x100) (d : Nat) : RegionFrame r s (s.endAcq r d) := by
  unfold State.endAcq
  split
  · exact (s.enterBypass_rframe h).trans (State.regionDone_rframe _ h ..)
  · exact s.declareLock_rframe h d

theorem State.takeGear_rframe (s : State) (r : Nat) : RegionFrame r s (s.takeGear r) :=
  (State.updRacg_rframe ..).trans (State.soon_rframe ..)

/-! ## The page after an operation -/

/-- What the walk of the phase selector, counted up to a die tick, may change of a page (R119, R120, R149). -/
def Region.WalkKeep (x y : Region) : Prop :=
  y = { x with
    phase := y.phase, ledger := { x.ledger with wTot := y.ledger.wTot, taken := y.ledger.taken },
    cal := { x.cal with clk := { x.cal.clk with taken := y.cal.clk.taken, skipped := y.cal.clk.skipped } } }

theorem Region.WalkKeep.refl (x : Region) : x.WalkKeep x := rfl

theorem Region.WalkKeep.trans {x y z : Region} (h : x.WalkKeep y) (k : y.WalkKeep z) : x.WalkKeep z := by
  unfold Region.WalkKeep at *
  rw [k, h]

theorem Region.walkTo_keep (x : Region) (now : Nat) : x.WalkKeep (x.walkTo now) := by
  unfold Region.walkTo
  split
  · exact .refl x
  · split
    · exact .refl x
    · split
      · unfold Region.WalkKeep
        dsimp only
        by_cases hs : (x.racg.shutter && x.racg.state == .locked) = true <;> simp [hs]
      · rfl

theorem Region.phaseTo_keep (x : Region) (now : Nat) (tick : DWord) : x.WalkKeep (x.phaseTo now tick) := by
  unfold Region.phaseTo
  dsimp only
  refine Region.WalkKeep.trans ?_ (Region.walkTo_keep ..)
  split
  · exact (x.walkTo_keep _).trans rfl
  · exact x.walkTo_keep _

/-- The parts of a page that a change of the generator leaves. -/
@[simp] theorem Region.setRacg_page (x : Region) (now : Nat) (tick : DWord) (g : Racg) :
    (x.setRacg now tick g).racg = g ∧ (x.setRacg now tick g).regs = x.regs
    ∧ (x.setRacg now tick g).droop = x.droop ∧ (x.setRacg now tick g).thermal = x.thermal
    ∧ (x.setRacg now tick g).cal.valid = x.cal.valid ∧ (x.setRacg now tick g).ledger.sTot = x.ledger.sTot := by
  have h := x.phaseTo_keep now tick
  unfold Region.setRacg Region.noteMargin
  rw [h]
  simp [Ledger.upTo]

@[simp] theorem State.updRacg_region (s : State) (r x : Nat) (f : Racg → Racg) :
    (s.updRacg r f).region x =
      if x = r then (s.region r).setRacg s.now s.tick (f (s.region r).racg) else s.region x := by
  unfold State.updRacg
  dsimp only
  split
  · rw [State.region_congr (s := s.updRegion r fun x => x.setRacg s.now s.tick (f (s.region r).racg)) (by simp)]
    simp
  · simp

theorem State.formAt_region (s : State) (t : DWord) (typ src : Nat) (b : List DWord) (x : Nat) :
    (s.formAt t typ src b).region x = s.region x := State.region_congr (by simp) x

theorem State.pieceCoaches_region (s : State) (r : Nat) (t : DWord) (l : List (Nat × Nat × Nat × Nat)) (x : Nat) :
    (s.pieceCoaches r t l).region x = s.region x := by
  unfold State.pieceCoaches
  induction l generalizing s with
  | nil => rfl
  | cons p l ih => exact (ih _).trans (s.formAt_region ..)

/-- A snapshot leaves all of the page but the walk, the latched part of the ledger and LEDGER_SNAP. -/
theorem State.snapshot_page (s : State) (r c : Nat) (x : Nat) :
    ((s.snapshot r c).region x).racg = (s.region x).racg
    ∧ ((s.snapshot r c).region x).regs = (s.region x).regs
    ∧ ((s.snapshot r c).region x).cal.valid = (s.region x).cal.valid
    ∧ ((s.snapshot r c).region x).thermal = (s.region x).thermal
    ∧ ((s.snapshot r c).region x).ledger.sTot = (s.region x).ledger.sTot
    ∧ ((s.snapshot r c).region x).droop.sNow = (s.region x).droop.sNow
    ∧ ((s.snapshot r c).region x).droop.episode = (s.region x).droop.episode := by
  have h := (s.region r).phaseTo_keep s.now s.tick
  unfold State.snapshot
  dsimp only
  split
  · exact ⟨rfl, rfl, rfl, rfl, rfl, rfl, rfl⟩
  · have k (u : State) (b : List DWord) : (u.noteSnap r b).region x = u.region x := rfl
    rw [k, (State.mark_reads ..).1, State.setRegion_region]
    by_cases hx : x = r
    · subst hx
      rw [if_pos rfl, h]
      simp [Region.snap, Ledger.upTo]
    · simp [hx]

/-- Ending an episode leaves all of the page but the episode and its counts. -/
theorem State.endEpisode_page (s : State) (r c x : Nat) :
    ((s.endEpisode r c).region x).racg = (s.region x).racg
    ∧ ((s.endEpisode r c).region x).regs = (s.region x).regs
    ∧ ((s.endEpisode r c).region x).cal = (s.region x).cal
    ∧ ((s.endEpisode r c).region x).thermal = (s.region x).thermal
    ∧ ((s.endEpisode r c).region x).ledger = (s.region x).ledger
    ∧ ((s.endEpisode r c).region x).droop.event = (s.region x).droop.event
    ∧ ((s.endEpisode r c).region x).droop.sNow = (s.region x).droop.sNow := by
  unfold State.endEpisode
  split
  · exact ⟨rfl, rfl, rfl, rfl, rfl, rfl, rfl⟩
  · dsimp only
    split
    · by_cases h : x = r <;> simp [h]
    · unfold State.episodeCoach
      rw [State.formAt_region, State.pieceCoaches_region]
      by_cases h : x = r <;> simp [h]

theorem State.endEpisode_ended (s : State) (r c : Nat) :
    ((s.endEpisode r c).region r).droop.episode = none := by
  unfold State.endEpisode
  split
  · assumption
  · dsimp only
    split
    · simp
    · unfold State.episodeCoach
      rw [State.formAt_region, State.pieceCoaches_region]
      simp

@[simp] theorem State.endEpisode_now (s : State) (r c : Nat) :
    (s.endEpisode r c).now = s.now ∧ (s.endEpisode r c).tick = s.tick := by
  have k (l : List (Nat × Nat × Nat × Nat)) (t : DWord) : ∀ u : State,
      (u.pieceCoaches r t l).now = u.now ∧ (u.pieceCoaches r t l).tick = u.tick := by
    unfold State.pieceCoaches
    induction l with
    | nil => exact fun u => ⟨rfl, rfl⟩
    | cons p l ih =>
      intro u
      have := ih (u.episodeCoach r t 65536 p.1 p.2.1 p.2.2.1 p.2.2.2 endContinued)
      simpa [State.episodeCoach] using this
  unfold State.endEpisode
  split
  · exact ⟨rfl, rfl⟩
  · dsimp only
    split
    · simp
    · simp [State.episodeCoach, k]

theorem State.stopStretch_page (s : State) (r c x : Nat) :
    ((s.stopStretch r c).region x).racg = (s.region x).racg
    ∧ ((s.stopStretch r c).region x).regs = (s.region x).regs
    ∧ ((s.stopStretch r c).region x).cal.valid = (s.region x).cal.valid
    ∧ ((s.stopStretch r c).region x).thermal = (s.region x).thermal
    ∧ ((s.stopStretch r c).region x).ledger.sTot = (s.region x).ledger.sTot
    ∧ ((s.stopStretch r c).region x).droop.event = (s.region x).droop.event := by
  have h := s.endEpisode_page r c x
  have k := ((s.endEpisode r c).region r).phaseTo_keep s.now s.tick
  unfold State.stopStretch
  by_cases hx : x = r
  · subst hx
    simp only [State.updRegion_region, if_true]
    rw [k]
    simp [h]
  · simp [hx, h]

theorem State.stopStretch_ended (s : State) (r c : Nat) :
    ((s.stopStretch r c).region r).droop.episode = none ∧ ((s.stopStretch r c).region r).droop.sNow = 0 := by
  have k := ((s.endEpisode r c).region r).phaseTo_keep s.now s.tick
  unfold State.stopStretch
  simp only [State.updRegion_region, if_true]
  rw [k]
  simp [State.endEpisode_ended]

@[simp] theorem State.stopStretch_now (s : State) (r c : Nat) : (s.stopStretch r c).now = s.now := by
  simp [State.stopStretch]

/-- The end of an operation raises its bits, and ends a LIVE window that may not go on. -/
theorem State.regionDone_page (s : State) (r : Nat) (a b : Word) :
    ((s.regionDone r a b).region r).racg = (s.region r).racg
    ∧ ((s.regionDone r a b).region r).thermal = (s.region r).thermal
    ∧ ((s.regionDone r a b).region r).regs
        = { (s.region r).regs with event := (s.region r).regs.event ||| a }
    ∧ ((s.regionDone r a b).region r).cal.valid = (s.region r).cal.valid
    ∧ ((s.regionDone r a b).region r).droop = { (s.region r).droop with
        event := (s.region r).droop.event ||| (b ||| if (s.region r).liveCut.isSome then evProbeDone else 0) }
    ∧ ((s.region r).liveCut = none → ((s.regionDone r a b).region r).cal = (s.region r).cal
        ∧ ((s.regionDone r a b).region r).ledger = (s.region r).ledger) := by
  unfold State.regionDone
  split
  · rename_i q h
    have k := (s.region r).phaseTo_keep s.now s.tick
    rw [State.raiseRegion_region]
    simp only [if_true, State.updRegion_region]
    rw [k]
    simp [h]
  · rename_i h
    simp [State.raiseRegion_region, h]

end Sys2Proof.Machine
end

