-- ==== Sys2Proof/Tests/Slice0.lean ====
section
/-! SUPPORT. Tests of the model: for each check of WellFormed a term that it alone refuses; then one step of each
family, with the values that the worked examples of the spec give. -/

namespace Sys2Proof.Tests

open Sys2Proof Sys2Proof.Machine

theorem test_ill_formed_1 : ([
  .registerWrite .host 0xA1000 32 0,
  .registerWrite .host 0 16 0,
  .readLowWordLatch .host 0xA1000 32,
  .segSwap 26 [],
  .spareTrunkFail 2,
  .racgStart .host 208 0,
  .racgStart .host 0 16,
  .racgStop .host 208,
  .racgAcquire .host 208 0,
  .racgAcquire .host 0 16,
  .racgSwap .host 208,
  .racgReturn .host 208,
  .toBypass .host 208,
  .racgOpen .host 208,
  .racgClose .host 208,
  .racgReservedCmd .host 208 9,
  .racgReservedCmd .host 0 8,
  .racgReservedCmd .host 0 16,
  .lock 208 0,
  .lock 0 16384,
  .lossOfLock 208 .noEdge,
  .outputSwitchComplete 208,
  .ceilLimited 208,
  .ceilTblWrite .host 208 0 0] : List Instr).all (fun c => !c.wellFormed) = true := by
  decide

theorem test_ill_formed_2 : ([
  .ceilTblWrite .host 0 16 0,
  .armMessage 4 0,
  .armMessage 0 208,
  .doorTaken 208,
  .rampStep 208 0,
  .rampStep 0 16384,
  .dcoMeasStart .host 208 0,
  .dcoMeasStart .host 0 16384,
  .measDone 208 0,
  .phaseCtlWrite .host 208 0,
  .phaseDone 208,
  .refLost 208,
  .holdExit 208,
  .shutterClosed 208,
  .shutterOpened 208,
  .clrMargin .host 208,
  .droopCrossing 208 0 [],
  .episodeEnd 208 [],
  .episodeContinued 208,
  .thermalConversion 208 0 0,
  .detMaskWrite .host 208 0,
  .detCalSelWrite .host 208 0,
  .detTrimWrite .host 208 0 0,
  .detTrimWrite .host 0 4 0] : List Instr).all (fun c => !c.wellFormed) = true := by
  decide

theorem test_ill_formed_3 : ([
  .probeStart .host 208 0 false,
  .probeStart .host 0 64 false,
  .probeDone 208 0 false [],
  .calDone .host 208,
  .calExpired 208,
  .snap .host 208,
  .periodicSnapshot 208,
  .forecast 160 0,
  .windowClose 160,
  .ldwarnDeassert 4,
  .staggerSlotExpiry 16,
  .avsGo .host 4 0,
  .avsGo .host 0 0x10000,
  .avsFrameEnd 4 .noResponse,
  .avsSettleDone 4,
  .gearTableWrite .host 16 false 0,
  .slotGo .host 4 0 false,
  .slotGo .host 0 16 false,
  .armAcknowledgement 4 0,
  .armAcknowledgement 0 208,
  .armingDeadline 4,
  .cancelMessage 4 0,
  .cancelMessage 0 208,
  .cancelAck 4 0] : List Instr).all (fun c => !c.wellFormed) = true := by
  decide

theorem test_ill_formed_4 : ([
  .cancelAck 0 208,
  .cancelResend 4,
  .cancelLost 4,
  .slotAbort .host 4,
  .settleCheck 4,
  .thermTripClr .host 7 0,
  .couplerWrite 832 true [] false false,
  .couplerRead 832 true false [] false,
  .cplEnable .host 936,
  .enableComplete 832,
  .cplDrain .host 936 false,
  .drained 832,
  .cplHold .host 936,
  .held 832,
  .holdSlow 832,
  .cplRelease .host 936,
  .cplSwap .host 936,
  .cplUnswap .host 936,
  .swapped 832,
  .cplDisable .host 936,
  .cplReservedCmd .host 936 0,
  .cplReservedCmd .host 0 16,
  .stallLong 832,
  .clrStats .host 936] : List Instr).all (fun c => !c.wellFormed) = true := by
  decide

theorem test_ill_formed_5 : ([
  .measArm .host 64 false,
  .measDisarm .host 64,
  .measReservedCmd .host 64 3,
  .measReservedCmd .host 0 2,
  .measReservedCmd .host 0 8,
  .measCfgWrite .host 64 0 0,
  .measCfgWrite .host 0 3 0,
  .measCalDone 64 { a1 := 0, a2 := 0, b1 := 0, b2 := 0 },
  .startEdge 64 0 0,
  .stopEdge 64 0 0,
  .resultComplete 64 false,
  .orphan 64,
  .overflow 64 false,
  .resultHeadRead .host 64,
  .streamStamp 64 0 0,
  .streamRecal 64 false 0 0,
  .streamCoachTimeout 64,
  .coachWritten 96,
  .qPop .host 96,
  .rdLo .host 96,
  .rdHi .host 96,
  .heldReadComplete 96,
  .flush .host 96,
  .flushDone 96] : List Instr).all (fun c => !c.wellFormed) = true := by
  decide

theorem test_ill_formed_6 : ([
  .qDisable .host 96,
  .mark .host 96,
  .rewind .host 96,
  .clrCounts .host 96,
  .poolDebugWrite .host 262143 0,
  .poolDebugWrite .host 0x60000 0,
  .poolDebugWrite .host 0x40002 0,
  .alignWordSend 16,
  .alignWordReceive 16 0 0 0,
  .peerLost 16,
  .cmpArm .host 8,
  .slotFired 8,
  .gtConfigWrite .host 20479 0,
  .gtConfigWrite .host 0x06000 0,
  .mapPortMessage 256 0,
  .mapPortMessage 0 65536,
  .fence .host 256 false,
  .adopt .host 256,
  .unfence .host 256,
  .fenceReservedCmd .host 256,
  .feedNote .host 16,
  .partnerWrite .host 4 0,
  .stamp .host false 65536,
  .add 4] : List Instr).all (fun c => !c.wellFormed) = true := by
  decide

theorem test_ill_formed_7 : ([
  .sub 4,
  .and 4,
  .or 4,
  .xor 4,
  .shl 4,
  .shr 4,
  .sra 4,
  .mul 4,
  .slt 4,
  .sltu 4,
  .addi 4,
  .andi 4,
  .ori 4,
  .xori 4,
  .shli 4,
  .shri 4,
  .srai 4,
  .lui 4,
  .slti 4,
  .beq 4,
  .bne 4,
  .blt 4,
  .bge 4,
  .bltu 4] : List Instr).all (fun c => !c.wellFormed) = true := by
  decide

theorem test_ill_formed_8 : ([
  .bgeu 4,
  .jal 4,
  .jalr 4,
  .rds 4,
  .ld 4,
  .st 4,
  .xchg 4,
  .ldk 4,
  .stk 4,
  .rdt 4,
  .waitt 4,
  .waitr 4,
  .timedWaitEnd 4,
  .waite 4,
  .eventWaitEnd 4,
  .setev 4,
  .clrev 4,
  .dwait 4,
  .doorWaitEnd 4,
  .bcast 4,
  .bcastMessage 0 208 false,
  .armd 4,
  .armdLand 4,
  .push 4] : List Instr).all (fun c => !c.wellFormed) = true := by
  decide

theorem test_ill_formed_9 : ([
  .pushGrant 4,
  .pop 4,
  .tstart 4,
  .tstop 4,
  .halt 4,
  .illegalInstruction 4,
  .seqRestart .host 16,
  .seqStop .host 16,
  .submit .host 16,
  .cmdStatus 4 false,
  .cmdGearChange 4 false,
  .cmdGearAbort 4 false,
  .cmdRacg 4 false,
  .cmdCoupler 4 false,
  .cmdFence 4 false,
  .cmdAdopt 4 false,
  .cmdUnfence 4 false,
  .cmdMeasArm 4 false false,
  .cmdMeasDisarm 4 false,
  .cmdGtJoin 4 false,
  .cmdGtLeave 4 false,
  .cmdSnapStamp 4 false,
  .cmdSnapAck 4 false,
  .cmdPartners 4 false] : List Instr).all (fun c => !c.wellFormed) = true := by
  decide

theorem test_ill_formed_10 : ([
  .cmdMalformed 4,
  .mailboxSlotRead .host 32,
  .coldResetEnd 8 0,
  .coldResetEnd 0 16,
  .evtInAssert 4,
  .evtInDeassert 4,
  .read32 0x100000,
  .write32 0x100000 0 .absent,
  .readn 0x100000 0,
  .readn 0 256,
  .smbBadCommand 256 0,
  .smbBadCommand 0 256,
  .lcEnd .host 65536,
  .keyInstall .host 65536,
  .revoke .host 65536,
  .raiseFloor .host 65536,
  .lcReservedCmd .host 16,
  .mailboxMirrorUpdate (2^40) 0,
  .mailboxMirrorUpdate 0 (2^32)] : List Instr).all (fun c => !c.wellFormed) = true := by
  decide

/-! ## One step of each family, against the worked examples of the spec -/

/-- What the command leaves, seen through `f`; none where it does not answer a next state. -/
def after {α : Type} (c : Instr) (s : State) (f : State → α) : Option α :=
  match Sys2Proof.Machine.exec c s with
  | .next t => some (f t)
  | _ => none

/-- Time 10,000 after reset, TICK valid and 4,000. -/
def base : State := { State.reset with now := 10000, tick := 4000, ref := { State.reset.ref with tickValid := true } }

/-- `base` with the regions given. -/
def regs (l : Tbl Region) : State := { base with regions := l }

/-- The pages of core region 57 and its couplers (01, "the pages of core region 57"). -/
theorem test_pages : regionPage 57 = 0x13900 ∧ cplPage 228 = 0x21C80 ∧ cplSpare 229 = 860 ∧ cplPage 860 = 0x26B80
    ∧ cplOwner 228 = 57 ∧ cplOwner 231 = 57 := by decide

/-- A read of KTC_STATUS over SMBus with TICK_VALID, SPINE_READY and SEQ_ROM answers 7 (15, "bringing up a
board"). -/
theorem test_read32_status : (let s := { base with seq := { base.seq with mode := .rom, tasks := [(0, { state := .ready })] } };
    after (.read32 4) s (fun t => t.out.readData.map (· &&& 7))) = some (some 7) := by decide

/-- HOLDOVER_TIME counts 1,024 tk units: 2,205,000 tk are 2,153 (02, "holdover and return"). -/
theorem test_holdover_time : (RefRoot.holdTime { holdAt := some 12 } 2205000) = 2153 := by decide

/-- SWAP of region 57: DCO1 starts at 11,229 − 256 = 10,973 (03, "bringing in the spare DCO"). -/
theorem test_swap : after (.racgSwap .seq 57)
      (regs [(57, { racg := { state := .locked, gear := 2, dcw := 11280, shutter := true },
                    regs := { ceilTbl := [(2, 0x2BDD2D00)] } })])
      (fun t => ((t.region 57).racg.dcoSel, (t.region 57).racg.dcw, decide ((t.region 57).racg.state = .acquire)))
    = some (true, 10973, true) := by decide

/-- k of the readings 6, 5, 4, 3, 2 and 7 with BASE 6 and K_STEP 2 (04, "a 40 mV droop on cluster 5"). -/
theorem test_sample_k : [6, 5, 4, 3, 2, 7].map (sampleK 2 6) = [1, 1, 2, 2, 3, 0] := by decide

/-- The stretch follows k two edges later and eases by 1 an edge (04, the same). -/
theorem test_next_s : Droop.nextS { k2 := 1, sNow := 0 } = 1 ∧ Droop.nextS { k2 := 3, sNow := 2 } = 3
    ∧ Droop.nextS { k2 := 0, sNow := 3 } = 2 := by decide

/-- Classes 7, 7, 7 and 5, staggers 0, 5, 13 and 21, closing ticks a + 336 and a + 342 (05, "four cores of
cluster 5"). -/
theorem test_forecast_classes : fcFraction 256 256 = 8 ∧ fcClass 12 8 = 7 ∧ fcFraction 100 256 = 4 ∧ fcClass 9 4 = 5
    ∧ closeTick 0 0 16 32 16 = 336 ∧ closeTick 0 21 16 32 16 = 342 := by decide

theorem test_forecast_stagger :
    chooseStagger [] 2 0 32 7 10 65 0 = (0, false) ∧ chooseStagger [(32, 7)] 2 0 32 7 10 65 0 = (5, false)
    ∧ chooseStagger [(32, 7), (33, 7)] 2 0 32 7 10 65 0 = (13, false)
    ∧ chooseStagger [(32, 7), (33, 7), (34, 7)] 2 0 32 5 10 65 0 = (21, false) := by decide

/-- G-entry 2 has N = 32 and G-entry 8 N = 34 (06, "two steps up on rail 1"). -/
theorem test_gears : base.gearN 2 = 32 ∧ base.gearN 8 = 34 := by decide

/-- A ramp step of region 57 8 tk after the door: RATIO 1,024 to 1,025 (06, the same). -/
theorem test_ramp_step : after (.rampStep 57 11000)
      (regs [(57, { racg := { state := .ramp, gear := 8, ratio := 1024, ratioTo := 1088, moving := true,
                              rampDoor := 3992 }, regs := { ceilTbl := [(8, 12000)] } })])
      (fun t => (t.region 57).racg.ratio) = some 1025 := by decide

/-- HOLD of a FLOWING coupler makes it HOLDING (07, "lane 860 replaces coupler 229"). -/
theorem test_cpl_hold : after (.cplHold .seq 229) { base with cpls := [(229, { state := .flowing })] }
    (fun t => decide ((t.cpl 229).state = .holding)) = some true := by decide

/-- SUM1 253, SUM2 515, start 60, stop 34 and 7 periods: 249 LSB (08, "the offset between REFA and REFB"). -/
theorem test_interval :
    MeasChan.intervalOf { startRaw := 60, sums := { a1 := 253, a2 := 515, b1 := 253, b2 := 515 } } 7 34
    = (249, false) := by decide

set_option maxRecDepth 8000 in
/-- COAL is due above COAL_ON, not at it (09, "dense training fills the pool"), and COALESCE_START sets it. -/
theorem test_coalesce_start :
    (let s := fun on => { base with pool := { base.pool with
       cfg := on, queues := [(95, { coaches := [{ src := 0, words := [], carts := [7, 8], grantAt := 0 }] })] } };
     ((s 1).poolUse.pool.coalDue, (s 2).poolUse.pool.coalDue,
      after .coalesceStart (s 1).poolUse (·.pool.coal))) = (true, false, some true) := by decide

/-- theta of +86.79 ps over 8,192 tk moves integ from 2,400 to 2,486 ppb and STEER to −3,876 ppb (10, "one exchange
and one servo step"). -/
theorem test_steer :
    (let s := { base with gt := { base.gt with integ := 2400 } };
     let t := s.steerBy 3645 8192; (t.gt.integ, t.gt.steer)) = (2486, -3876) := by decide

set_option maxRecDepth 8000 in
/-- The six scores weigh to R = 622, and H goes 294, 458, 540, 581, 602 (11, "core region 57 wears out"). -/
theorem test_hazard :
    kneeScore (kneeReset 0) 9000 = 101 ∧ kneeScore (kneeReset 1) 700 = 168 ∧ kneeScoreInv (kneeReset 4) 40 = 255
    ∧ weigh base.hz.wtCore [101, 168, 255, 255, 0, 0] = 622
    ∧ [294, 458, 540, 581].map (hzFilter 1 8 622) = [458, 540, 581, 602] := by decide

set_option maxRecDepth 8000 in
/-- The encodings of the program of 12, "arming a door from a program": OP, D, A, B and X. -/
theorem test_encodings :
    [0xC0800000, 0x41080190, 0x2D908000, 0x054D8000, 0xE5E90008, 0xA41C0004, 0xEA000000].map
      (fun w => (decodeIns w).map (fun i => (i.op, i.d, i.a, i.b, i.x)))
    = [some (0x30, 2, 0, 0, 0), some (0x10, 4, 2, 0, 400), some (0x0B, 6, 4, 2, 0), some (0x01, 5, 3, 6, 0),
       some (0x39, 7, 10, 4, 8), some (0x29, 0, 7, 0, 4), some (0x3A, 8, 0, 0, 0)] := by decide

/-- `add g5, g3, g6` in task 0 with G3 = 0xFFFFFFFF and G6 = 1: the sum wraps to 0. -/
theorem test_add : after (.add 0) { base with seq := { base.seq with
      mode := .image, imem := [(0, 0x054D8000)],
      tasks := [(0, { state := .ready, g := [(3, 0xFFFFFFFF), (5, 9), (6, 1)] })] } }
    (fun t => ((t.task 0).reg 5, (t.task 0).pc)) = some (0, 1) := by decide

/-- `bne g7, g0, +4` with G7 = 4 goes to address 4 beyond it. -/
theorem test_bne : after (.bne 0) { base with seq := { base.seq with
      mode := .image, imem := [(0x45, 0xA41C0004)],
      tasks := [(0, { state := .ready, pc := 0x45, g := [(7, 4)] })] } } (fun t => (t.task 0).pc)
    = some 0x49 := by decide

set_option maxRecDepth 8000 in
/-- An image word that is not the magic number fails the load at the 16th word with code 2 (13, R375). -/
theorem test_image_magic :
    after (.imgData .host 0) { base with seq := { base.seq with mode := .loading, received := 15 } }
      (fun t => (t.seq.loadRes, decide (t.seq.mode = .rom))) = some (2, true) := by decide

/-- SUBMIT with LENGTH 1 is refused and counted (13, R381). -/
theorem test_submit : after (.submit .host 1) base (fun t => (t.cmd.refused, t.cmd.busy.isSome)) = some (1, false) := by
  decide

/-- Sealed parameters of the steady load: V_GAIN 781,250, I_GAIN 390,625 (14, "two intervals at a steady load"). -/
def load : Params := { vGain := 781250, iGain := 390625, ver := 7 }

/-- 71.875 V and 34.375 A are 2.470703125 × 10^15 pW. -/
theorem test_power : load.power (packD [(40, 24, 6029312), (16, 24, 5767168), (15, 1, 1)]) = 2470703125000000 := by
  decide

/-- 480,000 samples are 148,242,187 mJ with half a mJ carried, and the next interval has 148,242,188 mJ; 60 s
pass. -/
theorem test_energy :
    (energyOf load (2470703125000000 * 480000) 0).1 = 148242187
    ∧ energyOf load (2470703125000000 * 480000) (energyOf load (2470703125000000 * 480000) 0).2 = (148242188, 0)
    ∧ elapsedUs load 600000000 = 60000000 := by decide

set_option maxRecDepth 8000 in
/-- RECORD_SEQ 41,206 follows 41,205, its part 0 is COACH_SEQ 123,619 (14, the same). -/
theorem test_record :
    after (.intervalClose 600000000) { base with island := { base.island with
        up := true, mrefOk := true, adcOk := true, lcSeen := 2, hasKey := true, first := false, recordSeq := 41205,
        coachSeq := 123618, params := load, interval := some { sum := 2470703125000000 * 480000, cycles := 600000000 } } }
      (fun t => (t.island.recordSeq, t.island.energyCum, (t.island.log.headD ⟨0, []⟩).seq, t.island.coachSeq))
    = some (41206, 148242187, 123619, 123621) := by decide

/-- An unlock of DURATION 30 leaves 30,720 units (16, "a service unlock in FIELD"). -/
theorem test_unlock_left : (let s := { base with lc := { base.lc with
      state := .field, unlock := some 2, unlockAt := 10000, unlockDur := 30 } }; s.unlockLeft) = 30720 := by decide

/-- A host write to 0x13988 in FIELD is ignored and counted, LAST_OFFSET 0x1398 (16, the same); with the windows open
it is carried out. -/
theorem test_ignored : after (.registerWrite .host 0x13988 32 7)
      { base with lc := { base.lc with state := .field } } (fun t => (t.glob.ignored, t.glob.lastOff))
    = some (1, 0x1398) := by decide

theorem test_priv_write : after (.registerWrite .host 0x13988 32 7)
      { base with lc := { base.lc with state := .field, unlock := some 2, unlockDur := 30 } }
      (fun t => (t.glob.ignored, t.readReg 0x13988 &&& 0x3F)) = some (0, 7) := by decide

/-- The step takes the front command, and an empty queue is one die tick. -/
theorem test_step_queue :
    (match Sys2Proof.Machine.step { base with pending := [.submit .host 1, .smbTimeout] } with
      | .next t => some (t.pending, t.cmd.refused, t.now) | _ => none) = some ([.smbTimeout], 1, 10000)
    ∧ (match Sys2Proof.Machine.step base with | .next t => some (t.now, t.tick) | _ => none)
      = some (10001, 4001) := by decide

end Sys2Proof.Tests
end

