-- ==== Sys2Proof/Tests/Witness.lean ====
section
/-! SUPPORT. States and operands that meet the hypotheses of the statements: for each obligation named theorems
witness_<its name>, clause by clause, at the boundary values of their ranges. A clause whose hypothesis rests on a
free value of Config (a signature, a curve point) is witnessed up to that value. -/

namespace Sys2Proof.Tests

open Sys2Proof Sys2Proof.Machine

/-- After reset: BLANK, privileged windows open, nothing running. -/
def cold : State := State.reset

/-- Both roots run: RPA ACTIVE on A, RPB STANDBY on B and eligible, TICK valid. -/
def warm : State := { State.reset with
  now := 1000000, tick := 840,
  ref := { State.reset.ref with
    tickValid := true, refA := { state := .qualified, edges := true },
    refB := { state := .qualified, edges := true, passSince := some 0 }, watchRef := .B, refbFitted := true,
    rpa := { state := .active, ref := .A }, rpb := { state := .standby, ref := .B }, detPhase := true } }

/-- The same with other references and roots. -/
def warmRef (f : RefRoot → RefRoot) : State := { warm with ref := f warm.ref }

/-- Cold, with other references and roots, 2^20 tk after the reset. -/
def coldRef (f : RefRoot → RefRoot) : State := { State.reset with now := 1048576, ref := f State.reset.ref }

/-- In FIELD with privileged windows closed. -/
def field : State := { warm with lc := { warm.lc with state := .field } }

/-! ## References, roots and spine -/

/-- A reference present, B not; RPB idle. -/
def qualA : State := coldRef (fun x => { x with
  refA := { state := .qualifying, qualAt := 1048576 - 525000 } })

/-- The active root in HOLDOVER, reference A coming back. -/
def holding : State := warmRef (fun x => { x with
  rpa := { state := .holdover, ref := .A, frozen := true }, watchRef := .A, holdAt := some 0,
  refA := { state := .qualifying, qualAt := 475000 }, refB := {}, rpb := { state := .holdover, frozen := true } })

theorem witness_ReferenceMonitoring_presence :
    (Live cold ∧ NoOrderNow cold ∧ cold.ref.enabled .A = true ∧ (cold.ref.input .A).state = .absent)
    ∧ (Live warm ∧ NoOrderNow warm ∧ warm.mayWrite .host 0x01000 = true ∧ warm.before .host 0x01000 = none
      ∧ Ref.B ≠ warm.ref.activeRef)
    ∧ (Live field ∧ field.mayWrite .seq 0x01000 = true ∧ field.before .seq 0x01000 = none
      ∧ Ref.B ≠ field.ref.activeRef)
    ∧ (Live qualA ∧ NoOrderNow qualA ∧ qualA.ref.tickValid = false
      ∧ (qualA.ref.input .A).state = .qualifying) := by decide

/-- Figures at the limits of WATCH_LIMITS after reset. -/
def atLimits : WatchFigures :=
  { freqPpm := -(fld warm.ref.watchLimits 0 8 : Int), jitRms := max 3 (fld warm.ref.watchLimits 8 8),
    ppDevPs := 4 * fld warm.ref.watchLimits 16 8, duty := 50 + fld warm.ref.watchLimits 24 4 }

theorem witness_ReferenceMonitoring_watch :
    (Live warm ∧ NoOrderNow warm ∧ warm.ref.tickValid = true ∧ (warm.ref.input warm.ref.watchRef).state ≠ .absent
      ∧ (warm.ref.input warm.ref.watchRef).winAt + 344064 ≤ warm.now
      ∧ FiguresPass warm atLimits
      ∧ ¬FiguresPass warm { atLimits with jitRms := atLimits.jitRms + 1 }
      ∧ ¬FiguresPass warm { atLimits with ppDevPs := atLimits.ppDevPs + 1 })
    ∧ PeriodTestFails warm (.period (atLimits.ppDevPs + 1)) ∧ PeriodTestFails warm (.duty (atLimits.duty + 1))
    ∧ ¬PeriodTestFails warm (.period atLimits.ppDevPs) ∧ ¬PeriodTestFails warm (.duty atLimits.duty)
    ∧ PeriodTestFails warm (.missing true) ∧ PeriodTestFails warm (.missing false) := by
  refine ⟨by unfold FiguresPass; decide, ?_, ?_, ?_, ?_, trivial, trivial⟩ <;>
    (unfold PeriodTestFails; decide)

theorem witness_ReferenceMonitoring_qualification :
    (Live qualA ∧ NoOrderNow qualA ∧ qualA.ref.tickValid = false ∧ (qualA.ref.input .A).state = .qualifying
      ∧ (qualA.ref.input .A).qualAt + 525000 ≤ qualA.now ∧ qualA.ref.rpa.state = .idle ∧ Ref.A = qualA.ref.preferred)
    ∧ (Live holding ∧ NoOrderNow holding ∧ holding.ref.tickValid = true ∧ holding.ref.watchRef = .A
      ∧ FiguresPass holding atLimits ∧ (holding.ref.input .A).state = .qualifying
      ∧ (holding.ref.input .A).qualAt + 525000 ≤ holding.now ∧ holding.ref.activeRoot.state = .holdover
      ∧ (wrapPhase 39975).natAbs ≤ 25 ∧ 25 < (wrapPhase 39974).natAbs)
    ∧ (∃ s : State, Live s ∧ NoOrderNow s ∧ s.ref.tickValid = false ∧ s.ref.prefWait = some (.B, 523576)
      ∧ 523576 + 525000 ≤ s.now ∧ s.ref.rpa.state = .idle ∧ s.ref.qualified .B = true) :=
  ⟨by decide, by unfold FiguresPass; decide,
    ⟨coldRef (fun x => { x with prefWait := some (.B, 523576), refB := { state := .qualified } }), by decide⟩⟩

theorem witness_AMissingEdgeAloneHasNoEffect :
    let s := warmRef (fun x => { x with missRun := 1, rpa := { x.rpa with frozen := true } });
    Live s ∧ s.ref.tickValid = true ∧ s.ref.missRun = 1 ∧ s.ref.onRef = true := by decide

theorem witness_LossesAndFaultsOfReferencesAndRoots_loss :
    (Live warm ∧ warm.ref.tickValid = true ∧ (warm.ref.input warm.ref.activeRef).state ≠ .absent
      ∧ ActiveRefWatched warm ∧ warm.ref.missRun = 0)
    ∧ (let s := warmRef (fun x => { x with missRun := 1 });
      Live s ∧ s.ref.tickValid = true ∧ (s.ref.input s.ref.activeRef).state ≠ .absent
        ∧ ActiveRefWatched s ∧ s.ref.missRun ≠ 0 ∧ s.ref.eligible s.now = true
        ∧ s.ref.standbyRoot.ref ≠ s.ref.activeRef ∧ s.ref.watchRef = otherRef s.ref.activeRef
        ∧ s.ref.switchDue = none)
    ∧ (let s := warmRef (fun x => { x with missRun := 1, rpb := { state := .fault } });
      Live s ∧ s.ref.missRun ≠ 0 ∧ s.ref.eligible s.now = false ∧ s.ref.onRef = true ∧ s.ref.switchDue = none
        ∧ s.mayWrite .host 0x01000 = true ∧ s.before .host 0x01000 = none)
    ∧ (let s := warmRef (fun x => { x with rpa := { state := .fault, ref := .A } });
      s.ref.onRef = false ∧ ActiveRefWatched s) := by decide

theorem witness_LossesAndFaultsOfReferencesAndRoots_roots :
    (let s := coldRef (fun x => { x with rpa := { state := .acquire, acqAt := 838576 },
                                         refA := { state := .qualified } });
      Live s ∧ NoOrderNow s ∧ s.ref.tickValid = false ∧ (s.ref.pll .rpa).state = .acquire
        ∧ s.ref.qualified (s.ref.pll .rpa).ref = true ∧ s.now ≤ (s.ref.pll .rpa).acqAt + 210000
        ∧ (s.ref.pll .rpa).acqAt + 210000 ≤ s.now ∧ (wrapPhase 40025).natAbs ≤ 25)
    ∧ (let s := warmRef (fun x => { x with rpa := { state := .acquire, acqAt := 790000 } });
      Live s ∧ NoOrderNow s ∧ s.ref.tickValid = true ∧ (s.ref.pll .rpa).state = .acquire ∧ Root.rpa = s.ref.tickSrc
        ∧ s.ref.qualified (s.ref.pll .rpa).ref = true ∧ s.now ≤ (s.ref.pll .rpa).acqAt + 210000)
    ∧ (let s := warmRef (fun x => { x with rpb := { state := .acquire, ref := .B, acqAt := 999999 } });
      Live s ∧ NoOrderNow s ∧ s.ref.tickValid = true ∧ (s.ref.pll .rpb).state = .acquire ∧ Root.rpb ≠ s.ref.tickSrc
        ∧ s.ref.qualified (s.ref.pll .rpb).ref = true ∧ s.now ≤ (s.ref.pll .rpb).acqAt + 210000)
    ∧ (let s := warmRef (fun x => { x with refB := {}, rpb := { state := .acquire, ref := .B } });
      s.ref.qualified (s.ref.pll .rpb).ref = false ∧ (s.ref.pll .rpb).acqAt + 210000 < s.now)
    ∧ ((warm.ref.pll .rpa).state = .active ∧ (warm.ref.pll .rpb).state = .standby ∧ NoOrderNow warm)
    ∧ (let s := warmRef (fun x => { x with rpa := { state := .fault } });
      Live s ∧ NoOrderNow s ∧ s.mayWrite .host 0x0101C = true ∧ s.ref.tickValid = true ∧ Root.rpa = s.ref.tickSrc
        ∧ s.ref.activeRoot.state = .fault ∧ s.ref.qualified s.ref.preferred = true)
    ∧ (let s := warmRef (fun x => { x with rpa := { state := .fault }, refA := {} });
      s.ref.qualified s.ref.preferred = false ∧ s.ref.qualified (otherRef s.ref.preferred) = true)
    ∧ (let s := warmRef (fun x => { x with rpb := { state := .fault }, refA := {}, refB := {} });
      Live s ∧ (s.ref.pll .rpa).state ≠ .fault ∧ s.ref.qualified .A = false ∧ s.ref.qualified .B = false) := by
  decide

theorem witness_RootSwitchoversAndSlew :
    (Live warm ∧ warm.mayWrite .host 0x01000 = true ∧ warm.ref.eligible warm.now = true ∧ warm.ref.switchDue = none
      ∧ warm.ref.watchFix warm.now = warm.ref)
    ∧ (let s := warmRef (fun x => { x with rpb := { state := .fault } });
      Live s ∧ s.mayWrite .seq 0x01000 = true ∧ s.ref.eligible s.now = false)
    ∧ (let s := warmRef (fun x => { x with switchDue := some 1000002, forcedAt := some 1000000 });
      Live s ∧ s.ref.tickValid = true ∧ s.ref.forcedAt = some s.now ∧ s.ref.switchDue = some (s.now + 2)
        ∧ s.ref.onRef = true ∧ (s.ref.input s.ref.activeRef).state ≠ .absent
        ∧ s.ref.watchRef = otherRef s.ref.activeRef ∧ s.ref.standbyRoot.ref = s.ref.watchRef
        ∧ (s.ref.input s.ref.watchRef).state ≠ .absent)
    ∧ (let s := warmRef (fun x => { x with switchDue := some 1000000 });
      Live s ∧ s.ref.switchDue = some 1000000 ∧ 1000000 ≤ s.now ∧ s.ref.standbyRoot.state = .standby
        ∧ s.ref.qualified s.ref.standbyRoot.ref = true ∧ s.ref.activeRoot.state = .active)
    ∧ (let s := warmRef (fun x => { x with switchDue := some 0, rpa := { state := .fault }, refB := {} });
      Live s ∧ s.ref.standbyRoot.state = .standby ∧ s.ref.activeRoot.state = .fault
        ∧ ¬(s.ref.onRef = true ∧ s.ref.qualified s.ref.activeRef = true))
    ∧ (let s := warmRef (fun x => { x with switchDue := some 0, rpb := { state := .fault } });
      s.ref.standbyRoot.state ≠ .standby ∧ s.ref.onRef = true ∧ s.ref.qualified s.ref.activeRef = true)
    ∧ (let s := warmRef (fun x => { x with switchDue := some 0, refA := {}, rpb := { state := .fault } });
      s.ref.standbyRoot.state ≠ .standby ∧ s.ref.onRef = true ∧ s.ref.qualified s.ref.activeRef = false)
    ∧ (let s := warmRef (fun x => { x with switchDue := some 0, refB := {} });
      s.ref.standbyRoot.state = .standby ∧ s.ref.qualified s.ref.standbyRoot.ref = false ∧ s.ref.onRef = true
        ∧ s.ref.qualified s.ref.activeRef = true)
    ∧ (let s := { warmRef (fun x => { x with refCtl := 0x1F, revertSince := some 475000 }) with now := 1000000 };
      Live s ∧ bit s.ref.refCtl 3 = true ∧ s.ref.eligible s.now = true ∧ s.ref.switchDue = none
        ∧ s.ref.revertSince = some 475000 ∧ s.ref.watchFix s.now = s.ref
        ∧ 475000 + max 1 (fld s.ref.refCtl 8 8) * 525000 ≤ s.now)
    ∧ (let s := warmRef (fun x => { x with rpa := { state := .slew }, phaseOfs := -1025, slewRoom := 525000 });
      Live s ∧ NoOrderNow s ∧ s.ref.activeRoot.state = .slew ∧ (wrapPhase (-25)).natAbs ≤ 25
        ∧ 525 * (s.ref.phaseOfs - wrapPhase (-25)).natAbs ≤ s.ref.slewRoom) := by decide

theorem witness_TickSpineSegments :
    (Live warm ∧ NoOrderNow warm ∧ warm.ref.tickValid = true ∧ bit warm.ref.segFailed 25 = false
      ∧ warm.ref.spareSeg (segHalf 25) ≠ some 25 ∧ warm.ref.spareSeg (segHalf 25) = none
      ∧ warm.ref.spareFail (segHalf 25) = false ∧ warm.ref.spareFail 1 = false)
    ∧ (let s := { warm with
        doors := { warm.doors with slots := [(3, { armOut := setOne 207, canOut := setOne 200 })] },
        seq := { warm.seq with bcasts := [{ set := setOne 200, off := 0, v := 0, sent := 999999 }] } };
      OnItsWay 25 s (.arm 3 207) ∧ OnItsWay 25 s (.cancel 3 200) ∧ OnItsWay 25 s (.bcast 0 200)
        ∧ ¬OnItsWay 25 s (.arm 3 199))
    ∧ (let s := warmRef (fun x => x.setSpareSeg (segHalf 25) (some 24));
      s.ref.spareSeg (segHalf 25) ≠ some 25 ∧ ¬(s.ref.spareSeg (segHalf 25) = none)) := by
  refine ⟨by decide, ⟨by unfold OnItsWay; decide, by unfold OnItsWay; decide, ?_, by unfold OnItsWay; decide⟩,
    by decide⟩
  exact ⟨by decide, _, rfl, by decide⟩

/-! ## Regional generators -/

/-- A ceiling for the first and the last gear, on both DCOs. -/
def ceils : RacgRegs := { ceilTbl := [(0, 0x10001000), (15, 0x10001000)] }

/-- Regions in every state of the generator; 207 is the last. -/
def fleet : State := { warm with
  seq := { warm.seq with ready := true }
  regions := [
  (0, { regs := ceils }),
  (1, { racg := { state := .bypass }, regs := ceils }),
  (2, { racg := { state := .ready, shutter := true }, regs := ceils, cal := { valid := true } }),
  (3, { racg := { state := .locked, dcw := 4096 }, regs := ceils, cal := { valid := true } }),
  (4, { racg := { state := .locked, shutter := true, armed := true, armGear := 15, armDoor := 840 },
        regs := ceils }),
  (5, { racg := { state := .ramp, moving := true, ratio := 256, ratioTo := 257, rampDoor := 832 },
        regs := ceils }),
  (6, { racg := { state := .hold, refLost := true, lostAt := 999936 } }),
  (7, { racg := { state := .acquire, acqAt := 995904, acqCeil := [(0, 0)], outSwitch := none } }),
  (8, { racg := { state := .bypass, outSwitch := some { toDco := false, due := 1000000 } } }),
  (9, { racg := { state := .ready, outSwitch := some { toDco := true, due := 1000000 } } }),
  (10, { racg := { state := .locked, dcw := 4096 }, margin := { since := some 999936 }, regs := ceils }),
  (11, { racg := { state := .locked, shutterTo := some false, shutter := true },
         regs := { measRun := some (16383, 995904) } }),
  (12, { racg := { state := .locked, shutterTo := some true }, phase := { walk := some { since := 999999 } } }),
  (13, { racg := { state := .acquire, acqAt := 995904, acqCeil := [(0, 16384)] } }),
  (16, { racg := { state := .locked, armed := true, armDoor := 841 } }),
  (17, { racg := { state := .acquire, acqAt := 995905 } }),
  (19, { racg := { state := .bypass, refLost := true, lostAt := 999999, shutter := true } }),
  (20, { ledger := { due := 1 } }),
  (21, { racg := { state := .locked }, thermal := { convAt := some 934464, trip := true, guard := true } }),
  (207, { racg := { state := .off } })] }

theorem witness_RacgCommands_carried_out :
    (CmdReaches .host 0 fleet ∧ CmdReaches .seq 207 fleet ∧ (gen fleet 0).refLost = false
      ∧ fleet.ref.tickValid = true ∧ fleet.seq.ready = true
      ∧ (gen fleet 0).state = .off ∧ fleet.gearValid 0 = true ∧ fleet.gearValid 15 = true
      ∧ (fleet.region 0).ceilField (gen fleet 0).dcoSel 15 ≠ 0)
    ∧ (CmdReaches .host 3 fleet ∧ (gen fleet 3).state ≠ .off ∧ (gen fleet 3).shutter = false
      ∧ (gen fleet 3).armed = false)
    ∧ (CmdReaches .host 1 fleet ∧ (gen fleet 1).refLost = false ∧ (gen fleet 1).state = .bypass
      ∧ (fleet.region 1).ceilField (gen fleet 1).dcoSel 0 ≠ 0 ∧ (gen fleet 1).armed = false)
    ∧ ((gen fleet 3).refLost = false ∧ fleet.frozen .host = false ∧ (gen fleet 3).state = .locked
      ∧ (fleet.region 3).ceilField (!(gen fleet 3).dcoSel) (gen fleet 3).gear ≠ 0)
    ∧ (CmdReaches .host 2 fleet ∧ (gen fleet 2).refLost = false ∧ (gen fleet 2).state = .ready
      ∧ (fleet.region 2).cal.valid = true)
    ∧ (CmdReaches .host 17 fleet ∧ (gen fleet 17).state = .acquire ∧ CmdReaches .host 5 fleet
      ∧ (gen fleet 5).state = .ramp ∧ (gen fleet 5).refLost = false)
    ∧ ((fleet.region 3).cal.valid = true ∧ CmdReaches .host 11 fleet ∧ (gen fleet 11).shutter = true
      ∧ (gen fleet 11).stopped = false)
    ∧ (CmdReaches .host 19 fleet ∧ (gen fleet 19).shutter = true ∧ (gen fleet 19).stopped = true) := by
  refine ⟨?_, ?_, ?_, ?_, ?_, ?_, ?_, ?_⟩ <;> decide

theorem witness_RacgCommands_door_first :
    (Live fleet ∧ fleet.doorDue 4 = true ∧ fleet.mayWrite .host (regionPage 4 + 0x04) = true
      ∧ fleet.frozen .host = false) ∧ ∃ t, Sys2Proof.Machine.exec (.doorTaken 4) fleet = .next t :=
  ⟨by decide, _, rfl⟩

theorem witness_RacgCommands_refused :
    RacgRefused .host 1 fleet (.racgStart .host 1 0) false
    ∧ RacgRefused .host 2 fleet (.racgAcquire .host 2 15) false
    ∧ RacgRefused .host 0 fleet (.racgSwap .host 0) false
    ∧ RacgRefused .host 3 fleet (.racgReturn .host 3) false
    ∧ RacgRefused .host 9 fleet (.racgReturn .host 9) true
    ∧ RacgRefused .host 1 fleet (.toBypass .host 1) false
    ∧ RacgRefused .host 11 fleet (.racgOpen .host 11) false
    ∧ RacgRefused .host 10 fleet (.racgOpen .host 10) true
    ∧ RacgRefused .host 0 fleet (.racgReservedCmd .host 0 9) false
    ∧ RacgRefused .host 16 fleet (.racgStop .host 16) false
    ∧ RacgRefused .host 0 fleet (.racgClose .host 0) false := by
  refine ⟨?_, ?_, ?_, ?_, ?_, ?_, ?_, ?_, ?_, ?_, ?_⟩
  · exact .inl ⟨by decide, .inl ⟨0, by decide, rfl, rfl, by decide⟩⟩
  · exact .inl ⟨by decide, .inr (.inl ⟨15, by decide, rfl, rfl, by decide⟩)⟩
  · exact .inl ⟨by decide, .inr (.inr (.inl ⟨rfl, rfl, by decide, by decide⟩))⟩
  · exact .inl ⟨by decide, .inr (.inr (.inr (.inl ⟨rfl, rfl, by decide⟩)))⟩
  · exact .inl ⟨by decide, .inr (.inr (.inr (.inr (.inl ⟨rfl, rfl, by decide, by decide⟩))))⟩
  · exact .inl ⟨by decide, .inr (.inr (.inr (.inr (.inr (.inl ⟨rfl, rfl, by decide⟩)))))⟩
  · exact .inl ⟨by decide, .inr (.inr (.inr (.inr (.inr (.inr (.inl ⟨rfl, rfl, by decide⟩))))))⟩
  · exact .inl ⟨by decide, .inr (.inr (.inr (.inr (.inr (.inr (.inr (.inl ⟨rfl, rfl, by decide⟩)))))))⟩
  · exact .inl ⟨by decide, .inr (.inr (.inr (.inr (.inr (.inr (.inr (.inr ⟨9, by decide, by decide, rfl, rfl⟩)))))))⟩
  · exact .inr (.inl ⟨rfl, rfl, by decide⟩)
  · exact .inr (.inr ⟨rfl, rfl, by decide⟩)

theorem witness_RacgCommands_refused_reached :
    ([0, 1, 2, 3, 9, 10, 11, 16].all (fun r => decide (CmdReaches .host r fleet))) = true
    ∧ (let s := { fleet with seq := { fleet.seq with mode := .image } };
      s.mayWrite .host (regionPage 3 + 0x04) = true ∧ s.frozen .host = true) := by decide

theorem witness_RacgLocksAndOutputSwitches :
    (Live fleet ∧ (gen fleet 7).state = .acquire ∧ (gen fleet 7).acqAt + 4096 ≤ fleet.now
      ∧ (gen fleet 7).outSwitch = none)
    ∧ ((gen fleet 5).state = .ramp ∧ (gen fleet 5).refLost = false ∧ fleet.tickLost 5 = false
      ∧ (gen fleet 2).state = .ready)
    ∧ ((gen fleet 8).outSwitch = some { toDco := false, due := 1000000 }
      ∧ (gen fleet 9).outSwitch = some { toDco := true, due := 1000000 } ∧ 1000000 ≤ fleet.now)
    ∧ ((gen fleet 10).state = .locked
      ∧ (fleet.region 10).margin.told = false ∧ (fleet.region 10).margin.since = some 999936
      ∧ 999936 + 8 * max 1 (fld (fleet.region 10).loopNow 16 8) ≤ fleet.now)
    ∧ ((gen fleet 10).state = .locked ∧ (gen fleet 10).dcw = (fleet.region 10).ceil
      ∧ (gen fleet 2).dcw ≠ (fleet.region 2).ceil) := by decide

/-- The limits of R101: LOL_PHASE 8 and LOL_COUNT 16, one cycle of RATIO / 32. -/
theorem witness_RacgLocksAndOutputSwitches_lost :
    (LockIsLost 5 fleet (.phase 9 16) ∧ ¬LockIsLost 5 fleet (.phase 8 16) ∧ ¬LockIsLost 5 fleet (.phase 9 15))
    ∧ (LockIsLost 5 fleet (.cycles 10) ∧ ¬LockIsLost 5 fleet (.cycles 9) ∧ LockIsLost 5 fleet .noEdge) := by
  unfold LockIsLost
  decide

/-- The last 1,024 tk of an acquisition at a ceiling of 0 are at it; at one of 16,384 they are not, where the free
DCW is below it. -/
theorem witness_RacgLocksAndOutputSwitches_clamped :
    (gen fleet 7).acqClamped 7 = true
    ∧ (Config.acqDcw 13 998976 < 16384 → (gen fleet 13).acqClamped 13 = false) := by
  have h7 : gen fleet 7 = { state := .acquire, acqAt := 995904, acqCeil := [(0, 0)], outSwitch := none } := rfl
  have h13 : gen fleet 13 = { state := .acquire, acqAt := 995904, acqCeil := [(0, 16384)] } := rfl
  refine ⟨by simp [h7, Racg.acqClamped, Racg.acqCeilAt], fun h => ?_⟩
  simp only [h13, Racg.acqClamped, Racg.acqCeilAt, List.all_eq_false]
  exact ⟨0, by simp, by simpa using h⟩

/-- A door slot arming regions 3, 4 and 207. -/
def arming : State := { fleet with doors := { fleet.doors with
  slots := [(3, {
    target := 15, state := .arming, goAt := 999998, door := 2000,
    set := BitVec.ofNat 224 (2 ^ 3 + 2 ^ 4 + 2 ^ 207), armOut := BitVec.ofNat 224 (2 ^ 3 + 2 ^ 4 + 2 ^ 207) })] } }

theorem witness_ArmAnsweredByTheRegion :
    (Live arming ∧ (arming.slot 3).armOut.getLsbD 3 = true ∧ (arming.slot 3).armOut.getLsbD 4 = true
      ∧ (arming.slot 3).armOut.getLsbD 207 = true ∧ (arming.slot 3).goAt + 2 ≤ arming.now
      ∧ (gen arming 3).refLost = false)
    ∧ ((gen arming 3).state = .locked ∧ (gen arming 3).armed = false
      ∧ (arming.region 3).ceilField (gen arming 3).dcoSel (arming.slot 3).target ≠ 0)
    ∧ ((gen arming 4).armed = true ∧ (gen arming 207).state = .off) := by decide

theorem witness_DoorsRampsAndLostDieTicks_doors :
    (Live fleet ∧ (gen fleet 4).armed = true ∧ (gen fleet 4).refLost = false
      ∧ (gen fleet 4).armDoor.toNat ≤ fleet.tick.toNat ∧ (gen fleet 4).state = .locked
      ∧ fleet.gearN (gen fleet 4).gear ≠ fleet.gearN (gen fleet 4).armGear)
    ∧ ((gen fleet 5).moving = true ∧ (gen fleet 5).state = .ramp
      ∧ (gen fleet 5).rampDoor.toNat + 8 * ((gen fleet 5).rampSteps + 1) ≤ fleet.tick.toNat)
    ∧ (fleet.mayWrite .host (regionPage 207 + (0x40 + 4 * 15)) = true
      ∧ fleet.before .host (regionPage 207 + (0x40 + 4 * 15)) = none ∧ (gen fleet 207).refLost = false)
    ∧ ((fleet.region 10).thermal.guard = false ∧ (fleet.region 10).ledger.due = 0) := by
  decide

theorem witness_DoorsRampsAndLostDieTicks_lost :
    (let s := { fleet with ref := { fleet.ref with segFailed := oneBit 25 + 1, deadAt := [(25, 999999)] } };
      Live s ∧ (gen s 207).refLost = false ∧ bit s.ref.segFailed (207 / 8) = true
        ∧ tget 0 s.ref.deadAt (207 / 8) + 1 ≤ s.now
        ∧ bit s.ref.segFailed (0 / 8) = true ∧ (s.hzr 0).fenced = false)
    ∧ ((gen fleet 6).state = .hold ∧ (gen fleet 6).refLost = true ∧ (gen fleet 6).lostAt + 64 ≤ fleet.now
      ∧ fleet.mayWrite .seq (regionPage 6 + 0x04) = true)
    ∧ ((gen fleet 19).refLost = true ∧ (gen fleet 19).state ≠ .hold ∧ (gen fleet 19).lostAt + 1 ≤ fleet.now)
    ∧ (let s := { fleet with log := { fleet.log with lost := [207] } }; 207 ∈ s.log.lost) := by decide

theorem witness_RegionMeasurementPhaseAndShutter :
    (fleet.mayWrite .host (regionPage 207 + 0x28) = true ∧ fleet.mayWrite .host (regionPage 207 + 0x20) = true
      ∧ fleet.before .host (regionPage 207 + 0x20) = none
      ∧ fleet.mayWrite .seq (regionPage 0 + 0x18) = true ∧ (gen fleet 207).refLost = false)
    ∧ ((fleet.region 11).regs.measRun = some (16383, 995904) ∧ 995904 + 4096 ≤ fleet.now)
    ∧ (((fleet.region 12).phaseTo fleet.now fleet.tick).walking fleet.now = true ∧ (gen fleet 12).state = .locked
      ∧ ((fleet.region 12).phaseTo fleet.now fleet.tick).walkLeft = 0)
    ∧ ((fleet.region 12).phase.walk = some { since := 999999 } ∧ 999999 < 1000000
      ∧ (gen fleet 12).moving = false ∧ (fleet.region 12).droop.sNow = 0)
    ∧ ((gen fleet 11).shutterTo = some false ∧ (gen fleet 12).shutterTo = some true) := by decide

/-! ## Droop, calibration, ledger, thermal -/

/-- An episode that has gone on for 65,536 lc; LIVE probe windows at their two ends; a calibration of age 2. -/
def longEpisode : Episode :=
  { start := 0, length := 0, maxS := 0, totS := 0, dets := 1, lowest := 4, pieces := [(3, 9, 1, 4)] }
def droopy : State := { warm with now := 2 ^ 30, regions := [
  (13, { racg := { state := .locked, shutter := true }, droop := { episode := some longEpisode } }),
  (14, { racg := { state := .locked, shutter := true },
         cal := {
           valid := true, doneAt := some 0, maxAge := 0, clk := { acc := 256 * 1026, since := 2 ^ 30, skipped := 2 },
           probeRun := some { adv := 63, live := true, cycles := 0, skipped := 0 } } }),
  (15, { racg := { state := .locked, shutter := true },
         cal := {
           clk := { acc := 256 * 65536, since := 2 ^ 30, skipped := 65000 },
           probeRun := some { adv := 0, live := true, cycles := 0, skipped := 0 } } })] }

theorem witness_DroopCrossingsAndEpisodes :
    (Live fleet ∧ fleet.ref.tickValid = true ∧ (gen fleet 3).state = .locked ∧ (gen fleet 207).state = .off
      ∧ (gen fleet 207).refLost = false)
    ∧ (Live droopy ∧ (droopy.region 13).droop.episode = some longEpisode ∧ longEpisode.pieces ≠ []
      ∧ droopy.eff 13 < (droopy.region 13).sampling.lowest (clipReadings 13 (List.replicate 16 63)))
    ∧ (let s := { warm with tick := 2048, pool := { warm.pool with spanAt := 2047 } };
      Live s ∧ (spanStart s.pool.spanAt).toNat < (spanStart s.tick).toNat) := by decide

theorem witness_DetectorsAndMarginProbe :
    (Live fleet ∧ (gen fleet 207).refLost = false ∧ fleet.mayWrite .host (regionPage 207 + 0x80) = true
      ∧ fleet.before .host (regionPage 207 + 0x80) = none
      ∧ fleet.mayWrite .seq (regionPage 0 + 0x84) = true ∧ fleet.before .seq (regionPage 0 + 0x84) = none
      ∧ fleet.mayWrite .host (regionPage 207 + (0x90 + 4 * 1)) = true
      ∧ fleet.before .host (regionPage 207 + (0x90 + 4 * 1)) = none
      ∧ 4 * 3 < (if 0 < 160 then 16 else 8) ∧ 4 * 1 < (if 207 < 160 then 16 else 8))
    ∧ (6 ≤ activeCount 207 3 0 ∧ ¬(6 ≤ activeCount 207 7 0) ∧ 12 ≤ activeCount 0 0xF 0 ∧ ¬(12 ≤ activeCount 0 0x1F 0))
    ∧ ((fleet.region 207).cal.probeRun = none ∧ ¬((gen fleet 207).state = .locked)
      ∧ (gen fleet 4).state = .locked ∧ (gen fleet 4).shutter = true ∧ (fleet.region 4).cal.probeRun = none
      ∧ fleet.mayWrite .host (regionPage 4 + 0xC0) = true)
    ∧ ((droopy.region 14).cal.probeRun = some { adv := 63, live := true, cycles := 0, skipped := 0 }
      ∧ (let c := (droopy.region 14).probeCount { adv := 63, live := true, cycles := 0, skipped := 0 }
           droopy.now droopy.tick;
         c = (1026, 2) ∧ 1024 ≤ c.1 - c.2))
    ∧ (65536 ≤ ((droopy.region 15).probeCount { adv := 0, live := true, cycles := 0, skipped := 0 }
        droopy.now droopy.tick).1) := by
  decide

theorem witness_CalibrationIsRecordedAndJudged :
    (Live fleet ∧ fleet.mayWrite .host (regionPage 3 + 0xBC) = true ∧ fleet.frozen .host = false
      ∧ (gen fleet 3).refLost = false
      ∧ (gen fleet 3).state = .locked ∧ (fleet.region 3).droop.calSel = 0 ∧ (gen fleet 3).doorAt ≠ some fleet.now
      ∧ (gen fleet 3).armed = false ∧ (fleet.region 3).cal.trims = none)
    ∧ ((gen fleet 4).state = .locked ∧ (gen fleet 4).armed = true
      ∧ (gen fleet 4).armDoor.toNat ≤ fleet.tick.toNat)
    ∧ ((droopy.region 14).cal.valid = true
      ∧ max 1 (droopy.region 14).cal.maxAge < (droopy.region 14).cal.age droopy.now) := by decide

theorem witness_LedgersSnapshot :
    (Live fleet ∧ fleet.ref.tickValid = true ∧ fleet.mayWrite .host (regionPage 207 + 0xD0) = true
      ∧ (gen fleet 207).refLost = false)
    ∧ ((fleet.region 20).ledger.due ≠ 0 ∧ (fleet.region 20).ledger.snapAt ≠ some fleet.now
      ∧ (fleet.region 20).thermal.guard = false)
    ∧ (let s := { fleet with tick := 2 ^ 24 };
      24 = fld (s.region 0).ledger.ctl 8 6 ∧ s.tick.toNat % 2 ^ max 16 24 = 0 ∧ (gen s 0).refLost = false
        ∧ (s.region 0).ledger.snapAt ≠ some s.now) := by decide

theorem witness_ThermalConversions :
    (Live fleet ∧ fleet.ref.tickValid = true ∧ (fleet.region 21).thermal.convAt = some 934464
      ∧ 934464 + 65536 ≤ fleet.now ∧ (fleet.region 21).thermal.trip = true)
    ∧ (let h : Int := fld fleet.doors.thermLimit 0 10;
      h ≤ 511 ∧ -512 ≤ h - 8 ∧ (h - 8) + 8 ≤ h ∧ (h - 7 < h ∧ h < (h - 7) + 8) ∧ h ≤ h)
    ∧ ((fld fleet.doors.thermLimit 16 10 : Int) ≤ 511)
    ∧ (let s := { fleet with doors := { fleet.doors with cfg := 2 } }; bit s.doors.cfg 1 = true)
    ∧ ((fleet.region 21).thermal.guard = true ∧ (fleet.region 21).ledger.due = 0 ∧ (gen fleet 21).refLost = false
      ∧ fleet.doorDue 21 = false ∧ (gen fleet 21).state = .locked) := by decide

/-! ## Forecasts, stagger, AVSBus -/

/-- A forecast message: format, current, duration, lead. -/
def fcMsg (fmt a b lead : Nat) : Word := packW [(0, 4, fmt), (4, 9, a), (13, 9, b), (22, 8, lead)]

/-- Region 159 behind an open shutter with 4 windows open, region 4 with none; rail 3 warns. -/
def loaded : State := { fleet with
  regions := fleet.regions ++ [(159, { racg := { state := .locked, shutter := true } })],
  fc := { fleet.fc with
    windows := [(159, [{ close := 840, cls := 1 }, { close := 841, cls := 1 }])],
    stagger := [(15, [(0, 3)])], rails := [(3, { warn := true, warnAt := 999872, sums := [(0, 5)] })] } }

theorem witness_ForecastsWindowsAndWarnings :
    (Live fleet ∧ 10 < fld (fcMsg 11 1 1 0) 0 4)
    ∧ (fld (fcMsg 10 0 1 0) 0 4 ≤ 10 ∧ fld (fcMsg 10 0 1 0) 4 9 = 0 ∧ fld (fcMsg 0 1 0 0) 13 9 = 0
      ∧ (gen fleet 0).shutter = false ∧ bit ({ fleet.fc with ctl := 0 } : Forecast).ctl 0 = false)
    ∧ (fld (fcMsg 10 511 256 255) 0 4 ≤ 10 ∧ fld (fcMsg 10 511 256 255) 4 9 = 511
      ∧ fld (fcMsg 10 511 256 255) 13 9 ≠ 0 ∧ (gen fleet 4).shutter = true ∧ bit fleet.fc.ctl 0 = true
      ∧ ((fleet.fc.windowsOf 4).filter (fun w => decide (fleet.tick.toNat < w.close))).length < 4)
    ∧ (let s := { fleet with fc := { fleet.fc with windows := [(4, List.replicate 4 { close := 900, cls := 1 })] } };
      4 ≤ ((s.fc.windowsOf 4).filter (fun w => decide (s.tick.toNat < w.close))).length)
    ∧ (Live loaded ∧ (loaded.fc.windowsOf 159).any (fun w => decide (w.close ≤ loaded.tick.toNat)) = true)
    ∧ ((tget [] loaded.fc.stagger 15).any (fun e => decide ((e.1 + 1) * loaded.fc.stagSlot ≤ loaded.tick.toNat))
        = true)
    ∧ (loaded.mayWrite .host 0x03000 = true ∧ field.mayWrite .seq 0x03000 = true
      ∧ loaded.before .host 0x03000 = none ∧ field.before .seq 0x03000 = none)
    ∧ ((loaded.fc.rail 3).warn = true
      ∧ (loaded.fc.rail 3).warnAt + max 1 (fld loaded.fc.warnCfg 24 8) ≤ loaded.now
      ∧ (loaded.fc.rail 3).rise (max 1 (fld loaded.fc.warnCfg 16 8)) loaded.now
          < max 1 (fld loaded.fc.warnCfg 0 10))
    ∧ bit ({ loaded.fc with ctl := 0xFFFFFFF7 } : Forecast).ctl 3 = false := by decide

/-- Rail 3 as given. -/
def railSt (x : Rail) : State := { fleet with fc := { fleet.fc with rails := [(3, x)] } }

theorem witness_ForecastsWindowsAndWarnings_rails :
    (let s := railSt { due := some 1000000 }; bit s.fc.ctl 3 = true ∧ (s.fc.rail 3).due = some s.now)
    ∧ (let s := railSt { sums := [(999999, 4096), (900000, 0)] };
      bit s.fc.ctl 3 = true ∧ (s.fc.rail 3).due ≠ some s.now ∧ (s.fc.rail 3).warn = false
        ∧ max 1 (fld s.fc.warnCfg 0 10) ≤ (s.fc.rail 3).rise (max 1 (fld s.fc.warnCfg 16 8)) (s.now - 1)) := by
  decide

/-- Channel 3 with limits 700 to 900 mV. -/
def avsCh (f : AvsChan → AvsChan) : State :=
  { warm with fc := { warm.fc with avs := [(3, f { limit := 700 + 900 * 65536 })] } }

theorem witness_AvsBusRequests :
    (Live warm ∧ warm.mayWrite .host (0x03100 + 0x10 * 3) = true ∧ fld (warm.avs 3).limit 16 16 = 0)
    ∧ (let s := avsCh id;
      fld (s.avs 3).limit 16 16 ≠ 0 ∧ fld (s.avs 3).limit 0 16 ≤ 700 ∧ 900 ≤ fld (s.avs 3).limit 16 16
        ∧ 699 < fld (s.avs 3).limit 0 16 ∧ fld (s.avs 3).limit 16 16 < 901 ∧ s.ref.tickValid = true
        ∧ (s.avs 3).run = none ∧ (s.avs 3).endAt ≠ some s.now)
    ∧ (let s := avsCh (fun a => { a with endAt := some 1000000, run := some (800, .writing) });
      (s.avs 3).endAt = some s.now ∧ fld (s.avs 3).limit 16 16 ≠ 0 ∧ fld (s.avs 3).limit 0 16 ≤ 700)
    ∧ (let s := avsCh (fun a => { a with run := some (900, .writing), queued := some 700 });
      Live s ∧ s.avsOnBus = some 3 ∧ (s.avs 3).run = some (900, .writing) ∧ (s.avs 3).retries < 2)
    ∧ (let s := avsCh (fun a => { a with run := some (900, .reading), retries := 2 });
      s.avsOnBus = some 3 ∧ (s.avs 3).run = some (900, .reading) ∧ 2 ≤ (s.avs 3).retries)
    ∧ (let s := avsCh (fun a => { a with run := some (900, .settling 1000000) });
      Live s ∧ (s.avs 3).run = some (900, .settling 1000000) ∧ 1000000 ≤ s.now ∧ bit (s.avs 3).cfg 24 = true)
    ∧ (let s := avsCh (fun a => { a with run := some (900, .settling 0), cfg := 0x000A1000 });
      (s.avs 3).run = some (900, .settling 0) ∧ bit (s.avs 3).cfg 24 = false) := by decide

/-! ## Gears, doors, couplers -/

/-- Slot 3 as given, slot 0 as given, over the fleet. -/
def slots (d0 d3 : DoorSlot) : State := { fleet with doors := { fleet.doors with slots := [(0, d0), (3, d3)] } }

/-- A set of region 3 and a door at the least lead. -/
def aim : DoorSlot := { set := setOne 3, door := 968 }

theorem witness_DoorSlotCommandsAndArming_go :
    (Live (slots {} aim) ∧ (slots {} aim).mayWrite .host (slotPage 3) = true ∧ (slots {} aim).frozen .host = false
      ∧ (slots {} aim).laterSlots 3 ((slots {} aim).slot 3).set = [] ∧ GoReason (slots {} aim) 3 15 0)
    ∧ GoReason (slots {} { aim with door := 840 + 2 ^ 24 }) 3 0 0
    ∧ GoReason (slots {} { aim with state := .armed }) 3 0 1
    ∧ (let s := { slots {} aim with doors := { (slots {} aim).doors with gearA := [(2, 41)] } }; GoReason s 3 2 2)
    ∧ GoReason (slots {} { aim with set := 0 }) 3 0 3
    ∧ GoReason (slots {} { aim with door := 967 }) 3 0 4
    ∧ GoReason (slots {} { aim with door := 841 + 2 ^ 24 }) 3 0 4
    ∧ GoReason (slots { aim with state := .opened } aim) 3 0 5
    ∧ (let s := { slots {} aim with doors := { (slots {} aim).doors with cfg := 1, gearB := [(0, 700)] } };
      GoReason s 3 0 6) := by
  refine ⟨⟨by decide, by decide, by decide, by decide, ?_⟩, ?_, ?_, ?_, ?_, ?_, ?_, ?_, ?_⟩
  · exact .inr (.inr (.inr (.inr (.inr (.inr (by decide))))))
  · exact .inr (.inr (.inr (.inr (.inr (.inr (by decide))))))
  · exact .inl (by decide)
  · exact .inr (.inl (by decide))
  · exact .inr (.inr (.inl (by decide)))
  · exact .inr (.inr (.inr (.inl (by decide))))
  · exact .inr (.inr (.inr (.inl (by decide))))
  · exact .inr (.inr (.inr (.inr (.inl
      ⟨by decide, by decide, by decide, by decide, ⟨0, by decide⟩, rfl⟩))))
  · exact .inr (.inr (.inr (.inr (.inr (.inl (by decide))))))

/-- The host's GO of slot 3 in this die tick was carried out before the GO of slot 0 on the same set comes. -/
def goBelow : State :=
  let s := slots aim { aim with state := .arming, armOut := setOne 3, goAt := 1000000 }
  { s with log := { s.log with slots := [(3, aim)] } }

theorem witness_DoorSlotCommandsAndArming_go_below :
    (Live goBelow ∧ goBelow.mayWrite .host (slotPage 0) = true ∧ goBelow.frozen .host = false
      ∧ goBelow.laterSlots 0 (goBelow.slot 0).set = [3] ∧ GoReason (goBelow.undoGo 3) 0 15 0)
    ∧ (let s := { goBelow with seq := { goBelow.seq with mode := .image } };
      Live s ∧ s.mayWrite .host (slotPage 3) = true ∧ s.frozen .host = true) := by
  refine ⟨⟨by decide, by decide, by decide, by decide, ?_⟩, by decide⟩
  exact .inr (.inr (.inr (.inr (.inr (.inr (by decide))))))

theorem witness_DoorSlotCommandsAndArming_abort :
    (let s := slots {} { aim with state := .armed, door := 905 };
      Live s ∧ s.mayWrite .seq (slotPage 3) = true ∧ (s.slot 3).state = .armed
        ∧ s.tick.toNat + 64 < (s.slot 3).door.toNat)
    ∧ (let s := slots {} { aim with state := .armed, door := 904 };
      ¬(s.tick.toNat + 64 < (s.slot 3).door.toNat)) := by decide

theorem witness_DoorSlotCommandsAndArming_all_or_none :
    (let s := slots {} { aim with state := .arming, door := 904, ackOut := setOne 3, goAt := 999997 };
      Live s ∧ (s.slot 3).ackOut.getLsbD 3 = true ∧ (s.slot 3).goAt + 3 ≤ s.now ∧ (s.slot 3).state = .arming
        ∧ tget 0 (s.slot 3).ackAt 3 + 1 ≤ s.now
        ∧ (s.slot 3).ack ||| setOne 3 = (s.slot 3).set ∧ s.tick.toNat + 64 ≤ (s.slot 3).door.toNat
        ∧ (s.slot 3).ack ≠ (s.slot 3).set ∧ (s.slot 3).door.toNat ≤ s.tick.toNat + 64)
    ∧ (let s := slots {} {
        aim with state := .cancelling, door := 904, ackOut := setOne 3, ackAt := [(3, 999999)], canAt := 1000001 };
      (s.slot 3).ackOut.getLsbD 3 = true ∧ tget 0 (s.slot 3).ackAt 3 + 1 ≤ s.now ∧ DeadlineNow s 3)
    ∧ (let s := slots {} { aim with state := .opened, door := 840 - 64 - 256, maxN := 1 };
      (s.slot 3).state = .opened ∧ (s.slot 3).door.toNat + 256 * (s.slot 3).maxN + 64 ≤ s.tick.toNat) := by decide

theorem witness_DoorSlotCommandsAndArming_cancel :
    (let s := slots {} {
      aim with state := .cancelling, door := 849, canOut := setOne 3, canAckOut := setOne 3, canAt := 999984 };
      Live s ∧ (s.slot 3).canOut.getLsbD 3 = true ∧ (s.slot 3).canAt + 1 ≤ s.now ∧ (gen s 3).refLost = false
        ∧ (s.slot 3).armOut.getLsbD 3 = false ∧ tget 0 (s.slot 3).canAckAt 3 + 1 ≤ s.now
        ∧ (s.slot 3).canAckOut.getLsbD 3 = true ∧ (s.slot 3).state = .cancelling
        ∧ (s.slot 3).set &&& ~~~((s.slot 3).canAck ||| setOne 3) = 0
        ∧ (s.slot 3).canAt + 16 ≤ s.now ∧ s.tick.toNat + 8 < (s.slot 3).door.toNat)
    ∧ (let s := slots {} { aim with state := .cancelling, door := 841 };
      (s.slot 3).state = .cancelling ∧ (s.slot 3).door.toNat ≤ s.tick.toNat + 1) := by decide

theorem witness_GearTableAndTrips :
    (Live fleet ∧ fleet.mayWrite .host (0x02000 + 8 * 15 + 4) = true ∧ fleet.lc.sealed = false
      ∧ fleet.before .host (0x02000 + 8 * 15 + 4) = none ∧ GosOnGear fleet 15 = []
      ∧ fleet.gearInUse 0 = true ∧ fleet.gearInUse 14 = false)
    ∧ (let s := slots {} { aim with target := 14, state := .arming }
       let s := { s with log := { s.log with slots := [(3, { aim with target := 14 })] } };
      s.mayWrite .host (0x02000 + 8 * 14 + 0) = true ∧ s.lc.sealed = false
        ∧ s.before .host (0x02000 + 8 * 14 + 0) = none ∧ GosOnGear s 14 = [3] ∧ (s.undoGo 3).gearInUse 14 = false
        ∧ (s.undoGo 3).log.slots = [] ∧ (let u := (s.undoGo 3).putGear 14 false 41; u.goReason 3 ≠ 0))
    ∧ (let s := { field with lc := { field.lc with sealed := true } };
      s.mayWrite .seq (0x02000 + 8 * 0 + 0) = true ∧ s.lc.sealed = true)
    ∧ fleet.mayWrite .host (0x020D0 + 4 * 6) = true := by decide

/-- Coupler function 831 as given, its spare lane as given. -/
def cplSt (c sp : Coupler) : State := { warm with
  seq := { warm.seq with ready := true }, cpls := [(831, c), (935, sp)] }

/-- Which region lies at the far end is a free value; its shutter is closed whichever it is. -/
theorem witness_CouplerCommands_far_side : (cplSt {} {}).sideClosed 831 true = true := by
  by_cases h : 188 ≤ cplFarRegion 831 ∧ cplFarRegion 831 ≤ 203 <;>
    simp [State.sideClosed, State.region, cplSt, warm, State.reset, tget, Region.reset, h]

theorem witness_CouplerCommands_carried_out :
    (CplReaches .host 831 (cplSt {} {}) ∧ CplReady ((cplSt {} {}).cpl 831)
      ∧ ((cplSt {} {}).cpl 831).state = .disabled ∧ (cplSt {} {}).sideClosed 831 false = true
      ∧ CplStill ((cplSt {} {}).cpl 831) ∧ (cplSt {} {}).frozen .host = false
      ∧ ((cplSt {} {}).cpl 831).onSpare = false ∧ cplSpare 831 = 935
      ∧ ((cplSt {} {}).cpl (cplSpare 831)).reserved = none ∧ ((cplSt {} {}).cpl (cplSpare 831)).standsFor = none)
    ∧ (CplReady ((cplSt { state := .flowing } {}).cpl 831) ∧ ((cplSt { state := .flowing } {}).cpl 831).state = .flowing)
    ∧ (CplReady ((cplSt { state := .held } {}).cpl 831) ∧ ((cplSt { state := .held } {}).cpl 831).state = .held)
    ∧ (let s := cplSt { state := .drained, onSpare := true } { reserved := some 831, standsFor := some 831 };
      CplReaches .seq 831 s ∧ CplReady (s.cpl 831) ∧ CplStill (s.cpl 831) ∧ (s.cpl 831).onSpare = true) := by decide

theorem witness_CouplerCommands_refused :
    CplRefused .host 831 (cplSt { state := .flowing } {}) (.cplEnable .host 831)
    ∧ CplRefused .host 831 (cplSt {} {}) (.cplHold .host 831)
    ∧ CplRefused .host 831 (cplSt {} { reserved := some 824 }) (.cplSwap .host 831)
    ∧ CplRefused .host 831 (cplSt { swapAt := some (0, true) } {}) (.cplDisable .host 831)
    ∧ CplRefused .host 831 (cplSt {} {}) (.cplReservedCmd .host 831 8)
    ∧ CplRefused .host 935 (cplSt {} {}) (.cplReservedCmd .host 935 1)
    ∧ CplRefused .host 832 (cplSt {} {}) (.cplEnable .host 832) := by
  refine ⟨?_, ?_, ?_, ?_, ?_, ?_, ?_⟩
  · exact .inl ⟨by decide, .inl ⟨rfl, by decide⟩⟩
  · exact .inl ⟨by decide, .inr (.inr (.inl ⟨rfl, by decide⟩))⟩
  · exact .inl ⟨by decide, .inr (.inr (.inr (.inr (.inl ⟨rfl, by decide⟩))))⟩
  · exact .inl ⟨by decide, .inr (.inr (.inr (.inr (.inr (.inr (.inl ⟨rfl, by decide⟩))))))⟩
  · exact .inl ⟨by decide, .inr (.inr (.inr (.inr (.inr (.inr (.inr ⟨8, by decide, by decide, rfl⟩))))))⟩
  · exact .inr ⟨by decide, by decide,
      .inr (.inr (.inr (.inr (.inr (.inr (.inr ⟨1, by decide, by decide, rfl⟩))))))⟩
  · exact .inr ⟨by decide, by decide, .inl rfl⟩

theorem witness_CouplerCommands_refused_reached :
    (Live (cplSt {} {}) ∧ (cplSt {} {}).mayWrite .host (cplPage 831 + 0x04) = true
      ∧ (cplSt {} {}).mayWrite .seq (cplPage 935 + 0x04) = true)
    ∧ (let s := cplSt {} {}
       let s := { s with seq := { s.seq with mode := .image } };
      s.mayWrite .host (cplPage 831 + 0x04) = true ∧ s.frozen .host = true) := by decide

theorem witness_CouplerStatesAndEntries :
    (Live warm ∧ ((cplSt { enableAt := some 0 } {}).cpl 831).enableAt.isSome = true)
    ∧ (let s := cplSt { state := .draining, drainAt := 999998 } {};
      (s.cpl 831).state = .draining ∧ (s.cpl 831).drainAt + 2 ≤ s.now ∧ s.sideClosed 831 false = true)
    ∧ (let c := (cplSt { state := .draining, drainAt := 999996, moded := true, modedAt := 999998 } {}).cpl 831;
      c.state = .draining ∧ c.drainAt + 2 ≤ warm.now ∧ c.moded = true ∧ c.modedAt + 2 ≤ warm.now)
    ∧ (let c := (cplSt { state := .draining, drainAt := 999991 } {}).cpl 831; c.drainAt + 9 ≤ warm.now)
    ∧ (let c := (cplSt { state := .holding, holdAt := 998976, hold := true } {}).cpl 831;
      c.state = .holding ∧ c.entries = [] ∧ c.slowDone = false ∧ c.holdAt + 1024 ≤ warm.now ∧ c.hold = true)
    ∧ (let c := (cplSt { state := .holding, holdAt := 999993 } {}).cpl 831; c.holdAt + 7 ≤ warm.now)
    ∧ ((cplSt { swapAt := some (5, true) } {}).cpl 831).swapAt = some (5, true)
    ∧ ((cplSt { swapAt := some (5, false) } {}).cpl 831).swapAt = some (5, false)
    ∧ (let c := (cplSt { wrPend := some [], wrPendAt := 995904 } {}).cpl 831;
      c.wrPend.isSome = true ∧ c.stallDone = false ∧ c.limit ≠ 0 ∧ c.wrPendAt + c.limit ≤ warm.now)
    ∧ warm.mayWrite .host (cplPage 831 + 0x1C) = true := by decide

/-- Coupler 831 as given, both its ends behind open shutters: which region the far one is is a free value. -/
def openCpl (c : Coupler) : State := { cplSt c {} with regions := [
  (207, { racg := { state := .locked, shutter := true } }),
  (cplFarRegion 831, { racg := { state := .locked, shutter := true } })] }

theorem openCpl_runs (c : Coupler) (far : Bool) : (openCpl c).sideRuns 831 far = true := by
  cases far
  · simp [State.sideRuns, State.region, openCpl, tget, cplOwner, Racg.stopped]
  · by_cases h : 207 = cplFarRegion 831 <;>
      simp [State.sideRuns, State.region, openCpl, tget, Racg.stopped, h]

/-- A coupler that has written n entries that the write side sees unread, and one whose read side sees one. -/
def full (n : Nat) : Coupler := { state := .flowing, wr := { ptr := gray (BitVec.ofNat 5 n) } }
def seen : Coupler := { state := .flowing, entries := [[7]], rd := { sees := 0, due := [0], edges := 3 } }

theorem witness_CouplerStatesAndEntries_writes :
    (∀ c : Coupler, (openCpl c).sideRuns 831 (Config.cplDir 831) = true
      ∧ (openCpl c).sideRuns 831 (!Config.cplDir 831) = true)
    ∧ (Live (openCpl {}) ∧ ((openCpl (full 15)).cpl 831).flight = none
      ∧ PassesWrites 831 (full 15) ∧ (full 15).hold = false ∧ unreadAt (full 15) true < 16
      ∧ 16 ≤ unreadAt (full 16) false ∧ { full 15 with hold := true }.hold = true)
    ∧ (let c : Coupler := { state := .draining, stopSide := !Config.cplDir 831 };
      PassesWrites 831 c ∧ c.liveWrites (Config.cplDir 831) = true)
    ∧ (let c : Coupler := { state := .draining, stopSide := Config.cplDir 831 };
      PassesReads 831 c ∧ c.liveWrites (Config.cplDir 831) = false)
    ∧ (¬PassesReads 831 {} ∧ ¬VisibleAt seen true ∧ VisibleAt seen false ∧ PassesReads 831 seen
      ∧ ∃ e rest, ((openCpl seen).cpl 831).entries = e :: rest) := by
  refine ⟨fun c => ⟨openCpl_runs c _, openCpl_runs c _⟩,
    ⟨rfl, rfl, .inl rfl, rfl, by decide, by decide, rfl⟩,
    ⟨.inr (.inr ⟨rfl, by simp [Coupler.liveWrites], rfl⟩), by simp [Coupler.liveWrites]⟩,
    ⟨.inr (.inr ⟨rfl, by simp [Coupler.liveWrites], rfl⟩), by simp [Coupler.liveWrites]⟩,
    ⟨(by rintro (h | h | ⟨h, -⟩) <;> cases h), by decide, by decide, .inl rfl, [7], [], rfl⟩⟩

theorem witness_CouplerStatesAndEntries_pointers :
    (let x : CplSide := { due := [0], edges := 3 };
      x.due = [0] ∧ 0 + 3 + 1 + 0 ≤ x.edges + 1 ∧ x.edges + 1 < 0 + 3 + 1 + 1)
    ∧ (let c : Coupler := { flight := some 999998, crossed := 3, state := .draining };
      c.flight = some 999998 ∧ 999998 < warm.now ∧ (if c.syncNow then 3 else 2) < c.crossed + 1)
    ∧ (let c : Coupler := { flight := some 999994, crossed := 2, state := .holding };
      c.crossed + 1 ≤ (if c.syncNow then 3 else 2) ∧ warm.now < 999994 + 7)
    ∧ warm.sideRuns 831 false = false := by decide

theorem witness_CouplerStatesAndEntries_stands :
    (cplSt {} {}).sideRuns 831 true = false := by
  by_cases h : 188 ≤ cplFarRegion 831 ∧ cplFarRegion 831 ≤ 203 <;>
    simp [State.sideRuns, State.region, cplSt, warm, State.reset, tget, Region.reset, h]

/-! ## Measurement -/

/-- Channel 63 as given. -/
def chan63 (m : MeasChan) : State := { warm with meas := [(63, m)] }

theorem witness_MeasurementChannelCommands :
    (Live warm ∧ warm.mayWrite .host (chanPage 63 + 0x08) = true ∧ warm.armRefused 63 = false
      ∧ NoArmAbove 63 warm)
    ∧ (let s := { warm with
        meas := [(62, { cfg := 0x2000000 }), (63, { cfg := 0x2000000, state := .calibrating })],
        log := { warm.log with arms := [(63, ({ cfg := 0x2000000 }, true))] } };
      s.armRefused 62 = false ∧ (s.chan 62).mode = 2 ∧ (s.chan 63).mode = 2 ∧ (s.chan 63).state ≠ .idle
        ∧ (s.chan 63).queueNo = (s.chan 62).queueNo ∧ (s.log.arms.map (·.1)) = [63]
        ∧ s.mayWrite .seq (chanPage 63 + measCfgOff 0) = true ∧ s.before .seq (chanPage 63 + measCfgOff 0) = none)
    ∧ (let s := chan63 { state := .timing, stopped := some (7, true, 999996) };
      CompletionDue s 63 7 true ∧ (s.chan 63).state = .timing ∧ (s.chan 63).again = none)
    ∧ (let s := chan63 { state := .timing, again := some true };
      (s.chan 63).state = .timing ∧ (s.chan 63).again.isSome = true)
    ∧ ((chan63 { state := .streaming }).chan 63).state = .streaming
    ∧ (((chan63 { state := .timing }).chan 63).state = .timing
      ∧ ((chan63 { state := .timing }).chan 63).again = none
      ∧ ∀ v sub, ¬CompletionDue (chan63 { state := .timing }) 63 v sub)
    ∧ ((chan63 { state := .timing }).armRefused 63 = true ∧ (warm.chan 63).state = .idle)
    ∧ (warm.mayWrite .seq (chanPage 63 + measCfgOff 2) = true ∧ warm.before .seq (chanPage 63 + measCfgOff 2) = none
      ∧ warm.log.arms.any (fun e => e.1 == 63) = false) := by
  refine ⟨⟨by decide, by decide, by decide, by intro e h; cases h⟩, by decide, ⟨⟨999996, by decide⟩, by decide⟩,
    by decide, by decide, ⟨by decide, by decide, ?_⟩, by decide, by decide⟩
  rintro v sub ⟨at_, h, -⟩
  exact absurd h (by simp [chan63, State.chan, tget])

theorem witness_IntervalsResultsAndStreams_edges :
    (let s := chan63 { state := .calibrating, calAt := 999968 };
      Live s ∧ (s.chan 63).state = .calibrating ∧ (s.chan 63).calAt + 32 ≤ s.now)
    ∧ (SumsPass 192 416 ∧ SumsPass 320 608 ∧ ¬SumsPass 191 416 ∧ ¬SumsPass 320 609)
    ∧ (let m := (chan63 { state := .waitStart, cfg := 0x100, heldStop := some (5, 63999999, 840) }).chan 63;
      m.state = .waitStart ∧ m.heldStop = some (5, 63999999, 840) ∧ m.shared = false
        ∧ m.nearHeld 6 64000000 5 63999999 = true ∧ m.nearHeld 0 64000000 255 63999999 = false)
    ∧ (let s := chan63 { state := .waitStart, cfg := 0xD000, heldStop := some (5, 63999999, 840) };
      63999999 + 64 ≤ 64 * s.now + 63 ∧ s.sourceRuns (s.chan 63).startSrc = false) := by decide

/-- Channel 63 with sources that run, as given. -/
def seesEdges (f : MeasChan → MeasChan) : State := chan63 (f { state := .waitStart, cfg := 0xD0D8 })

theorem witness_IntervalsResultsAndStreams_start_and_stop :
    (let s := seesEdges (fun m => { m with seenAt := 64000000, lastStart := some 63999968, capA := some 63999873 });
      EdgeComes s 63 (s.chan 63).startSrc 0 ∧ EdgeComes s 63 (s.chan 63).stopSrc 63
        ∧ (s.chan 63).startSrc ≠ (s.chan 63).stopSrc)
    ∧ Spaced (some 63999968) 64000000 ∧ ¬Spaced (some 63999969) 64000000
    ∧ Dead (some 63999873) 64000000 ∧ ¬Dead (some 63999872) 64000000
    ∧ (let s := seesEdges (fun m => { m with state := .timing, startT := 63999999 });
      (s.chan 63).again = none ∧ (s.chan 63).stopped = none
        ∧ ¬((s.chan 63).shared = true ∧ 64000000 ≤ (s.chan 63).startT))
    ∧ (let m := (seesEdges (fun m => { m with cfg := 0xD0D0 })).chan 63;
      m.startSrc = m.stopSrc ∧ m.shared = true)
    ∧ (let s := chan63 { cfg := 0 };
      s.sourceRuns (s.chan 63).startSrc = false ∧ s.sourceRuns (s.chan 63).stopSrc = false) := by
  refine ⟨by decide, ?_, ?_, ⟨63999873, rfl, by decide⟩, ?_, by decide, by decide, by decide⟩
  · rintro u h; cases h; decide
  · intro h; exact absurd (h _ rfl) (by decide)
  · rintro ⟨u, h, hu⟩; cases h; exact absurd hu (by decide)

theorem witness_IntervalsResultsAndStreams_results :
    (let m := (chan63 { state := .timing, stopped := some (7, false, 0) }).chan 63;
      m.state = .timing ∧ m.stopped = some (7, false, 0) ∧ m.mode = 0)
    ∧ (let s := { chan63 { state := .timing, startT := 32 } with now := 2 ^ 39 + 1 };
      (s.chan 63).state = .timing ∧ (s.chan 63).stopped = none ∧ (s.chan 63).again = none
        ∧ 2 ^ 40 + (s.chan 63).startT / 32 + 2 ≤ 2 * s.now + 1)
    ∧ (Path.host ≠ .smbus ∧ (warm.chan 63).doneAt ≠ some warm.now
      ∧ ((chan63 { doneAt := some 1000000 }).chan 63).doneAt = some warm.now)
    ∧ (let s := chan63 { state := .timing, again := some true };
      (s.meas.map (·.1)).Nodup ∧ (s.chan 63).again = some true) := by decide

theorem witness_IntervalsResultsAndStreams_streams :
    (let s := chan63 { state := .streaming, cfg2 := 0x10001, recalAt := 967200, stream := [0], streamAt := 998976,
                       cfg := 0xD0D8 };
      Live s ∧ (s.chan 63).state = .streaming ∧ (s.chan 63).edges + 1 < 2 ^ fld (s.chan 63).cfg2 16 4
        ∧ EdgeComes s 63 (s.chan 63).startSrc 0
        ∧ (s.chan 63).recalAt + 2 ^ (fld (s.chan 63).cfg2 20 4 + 15) + 32 ≤ s.now ∧ (s.chan 63).stream ≠ []
        ∧ (s.chan 63).stream.length < 6 ∧ (s.chan 63).streamAt + 1024 ≤ s.now)
    ∧ (let m := (chan63 { state := .streaming, edges := 0, stream := List.replicate 6 0 }).chan 63;
      2 ^ fld m.cfg2 16 4 ≤ m.edges + 1 ∧ 6 ≤ m.stream.length) := by decide

/-! ## Queues -/

/-- Queue 95 as given. -/
def q95 (x : Queue) : State := { warm with pool := { warm.pool with queues := [(95, x)] } }

/-- A coach of two carriages, granted in the last tick; one granted now. -/
def coach2 : PoolCoach := { src := 0x100, words := [1, 2], carts := [4095], grantAt := 999999 }
def coachNew : PoolCoach := { coach2 with grantAt := 1000000 }

theorem witness_QueuesEnabledAndDisabled_control :
    (Live warm ∧ warm.mayWrite .seq (queuePage 95 + 0x14) = true ∧ bit (warm.queue 95).cfg 1 = false)
    ∧ (let s := q95 { cfg := 3, markAt := some 0 };
      bit (s.queue 95).cfg 1 = true ∧ (s.queue 95).markAt = some 0)
    ∧ (let s := q95 { cfg := 3 }; bit (s.queue 95).cfg 1 = true ∧ (s.queue 95).markAt = none)
    ∧ (let s := q95 { cfg := 1, flush := true, flushAt := 999999, coaches := [coach2] };
      (s.queue 95).flush = true ∧ (s.queue 95).flushAt < s.now ∧ bit (s.queue 95).cfg 0 = true
        ∧ ∀ c ∈ (s.queue 95).coaches, c.grantAt + c.words.length ≤ s.now + 1) := by decide

theorem witness_QueuesEnabledAndDisabled_disable :
    (let s := { q95 { cfg := 1 } with
      pool := { (q95 { cfg := 1 }).pool with waiting := [(0x100, [{ queue := 95, words := [1] }])] },
      seq := { warm.seq with tasks := [(3, { state := .waiting (.push 95 7 [1] false 1000000) })] } };
      Live s ∧ s.mayWrite .host (queuePage 95) = true ∧ bit (s.queue 95).cfg 0 = true)
    ∧ (let s := q95 { flush := true, flushAt := 999999 }
       let s := { s with
         pool := { s.pool with waiting := [(0x100, [{ queue := 95, words := [1] }])] }
         seq := { warm.seq with tasks := [(3, { state := .waiting (.push 95 7 [1] false 1000000) })] } };
      (s.queue 95).flush = true ∧ (s.queue 95).flushAt < s.now ∧ bit (s.queue 95).cfg 0 = false
        ∧ s.pool.waiting = [(0x100, [{ queue := 95, words := [1] }])] ∧ s.pool.reports = []
        ∧ (s.task 3).state = .waiting (.push 95 7 [1] false 1000000) ∧ 1000000 ≤ s.now)
    ∧ (bit (warm.queue 95).cfg 0 = false ∧ bit (warm.queue 1).cfg 0 = true) := by decide

theorem witness_HostPopsAndReadBuffer_pops :
    (let s := q95 { cfg := 0x21, coaches := [coach2] };
      Live s ∧ bit (s.queue 95).cfg 2 = false ∧ Poppable (s.queue 95) s.now coach2)
    ∧ (let s := q95 { cfg := 5 }; bit (s.queue 95).cfg 2 = true) := by decide

theorem witness_HostPopsAndReadBuffer_none : ∀ c, ¬Poppable ((q95 {}).queue 95) (q95 {}).now c := by
  intro c h
  exact absurd h.1 (by simp [q95, State.queue, tget])

theorem witness_HostPopsAndReadBuffer_buffer :
    (let s := q95 { buf := { words := [1, 2], grantAt := 999999, idx := 1, held := true } };
      Live s ∧ (s.queue 95).buf.words[(s.queue 95).buf.idx]? = some 2
        ∧ (s.queue 95).buf.grantAt + (s.queue 95).buf.idx ≤ s.now ∧ (s.queue 95).buf.held = true)
    ∧ (let s := q95 { buf := { words := [1, 2], grantAt := 1000000, idx := 1 } };
      (s.queue 95).buf.idx < (s.queue 95).buf.words.length
        ∧ s.now < (s.queue 95).buf.grantAt + (s.queue 95).buf.idx)
    ∧ (let s := q95 { buf := { words := [1, 2], idx := 2 } };
      (s.queue 95).buf.words.length ≤ (s.queue 95).buf.idx) := by decide

/-- One coach waits for queue 1, whose cap is as given. -/
def oneWaits (cap : Nat) : State := { warm with pool := { warm.pool with
  waiting := [(0x100, [{ queue := 1, words := [1, 2, 3, 4, 5] }])],
  queues := [(1, { cfg := 0x81, maxCarts := cap })] } }

theorem witness_GrantsNoticesAndPoolWindow_grant :
    (Live (oneWaits 2) ∧ (oneWaits 2).pool.reports = [] ∧ (oneWaits 2).cmd.busy = none
      ∧ (oneWaits 2).seq.pushes = [] ∧ ((oneWaits 2).queue 1).flush = false
      ∧ bit ((oneWaits 2).queue 1).cfg 0 = true ∧ bit ((oneWaits 2).queue 1).cfg 1 = false
      ∧ (oneWaits 2).pool.writing.length < 16
      ∧ ((oneWaits 2).queueCarts 1).length + (5 + 3) / 4 ≤ ((oneWaits 2).queue 1).cap
      ∧ (oneWaits 2).inUse + (5 + 3) / 4 ≤ 4096)
    ∧ ((oneWaits 1).queue 1).cap < ((oneWaits 1).queueCarts 1).length + (5 + 3) / 4 := by decide

theorem witness_GrantsNoticesAndPoolWindow_no_push :
    ∀ k q d w keep ready, k < 4 → ((oneWaits 2).task k).state ≠ .waiting (.push q d w keep ready) := by
  intro k q d w keep ready _ h
  exact absurd h (by simp [oneWaits, warm, State.task, State.reset, tget])

theorem witness_GrantsNoticesAndPoolWindow_notices :
    (let s := q95 { cfg := 0x4001 + 47 * 256, notices := [1000000] };
      Live s ∧ (s.queue 95).notices = [1000000] ∧ 1000000 ≤ s.now ∧ bit (s.queue 95).cfg 14 = true
        ∧ fld (s.queue 95).cfg 8 6 < 48)
    ∧ (let s := q95 { coaches := [{ coach2 with carts := [1, 2] }] }
       let s := { s with pool := { s.pool with cfg := 1 } };
      s.pool.coal = false ∧ s.pool.coalDue = false ∧ fld s.pool.cfg 0 12 < s.inUse)
    ∧ (warm.pool.coal = false ∧ warm.pool.coalDue = false ∧ warm.inUse ≤ fld warm.pool.cfg 0 12)
    ∧ (let s := { warm with pool := { warm.pool with coalDue := true } };
      s.pool.coal = false ∧ s.pool.coalDue = true)
    ∧ (let s := { warm with tick := 1024 }; Live s ∧ s.tick.toNat % 1024 = 0)
    ∧ (warm.mayWrite .host (queuePage 0 + 0x34) = true ∧ warm.mayWrite .host 0x5FFFC = true
      ∧ warm.cartWritten ((0x5FFFC - 0x40000) / 32) = false)
    ∧ (q95 { coaches := [coachNew] }).cartWritten ((0x5FFFC - 0x40000) / 32) = true := by decide

/-! ## Group tick -/

/-- A member in the state given, its parent device 1 on link 15, aligned to root 1. -/
def member (g : GroupTick → GroupTick) : State := { warm with
  tick := 0, regions := [(203, { racg := { state := .locked, shutter := true } })],
  gt := g { warm.gt with
    gen := 1, id := 0x00010000, role := 0x06FF0000 - 0x00F00000, rootId := 1, active := [(0, 3)],
    links := [(15, { cfg := 1, peerId := 1, heard := true, usable := true, launch := some 0, peerRoot := 1,
                     peerDepth := 0 })] } }

/-- Words of device 1, generation 1, usable, depth as given, root 1. -/
def word0 : DWord := packD [(52, 12, 1), (44, 8, 1), (40, 1, 1)]
def word1 (depth : Nat) : DWord := packD [(60, 4, depth), (48, 12, 1)]

theorem witness_GroupTimeInputs_edges :
    (Live warm ∧ warm.gt.ppsStamp = none)
    ∧ (let s := { member (fun g => { g with
          ppsStamp := some 0, state := .aligned, role := g.role ||| 0x1000, todGot := true, ppsRun := 1 }) with
          tick := 525052500 };
      Live s ∧ s.gt.ppsStamp = some 0 ∧ ((33603360000 : Int) - 0 - 33600000000).natAbs ≤ 3360000
        ∧ (33603360000 : Int) = 64 * (s.tick.toNat : Int) + ((64 % 64 : Nat) : Int)
        ∧ (33603360001 : Int) = 64 * (s.tick.toNat : Int) + ((1 % 64 : Nat) : Int)
        ∧ 3360000 < ((33603360001 : Int) - 0 - 33600000000).natAbs ∧ s.gt.state = .aligned ∧ s.gt.isRoot = true
        ∧ s.gt.todGot = true ∧ s.gt.srcLost = false)
    ∧ (let s := member (fun g => { g with
        ppsStamp := some 0, state := .aligned, role := g.role ||| 0x1000, edgeSec := some 7 });
      s.gt.todGot = false ∧ s.gt.edgeSec.map (· + 1) = some 8)
    ∧ (let s := { warm with now := 525052501, gt := { warm.gt with ppsStamp := some 0 } };
      s.gt.ppsStamp.isSome = true ∧ s.gt.ppsAt + 525052500 < s.now) := by decide

theorem witness_GroupTimeInputs_messages :
    (let s := { warm with
        now := 5250000, gt := { warm.gt with edgeOk := true, tod := { seq := some 4, seconds := 7 } } };
      s.gt.edgeOk = true ∧ s.gt.ppsAt + 5250000 ≤ s.now ∧ s.now ≤ s.gt.ppsAt + 472500000
        ∧ s.gt.tod.seq = some (((5 : Byte).toNat + 255) % 256) ∧ s.gt.tod.seconds + 1 = beNat [0, 0, 0, 0, 0, 8])
    ∧ warm.gt.tod.seq ≠ some (((5 : Byte).toNat + 255) % 256)
    ∧ (let s := { warm with now := 525000000 + 472500001, gt := { warm.gt with tod := { seq := some 4 } } };
      s.gt.tod.seq ≠ none ∧ s.gt.ppsAt + 1 * 525000000 + 472500000 < s.now
        ∧ s.gt.todAt < s.gt.ppsAt + 1 * 525000000) := by decide

set_option maxRecDepth 20000 in
theorem witness_GroupTimeInputs_crc :
    ∃ crc : Byte, crc8 [0x47, 0x54, 0, 0, 0, 0, 0, 8, 0, 5] = crc.toNat := ⟨0x6F, by decide⟩

theorem witness_GroupTimeInputs_malformed (a b c d e f fl sq crc : Byte)
    (h : ([] : List Byte) = [0x47, 0x54, a, b, c, d, e, f, fl, sq, crc, 0x0A]) :
    crc8 [0x47, 0x54, a, b, c, d, e, f, fl, sq] ≠ crc.toNat := by cases h

theorem witness_AlignmentWordsAndExchanges :
    (let s := member id;
      Live s ∧ bit (s.link 15).cfg 0 = true ∧ s.ref.tickValid = true
        ∧ s.tick.toNat % 2 ^ max 10 (fld s.gt.servo 8 4) = 0 ∧ s.gt.member 2 = false ∧ s.gt.member 1 = true
        ∧ s.gt.gen % 256 = 1 ∧ s.gt.commitAt = none ∧ s.gt.state = .standalone ∧ s.linkUsable 15 = true
        ∧ (s.link 15).heard = true)
    ∧ (let s := { member id with now := 2 ^ 20 };
      (s.link 15).lastOk + max 1 (fld s.gt.servo 12 4) * 2 ^ max 10 (fld s.gt.servo 8 4) ≤ s.now)
    ∧ (let s := member (fun g => { g with state := .holdover });
      s.gt.isRoot = false ∧ 15 = s.gt.sourceLink ∧ fld word0 52 12 = s.gt.sourceId ∧ fld word0 44 8 = s.gt.gen % 256
        ∧ s.gt.state = .holdover ∧ (s.link 15).launch = some 0 ∧ bit word0 40 = true ∧ s.linkUsable 15 = true
        ∧ fld (word1 13) 60 4 < 14 ∧ 14 ≤ fld (word1 14) 60 4 ∧ fld (word1 13) 48 12 = s.gt.rootId) := by decide

theorem witness_SourcesJoiningAndLeaving :
    (let s := { member (fun g => { g with state := .aligned, onAlt := true, role := 0x060F0000 }) with now := 2 ^ 20 };
      Live s ∧ s.gt.state = .aligned ∧ s.gt.isRoot = false ∧ s.gt.exchAt + s.gt.missLimit * s.gt.periodTk ≤ s.now
        ∧ s.gt.otherLink = 15 ∧ OtherServes s)
    ∧ (let s := { member (fun g => { g with state := .pullIn }) with now := 2 ^ 20 };
      s.gt.state = .pullIn ∧ s.gt.exchAt + s.gt.missLimit * s.gt.periodTk ≤ s.now ∧ ¬OtherServes s)
    ∧ (let s := { member (fun g => { g with state := .holdover }) with now := 32 * 2 ^ 24 };
      s.gt.state = .holdover ∧ s.gt.holdAt + max 1 (fld s.gt.limits2 16 8) * 2 ^ 24 ≤ s.now)
    ∧ (let s := member id;
      s.mayWrite .host 0x05000 = true ∧ s.gt.state = .standalone ∧ s.gt.gen ≠ 0
        ∧ s.gt.member (fld s.gt.id 0 12) = true ∧ s.gt.member (fld s.gt.id 16 12) = true
        ∧ bit (s.link (fld s.gt.role 16 4)).cfg 0 = true)
    ∧ (warm.gt.state = .standalone ∧ warm.gt.gen = 0)
    ∧ (let s := { warm with now := 1575000001, gt := { warm.gt with state := .joining } };
      s.gt.state = .joining ∧ s.gt.stepPend = none ∧ s.gt.joinAt + 1575000000 < s.now) := by decide

theorem witness_TickStepsComparesAndMembership :
    (let s := { warm with tick := 21, gt := { warm.gt with state := .joining, stepPend := some 1, stepAt := 999999 } };
      Live s ∧ s.gt.stepPend = some ((1 : Nat) : Int) ∧ s.gt.stepAt < s.now ∧ s.tick.toNat % 21 = 0
        ∧ (∀ k, k < 4 → (s.slot k).state.busy = false) ∧ { s.log with step := true }.step = true)
    ∧ (let s := { warm with gt := { warm.gt with cmps := [(7, { cmp := 840, armed := true, armAt := 999998 })] } };
      s.mayWrite .seq (0x05208 + 16 * 7) = true ∧ (s.cmpAt 7).armed = true ∧ (s.cmpAt 7).cmp = s.tick
        ∧ (s.cmpAt 7).armAt < s.now ∧ (s.cmpAt 7).late = false)
    ∧ (let s := { warm with gt := {
        warm.gt with cmps := [(0, { cmp := 839, armed := true, armAt := 999999, late := true })] } };
      (s.cmpAt 0).armed = true ∧ (s.cmpAt 0).late = true ∧ (s.cmpAt 0).armAt + 1 = s.now
        ∧ (s.cmpAt 1).armed = false)
    ∧ (let s := { warm with gt := { warm.gt with comArmed := true, commitTick := 840 } };
      s.mayWrite .host 0x0505C = true ∧ s.gt.comArmed = true ∧ s.gt.comLate = false ∧ s.gt.commitTick = s.tick
        ∧ s.gt.comAt < s.now)
    ∧ (let s := { warm with gt := { warm.gt with comArmed := true, comLate := true, comAt := 999999 } };
      s.gt.comArmed = true ∧ s.gt.comAt < s.now ∧ s.gt.comLate = true ∧ s.gt.comAt + 1 = s.now)
    ∧ (warm.mayWrite .host 0x05010 = true ∧ warm.before .host 0x05010 = none ∧ warm.gt.state = .standalone
      ∧ warm.mayWrite .host (0x05100 + 16 * 15) = true ∧ warm.before .host (0x05100 + 16 * 15) = none)
    ∧ (let s := { warm with tick := 525000000, gt := { warm.gt with ctl := 4, state := .holdover } };
      bit s.gt.ctl 2 = true ∧ s.gt.state = .holdover ∧ s.ref.tickValid = true
        ∧ s.tick.toNat % 525000000 = 0) := by decide

/-! ## Hazard monitor, map, fencing -/

/-- The hazard block as given, over the fleet. -/
def hzSt (f : Hazard → Hazard) : State := { fleet with hz := f fleet.hz }

theorem witness_HazardLevelsAndMap :
    (let s := { fleet with tick := 65536, pool := { fleet.pool with spanAt := 65536 } };
      Live s ∧ bit s.hz.ctl 0 = true ∧ s.ref.tickValid = true ∧ s.tick.toNat % 65536 = 0
        ∧ s.hz.latchAt ≠ some s.now ∧ s.spanDue = false ∧ (s.region 0).racg.state = .off
        ∧ (s.region 3).racg.state ≠ .off ∧ (s.hzr 3).fenced = false ∧ s.hz.fence.target ≠ some 3)
    ∧ (let s := hzSt (fun h => { h with
        latchAt := some 999744, dNext := some (1023, 1023, 0), snapCfg := 0x00100000 + 1023,
        regions := [(207, { fenceTh := 100, dwell := 3, next := some (100, 100, 0, [0, 0, 0, 0, 0, 0]) })] });
      Live s ∧ bit s.hz.ctl 0 = true ∧ s.hz.latchAt = some 999744 ∧ 999744 + 256 ≤ s.now
        ∧ s.hz.dNext = some (1023, 1023, 0) ∧ s.hz.threshArmed = true ∧ fld s.hz.snapCfg 0 10 ≠ 0
        ∧ s.began 0x04050 s.hz.snapCfg = s.hz.snapCfg ∧ s.began 0x04054 s.hz.fenceCfg = s.hz.fenceCfg
        ∧ 100 = fld (s.began (0x04400 + 4 * 207) (s.hzRegionWord 207)) 10 10
        ∧ fld s.hz.snapCfg 0 10 ≤ 1023 ∧ max 1 (fld s.hz.snapCfg 20 4) ≤ s.hz.snapDwell + 1
        ∧ (s.hzr 207).next = some (100, 100, 0, [0, 0, 0, 0, 0, 0]) ∧ (s.hzr 207).fenced = false
        ∧ (s.hzr 207).fenceTh ≠ 0 ∧ (s.hzr 207).fenceTh ≤ 100
        ∧ max 1 (fld s.hz.fenceCfg 10 4) ≤ (s.hzr 207).dwell + 1)
    ∧ (Live fleet ∧ (143 < 144) ∧ genAge fleet 0 ≤ genAge fleet (fleet.lmapAt 143).gen
      ∧ (fleet.lmapAt 143).slot = some 8 ∧ genAge fleet (fleet.lmapAt 143).gen < genAge fleet 65535)
    ∧ (let s := hzSt (fun h => { h with lmap := [(0, { slot := none })] });
      genAge s 0 ≤ genAge s (s.lmapAt 0).gen ∧ (s.lmapAt 0).slot = none) := by decide

theorem witness_FencingSequences_judged :
    (Live fleet ∧ fleet.mayWrite .host 0x04074 = true ∧ fleet.frozen .host = false ∧ NoneDelivered fleet
      ∧ fleet.hz.fence = .idle ∧ (fleet.region 0).racg.state = .off
      ∧ (fleet.region 3).racg.state ≠ .off ∧ (fleet.hzr 3).fenced = false ∧ fleet.logicalOf 3 = some 3)
    ∧ (hzSt (fun h => { h with fence := .fencing 0 none false 0 0 })).hz.fence ≠ .idle
    ∧ (let s := hzSt (fun h => { h with regions := [(3, { fenced := true })] });
      (s.region 3).racg.state ≠ .off ∧ (s.hzr 3).fenced = true)
    ∧ (let s := { fleet with log := { fleet.log with msgs := [(3, 0)] } };
      s.logicalOf 3 = some 3 ∧ s.log.msgs = [(3, s.hz.mapGen)] ∧ s.log.byLogical = false ∧ s.hz.mapGen < 65536)
    ∧ ((fleet.lmapAt 143).slot.isSome = true)
    ∧ (let s := hzSt (fun h => { h with
        lmap := [(0, { slot := none })], regions := [(0, { fenced := true }), (9, { fenced := true })] });
      (s.lmapAt 0).slot = none ∧ s.clusterSpare (0 / 9) = none)
    ∧ (let s := hzSt (fun h => { h with
        lmap := [(0, { slot := none }), (3, { slot := none })], regions := [(0, { fenced := true })] });
      (s.lmapAt 3).slot = none ∧ s.clusterSpare (3 / 9) = some 3 ∧ (s.region (10 * (3 / 9) + 3)).racg.state = .locked
        ∧ (s.region (10 * (3 / 9) + 3)).racg.shutter = false ∧ (s.region (10 * (3 / 9) + 3)).cal.valid = true)
    ∧ (let s := hzSt (fun h => { h with lmap := [(0, { slot := none })] });
      s.clusterSpare (0 / 9) = some 0 ∧ (s.region (10 * (0 / 9) + 0)).racg.state ≠ .locked) := by decide

theorem witness_FencingSequences_ends :
    (let s := hzSt (fun h => { h with fence := .fencing 159 (some 143) false 999983 2 });
      Live s ∧ s.hz.fence = .fencing 159 (some 143) false 999983 2 ∧ 999983 + 17 ≤ s.now)
    ∧ (let s := hzSt (fun h => { h with fence := .fencing 9 none true 999983 2 });
      s.hz.fence = .fencing 9 none true 999983 2)
    ∧ (let s := hzSt (fun h => { h with fence := .adopting 0xFF 4 3 0 2 [] });
      s.hz.fence = .adopting 0xFF 4 3 0 2 [] ∧ (s.region 4).racg.shutter = true)
    ∧ (let s := hzSt (fun h => { h with fence := .undoing 0xFF 4 3 0 2 [1] });
      s.hz.fence = .undoing 0xFF 4 3 0 2 [1] ∧ ∀ i ∈ [1], (s.cpl i).state ≠ .draining) := by decide

theorem witness_FencingSequences_drained (i : Nat) (_ : cplTouches i 159 = true) :
    (fleet.cpl i).state ≠ .draining := by
  have h : (fleet.cpl i).state = .disabled := rfl
  simp [h]

theorem witness_FeedEventsPartnersStamps :
    Live warm ∧ warm.mayWrite .smbus 0x04080 = true ∧ warm.mayWrite .seq 0x04080 = true
    ∧ warm.mayWrite .host 0x04080 = true ∧ warm.mayWrite .host (0x04090 + 4 * 3) = true
    ∧ warm.before .host (0x04090 + 4 * 3) = none
    ∧ warm.mayWrite .host 0x04058 = true ∧ 65535 < 65536 ∧ warm.log.causes = []
    ∧ (let s := { warm with log := { warm.log with causes := [(3, 0)], asked := true } };
      s.log.causes = [(3, 0)] ∧ s.log.asked = true)
    ∧ (let s := { warm with log := { warm.log with causes := [(1, 207)] } };
      s.log.causes = [(1, 207)] ∧ s.log.asked = false) := by decide

/-! ## The Lysio sequencer -/

/-- An instruction word and its fields. -/
def enc (op d a b x : Nat) : Word := BitVec.ofNat 32 (op * 2 ^ 26 + d * 2 ^ 22 + a * 2 ^ 18 + b * 2 ^ 14 + x)
def ins (op d a b x : Nat) : Ins := { op := op, d := d, a := a, b := b, x := x, imm := b * 2 ^ 14 + x, tgt := x }

/-- Task 3 of an image has the word at address 0, with G2 0x20, G4 0x7FFF, the sequencer besides as given. -/
def run (w : Word) (f : Seq → Seq) : State := { warm with
  seq := f { warm.seq with
    mode := .image, imem := [(0, w)], tasks := [(3, { state := .ready, g := [(2, 0x20), (4, 0x7FFF)] })] } }

theorem witness_LysioComputationAndControl_r :
    ∀ op ∈ [1, 2, 3, 4, 5, 6, 7, 8, 9, 10, 11], IssuesNow 3 (ins op 15 2 15 0) (run (enc op 15 2 15 0) id) := by decide

theorem witness_LysioComputationAndControl_imm :
    (∀ op ∈ [0x10, 0x11, 0x12, 0x13, 0x18], IssuesNow 3 (ins op 0 2 15 0x3FFF) (run (enc op 0 2 15 0x3FFF) id))
    ∧ (∀ op ∈ [0x14, 0x15, 0x16], IssuesNow 3 (ins op 15 2 0 31) (run (enc op 15 2 0 31) id))
    ∧ IssuesNow 3 (ins 0x17 15 0 15 0x3FFF) (run (enc 0x17 15 0 15 0x3FFF) id)
    ∧ (∀ n, n < 5 → IssuesNow 3 (ins 0x36 15 0 0 n) (run (enc 0x36 15 0 0 n) id) ∧ (ins 0x36 15 0 0 n).imm = n)
    ∧ IssuesNow 3 (ins 0x30 14 0 0 0) (run (enc 0x30 14 0 0 0) id) ∧ (ins 0x30 14 0 0 0).d % 2 = 0 := by decide

theorem witness_LysioComputationAndControl_branches :
    (∀ op ∈ [0x28, 0x29, 0x2A, 0x2B, 0x2C, 0x2D],
      IssuesNow 3 (ins op 0 2 15 0x3FFF) (run (enc op 0 2 15 0x3FFF) id))
    ∧ IssuesNow 3 (ins 0x2E 15 0 0 0x3FFF) (run (enc 0x2E 15 0 0 0x3FFF) id)
    ∧ (let s := run (enc 0x2F 15 2 0 0) id; IssuesNow 3 (ins 0x2F 15 2 0 0) s ∧ ((s.task 3).reg 2).toNat ≤ 16383) := by
  decide

theorem witness_LysioMemoryAndRegisters_memory :
    (let s := run (enc 0x20 15 2 0 32732) id;
      IssuesNow 3 (ins 0x20 15 2 1 16348) (run (enc 0x20 15 2 1 16348) id)
        ∧ 32764 = ((s.task 3).reg 2 + BitVec.ofInt 32 (BitVec.ofNat 18 (ins 0x20 15 2 1 16348).imm).toInt).toNat
        ∧ s.dmBad 32764 = false ∧ s.seq.eccSoft.contains 32764 = false)
    ∧ (let s := run (enc 0x21 15 2 15 0x3FE0) id;
      IssuesNow 3 (ins 0x21 15 2 15 0x3FE0) s
        ∧ 0 = ((s.task 3).reg 2 + BitVec.ofInt 32 (BitVec.ofNat 18 (ins 0x21 15 2 15 0x3FE0).imm).toInt).toNat)
    ∧ (let s := run (enc 0x22 15 2 2 0) id;
      IssuesNow 3 (ins 0x22 15 2 2 0) s ∧ 32 = ((s.task 3).reg 2).toNat ∧ s.dmBad 32 = false)
    ∧ (let s := run (enc 0x20 15 2 0 0) (fun q => { q with eccSoft := [32] });
      IssuesNow 3 (ins 0x20 15 2 0 0) s ∧ s.inScratch 32 = false ∧ s.seq.eccSoft.contains 32 = true
        ∧ s.dmBad 32 = false
        ∧ 32 = ((s.task 3).reg 2 + BitVec.ofInt 32 (BitVec.ofNat 18 (ins 0x20 15 2 0 0).imm).toInt).toNat) := by decide

theorem witness_LysioMemoryAndRegisters_registers :
    (∀ op ∈ [0x23, 0x24], (let s := run (enc op 15 0 6 0) id;
      IssuesNow 3 (ins op 15 0 6 0) s
        ∧ 0x18000 = ((s.task 3).reg 0 + BitVec.ofInt 32 (BitVec.ofNat 18 (ins op 15 0 6 0).imm).toInt).toNat
        ∧ s.seq.posted = [] ∧ ∀ k, k < 4 → (s.task k).ldk = none))
    ∧ (let s := run 0 (fun q => { q with posted := [{ off := 0x0405C, v := 7, at_ := 999998, due := 1000000 }] });
      Live s ∧ s.seq.posted = [{ off := 0x0405C, v := 7, at_ := 999998, due := 1000000 }] ∧ 1000000 ≤ s.now
        ∧ ∀ k, k < 4 → (s.task k).ldk = none ∧ (s.task k).armd = none)
    ∧ (let s := run 0 (fun q => { q with
        tasks := [(3, { ldk := some { d := 15, off := 0xFFFFC, at_ := 999998, due := 1000000 } })] });
      (s.task 3).ldk = some { d := 15, off := 0xFFFFC, at_ := 999998, due := 1000000 } ∧ 1000000 ≤ s.now
        ∧ s.seq.posted = []) := by decide

theorem witness_LysioWaitsAndEventLines_timed :
    (let s := run (enc 0x31 15 4 0 0) (fun q => { q with tasks := [(3, { state := .ready, g := [(4, 840)] })] });
      IssuesNow 3 (ins 0x31 15 4 0 0) s
        ∧ 840 = ((s.task 3).reg 4).toNat + 2 ^ 32 * ((s.task 3).reg (4 + 1)).toNat ∧ 840 ≤ s.tick.toNat)
    ∧ (let s := run (enc 0x32 15 0 0 1) id;
      IssuesNow 3 (ins 0x32 15 0 0 1) s ∧ s.tick.toNat < (s.tick.toNat + ((s.task 3).reg 0).toNat + 1) % 2 ^ 64)
    ∧ (let s := run 0 (fun q => { q with tasks := [(3, { state := .waiting (.timed 840 15) })] });
      Live s ∧ (s.task 3).state = .waiting (.timed 840 15) ∧ (s.task 3).readyAt < s.now ∧ 840 ≤ s.tick.toNat)
    ∧ (let s := run 0 (fun q => { q with tasks := [(3, { state := .waiting (.timed 841 0), stepped := true })] });
      (s.task 3).state = .waiting (.timed 841 0) ∧ (s.task 3).stepped = true) := by decide

theorem witness_LysioWaitsAndEventLines_events :
    (let s := run (enc 0x33 15 2 0 1) (fun q => { q with flags := 0x20 });
      IssuesNow 3 (ins 0x33 15 2 0 1) s ∧ (s.task 3).pair 2 ≠ 0)
    ∧ (let s := run (enc 0x33 15 2 0 2) id;
      IssuesNow 3 (ins 0x33 15 2 0 2) s ∧ ((s.task 3).pair 0).toNat ≤ s.tick.toNat ∧ s.lineFlags = 0)
    ∧ (let s := run (enc 0x33 15 2 4 2) id;
      IssuesNow 3 (ins 0x33 15 2 4 2) s ∧ s.tick.toNat < ((s.task 3).pair 4).toNat)
    ∧ (let s := run 0 (fun q => { q with tasks := [(3, { state := .waiting (.event 0x20 (some 840) true 15) })] });
      Live s ∧ (s.task 3).state = .waiting (.event 0x20 (some 840) true 15) ∧ (s.task 3).readyAt < s.now
        ∧ s.eatenNow = 0 ∧ s.lineFlags = 0 ∧ 840 ≤ s.tick.toNat)
    ∧ (let s := run (enc 0x34 0 2 0 15) id;
      IssuesNow 3 (ins 0x34 0 2 0 15) s
        ∧ 47 = ((s.task 3).reg 2 + BitVec.ofInt 32 (BitVec.ofNat 18 (ins 0x34 0 2 0 15).imm).toInt).toNat)
    ∧ (let s := run (enc 0x35 0 2 0 0) id; IssuesNow 3 (ins 0x35 0 2 0 0) s ∧ s.seq.raisedAt ≠ s.now) := by decide

theorem witness_LysioWaitsAndEventLines_lowest : LowestLine 0x8000000000000020 0x8000000000000020 5
    ∧ LowestLine 0x8000000000000000 0xFFFFFFFFFFFFFFFF 63 ∧ ∀ n, ¬LowestLine 0 1 n :=
  ⟨by unfold LowestLine; decide, by unfold LowestLine; decide, fun n h => by
    have := h.2.1; simp [bit] at this⟩

theorem witness_LysioDoorsBroadcastsPushPop_doors :
    (let s := run (enc 0x3A 15 0 0 3) id; IssuesNow 3 (ins 0x3A 15 0 0 3) s ∧ ¬SlotBusy (s.slot 3))
    ∧ (let s := { run (enc 0x3A 15 0 0 3) id with doors := { slots := [(3, { state := .armed })] } };
      IssuesNow 3 (ins 0x3A 15 0 0 3) s ∧ SlotBusy (s.slot 3))
    ∧ (let s := run 0 (fun q => { q with tasks := [(3, { state := .waiting (.door 3 15) })] });
      Live s ∧ (s.task 3).state = .waiting (.door 3 15) ∧ (s.task 3).readyAt < s.now ∧ ¬SlotBusy (s.slot 3))
    ∧ (let s := run (enc 0x38 15 2 4 0xFC) id;
      IssuesNow 3 (ins 0x38 15 2 4 0xFC) s ∧ 32 = ((s.task 3).reg 2).toNat ∧ 0xFC % 4 = 0 ∧ s.seq.eccBad = []
        ∧ s.seq.eccSoft = [])
    ∧ (let s := run (enc 0x39 15 2 4 0x7F) id; IssuesNow 3 (ins 0x39 15 2 4 0x7F) s) := by decide

theorem witness_LysioDoorsBroadcastsPushPop_messages :
    (let s := run 0 (fun q => { q with bcasts := [{ set := setOne 207, off := 0x0C, v := 1, sent := 999999 }] });
      Live s ∧ s.seq.bcasts = [{ set := setOne 207, off := 0x0C, v := 1, sent := 999999 }] ∧ 999999 < s.now) := by decide

/-- An ARMD to slot 3, due now. -/
def armdNow : ArmdOp :=
  { slot := 3, target := 15, resync := true, door := 840, set := setOne 207, d := 15, due := 1000000 }

def armdSt : State := run 0 (fun q => { q with tasks := [(3, { state := .ready, armd := some armdNow })] })

theorem witness_LysioDoorsBroadcastsPushPop_armd :
    Live armdSt ∧ (armdSt.task 3).armd = some armdNow ∧ armdNow.due ≤ armdSt.now ∧ ¬SlotBusy (armdSt.slot 3)
      ∧ armdSt.seq.posted = [] ∧ armdSt.laterSlots armdNow.slot armdNow.set = [] := by
  decide

theorem witness_LysioDoorsBroadcastsPushPop_reason : GoReason (armdSlot armdSt armdNow) 3 15 4 :=
  Or.inr (Or.inr (Or.inr (Or.inl (by decide))))

theorem witness_LysioDoorsBroadcastsPushPop_push :
    (let s := run (enc 0x3B 15 2 0 0xDF) (fun q => { q with dmem := [(38, 0x10), (39, 0xEF)] });
      IssuesNow 3 (ins 0x3B 15 2 0 0xDF) s ∧ 32 = ((s.task 3).reg 2).toNat ∧ s.seq.eccBad = [] ∧ s.seq.eccSoft = []
        ∧ fld (joinWords (s.dmRead 32) (s.dmRead 36)) 52 4 = 1
        ∧ fld (joinWords (s.dmRead 32) (s.dmRead 36)) 56 8 = 0xEF)
    ∧ (let s := run 0 (fun q => { q with tasks := [(3, { state := .waiting (.push 95 15 [1] false 1000000) })] });
      Live s ∧ (s.task 3).state = .waiting (.push 95 15 [1] false 1000000) ∧ 1000000 ≤ s.now
        ∧ bit (s.queue 95).cfg 0 = false)
    ∧ (let s := { run 0 (fun q => { q with
          tasks := [(3, { state := .waiting (.push 95 15 [1] false 1000000) })] }) with
          pool := { warm.pool with queues := [(95, { cfg := 1 })] } };
      s.nextGrant.2 = some (0x158 + 3, 95, [1]) ∧ s.nextGrant.1.isPushSrc (0x158 + 3) = true
        ∧ s.nextGrant.1.task 3 = s.task 3) := by decide

theorem witness_LysioDoorsBroadcastsPushPop_pop :
    (let s := { run (enc 0x3C 15 2 0 95) id with
          pool := { warm.pool with queues := [(95, { cfg := 0x25, coaches := [coach2] })] } };
      IssuesNow 3 (ins 0x3C 15 2 0 95) s ∧ 32 = ((s.task 3).reg 2).toNat ∧ 32 % 8 = 0
        ∧ bit (s.queue 95).cfg 2 = true ∧ Poppable (s.queue 95) s.now coach2 ∧ coach2.grantAt ≤ s.now)
    ∧ (let s := run (enc 0x3C 15 2 0 95) id; IssuesNow 3 (ins 0x3C 15 2 0 95) s ∧ bit (s.queue 95).cfg 2 = false)
    ∧ (let s := run 0 (fun q => { q with popMove := some (1000000, 32704, [1, 2]) });
      s.seq.popMove = some (1000000, 32704, [1, 2]) ∧ 1000000 ≤ s.now ∧ s.seqRom = false) := by decide

theorem witness_LysioTasksAndFaults_tasks :
    (let s := run (enc 0x3D 15 2 4 0) id;
      IssuesNow 3 (ins 0x3D 15 2 4 0) s ∧ ((s.task 3).reg 2).toNat ≤ 16383 ∧ (s.task 0).state = .stopped)
    ∧ IssuesNow 3 (ins 0x3D 15 2 4 3) (run (enc 0x3D 15 2 4 3) id)
    ∧ (let s := run (enc 0x3E 15 0 0 0) id; IssuesNow 3 (ins 0x3E 15 0 0 0) s ∧ (s.task 0).state = .stopped)
    ∧ (let s := run (enc 0x3E 15 0 0 0) (fun q => { q with tasks := (0, { state := .waiting (.door 0 1) }) :: q.tasks });
      IssuesNow 3 (ins 0x3E 15 0 0 0) s ∧ (s.task 0).state = .waiting (.door 0 1))
    ∧ (let s := run (enc 0x3E 15 0 0 0) (fun q => { q with
        tasks := (0, { state := .ready, readyAt := 1000002, wokeAt := some 1000000 })
          :: (1, { state := .ready, readyAt := 1000002 }) :: (2, { state := .waiting (.door 0 1), stopDue := 3 })
          :: q.tasks });
      (s.task 0).state = .ready ∧ (s.task 0).wokeAt = some s.now ∧ (s.task 1).state = .ready
        ∧ (s.task 1).wokeAt ≠ some s.now ∧ s.now < (s.task 1).readyAt ∧ (s.task 2).stopDue = 3)
    ∧ IssuesNow 3 (ins 0x3E 15 0 0 3) (run (enc 0x3E 15 0 0 3) id)
    ∧ IssuesNow 3 (ins 0x37 0 0 0 0) (run (enc 0x37 0 0 0 0) id) := by decide

theorem witness_LysioTasksAndFaults_faults :
    (Live (run 0 id) ∧ (run 0 id).issues 3 = true ∧ decodeIns ((run 0 id).fetch 3) = none)
    ∧ (let s := run (enc 0x2F 15 4 0 0) id; IssuesNow 3 (ins 0x2F 15 4 0 0) s ∧ 16383 < ((s.task 3).reg 4).toNat)
    ∧ IssuesNow 3 (ins 0x36 15 0 0 5) (run (enc 0x36 15 0 0 5) id)
    ∧ (let s := run (enc 0x20 15 4 0 0) id; IssuesNow 3 (ins 0x20 15 4 0 0) s ∧ 32764 < ((s.task 3).reg 4).toNat)
    ∧ (let s := run (enc 0x22 15 2 0 0) (fun q => { q with eccBad := [32] });
      IssuesNow 3 (ins 0x22 15 2 0 0) s ∧ s.dmBad ((s.task 3).reg 2).toNat = true)
    ∧ (let s := run (enc 0x24 15 4 0 1) id; IssuesNow 3 (ins 0x24 15 4 0 1) s
        ∧ ((s.task 3).reg 4 + BitVec.ofInt 32 (BitVec.ofNat 18 (ins 0x24 15 4 0 1).imm).toInt).toNat = 0x8000)
    ∧ IssuesNow 3 (ins 0x30 15 0 0 0) (run (enc 0x30 15 0 0 0) id)
:= by decide

theorem witness_LysioTasksAndFaults_operands :
    IssuesNow 3 (ins 0x31 15 3 0 0) (run (enc 0x31 15 3 0 0) id)
    ∧ (let s := run (enc 0x33 15 0 0 0) id; IssuesNow 3 (ins 0x33 15 0 0 0) s ∧ (s.task 3).pair 0 = 0)
    ∧ IssuesNow 3 (ins 0x34 0 0 0 48) (run (enc 0x34 0 0 0 48) id)
    ∧ IssuesNow 3 (ins 0x35 0 3 0 0) (run (enc 0x35 0 3 0 0) id)
    ∧ IssuesNow 3 (ins 0x38 15 2 0 1) (run (enc 0x38 15 2 0 1) id)
    ∧ IssuesNow 3 (ins 0x39 15 2 3 0) (run (enc 0x39 15 2 3 0) id)
    ∧ (let s := run (enc 0x3B 15 0 0 0) id; IssuesNow 3 (ins 0x3B 15 0 0 0) s
        ∧ fld (joinWords (s.dmRead 0) (s.dmRead 4)) 52 4 = 0)
    ∧ IssuesNow 3 (ins 0x3C 15 2 0 96) (run (enc 0x3C 15 2 0 96) id) := by decide

theorem witness_LysioWordsDecode :
    decodeIns (enc 1 15 2 15 0) = some (ins 1 15 2 15 0) ∧ fld (enc 0x0C 0 0 0 0) 26 6 = 0x0C
    ∧ fld (enc 0x19 0 0 0 0) 26 6 = 0x19 ∧ fld (enc 0x25 0 0 0 0) 26 6 = 0x25 ∧ fld (enc 0x3F 0 0 0 0) 26 6 = 0x3F
    ∧ fld (enc 0x2D 1 0 0 0) 22 4 ≠ 0 ∧ fld (enc 0x0B 0 0 0 1) 0 14 ≠ 0 := by decide

/-! ## Loader and host commands -/

/-- The sequencer as given, in LOADING. -/
def loading (f : Seq → Seq) : State := { warm with seq := f { warm.seq with mode := .loading } }

/-- Sixteen words of a header, the last first: magic, VER 1 and key slot 0, SEC_VER 0, IWORDS 1, entry 0 for T0. -/
def header15 : List Word := (List.replicate 9 0) ++ [0xFFFFFFFF, 0xFFFF0000, 1, 0, 1, 0x4C595331]

theorem witness_ImageLoading_begin_and_stop :
    (Live warm ∧ warm.mayWrite .host 0x08000 = true ∧ (run 0 id).seq.mode = .image
      ∧ (run 0 id).mayWrite .host 0x08000 = true ∧ (run 0 id).seq.begin_ = none)
    ∧ (let s := run 0 (fun q => { q with begin_ := some 999936 });
      s.seq.begin_ = some 999936 ∧ 999936 + 64 ≤ s.now)
    ∧ (let s := run 0 (fun q => { q with begin_ := some 999937, popMove := some (1000001, 0, [1]) });
      s.seq.popMove.isSome = true ∧ s.now < 999937 + 64)
    ∧ (let s := loading (fun q => { q with received := 1 });
      s.seq.mode = .loading ∧ s.seq.verifyAt = none ∧ s.mayWrite .host 0x08000 = true)
    ∧ (let s := { loading (fun q => { q with received := 1 }) with now := 2 ^ 24 };
      s.seq.received ≠ 0 ∧ s.seq.verifyAt = none ∧ s.seq.wordsAt + 2 ^ 24 ≤ s.now)
    ∧ (let s := { loading id with now := 2 ^ 30 };
      s.seq.received = 0 ∧ s.seq.verifyAt = none ∧ s.seq.wordsAt + 2 ^ 30 ≤ s.now)
    ∧ warm.seq.mode ≠ .loading := by decide

theorem witness_ImageLoading_in_progress :
    InProgress (run 0 (fun q => { q with popMove := some (1000001, 0, [1]) }))
    ∧ ¬InProgress (run 0 (fun q => { q with tasks := [] })) := by
  refine ⟨.inl rfl, ?_⟩
  rintro (h | h | ⟨n, hn, h⟩)
  · cases h
  · exact h rfl
  · revert h; revert n; decide

theorem witness_ImageLoading_words :
    (warm.mayWrite .host 0x08030 = true ∧ warm.mayWrite .smbus 0x08030 = false)
    ∧ 64 ≤ (loading (fun q => { q with port := 64 })).seq.port
    ∧ (let s := loading (fun q => { q with port := 63, received := 14 }); s.seq.port < 64 ∧ s.seq.received < 15)
    ∧ (let s := loading (fun q => { q with received := 15, words := header15 });
      let q := { s.seq with words := (0 : Word) :: s.seq.words, received := 16, wordsAt := s.now, port := s.seq.port + 1 };
      ({ s with seq := q } : State).headerFails = 0)
    ∧ (let s := loading (fun q => { q with received := 15 });
      let q := { s.seq with words := (0 : Word) :: s.seq.words, received := 16, wordsAt := s.now, port := s.seq.port + 1 };
      q.hdr 0 ≠ 0x4C595331)
    ∧ (let s := loading (fun q => { q with received := 15, words := List.replicate 15 0xFFFFFFFF });
      let q := { s.seq with words := (0 : Word) :: s.seq.words, received := 16, wordsAt := s.now, port := s.seq.port + 1 };
      ∀ n, n < 4 → q.entryOf n = 0xFFFF) := by decide

theorem witness_ImageLoading_sizes :
    (let s := loading (fun q => { q with received := 16, words := (0 : Word) :: header15 });
      16 ≤ s.seq.received ∧ s.seq.received - 16 < s.seq.iwords ∧ s.seq.received ≠ 40 + s.seq.iwords + s.seq.dwords)
    ∧ (let s := loading (fun q => { q with received := 41, words := List.replicate 25 0 ++ (0 : Word) :: header15 });
      s.seq.received = 40 + s.seq.iwords + s.seq.dwords)
    ∧ (let s := loading (fun q => { q with received := 15 }); { s.log with ending := true }.ending = true
      ∧ s.seq.received < 16) := by decide

/-- The signature's check is a free value: either answer is met. -/
theorem witness_ImageStartAndRestart_verified :
    (let s := loading (fun q => { q with verifyAt := some 0 });
      Live s ∧ s.seq.mode = .loading ∧ (s.seq.verifyAt = some 0 ∧ 0 < s.now ∧ s.now ≤ 0 + 2100000)
        ∧ (s.imageSigned = true ∨ s.imageSigned = false))
    ∧ (let s := run 0 (fun q => { q with tasks := [(3, { state := .faulted })] });
      Live s ∧ s.mayWrite .host 0x08000 = true ∧ s.seq.mode = .image ∧ s.seq.begin_ = none
        ∧ (s.task 3).state = .faulted ∧ { s.log with restart := 2 ^ 3 }.restart = 2 ^ 3)
    ∧ ((run 0 id).task 3).state = .ready
    ∧ (let s := run 0 (fun q => { q with tasks := [(3, { state := .waiting (.door 0 1) })] });
      (s.task 3).state = .waiting (.door 0 1)) := by
  refine ⟨⟨by decide, by decide, by decide, ?_⟩, by decide, by decide, by decide⟩
  exact Bool.eq_false_or_eq_true _

/-- The port holds this word as carriage 1. -/
def portSt (busy : Option (List DWord)) (hi lo : Word) : State := { warm with
  cmd := { warm.cmd with busy := busy, buf := [(2, lo), (3, hi)] } }

theorem witness_HostCommandPort_submit :
    (Live warm ∧ warm.mayWrite .host 0x00140 = true ∧ (portSt (some [1]) 0 0).cmd.busy.isSome = true ∧ 1 < 2)
    ∧ (warm.cmd.busy = none ∧ bit (warm.cmd.carriage 1) 48 = false)
    ∧ (let s := { warm with log := { warm.log with submit := some 8 } }; s.log.submit = some 8 ∧ s.cmd.busy = none)
    ∧ (let s := portSt none 0x00018F00 0;
      ∃ c, c = s.cmd.carriage 1 ∧ bit c 48 = true ∧ fld c 40 8 = 143 ∧ genAge s (fld c 24 16) ≤ genAge s (s.lmapAt 143).gen
        ∧ (s.lmapAt 143).slot = some 8)
    ∧ (let s := portSt none 0x000100FF 0xFF000000;
      ∃ c, c = s.cmd.carriage 1 ∧ bit c 48 = true ∧ fld c 40 8 = 0
        ∧ genAge s (s.lmapAt 0).gen < genAge s (fld c 24 16)) :=
  ⟨by decide, by decide, by decide, ⟨_, rfl, by decide⟩, ⟨_, rfl, by decide⟩⟩

/-- A host command of `n` carriages at the head of queue 0. -/
def cmdCoach (rest : List DWord) : PoolCoach :=
  { src := 0x160, words := coachHeader 0xC0 (rest.length + 1) 0x160 0 :: rest, carts := [0, 1], grantAt := 999990 }

/-- The two carts that hold it. -/
def cmdCarts (rest : List DWord) : List Host.Cell :=
  (List.range (rest.length + 1)).foldl (fun m i => writeDword m (8 * i) ((cmdCoach rest).words.getD i 0)) []

def hostSt (rest : List DWord) : State := { run 0 id with
  pool := { warm.pool with
    carts := cmdCarts rest, queues := [(0, { cfg := 0x25, coaches := [cmdCoach rest] })] } }

/-- Task 3 has it to take, in the form of its CODE. -/
theorem hostSt_ok (code : Nat) (rest : List DWord)
    (h : (Poppable ((hostSt rest).queue 0) 1000000 (cmdCoach rest)
        ∧ (hostSt rest).coachWords (cmdCoach rest) = (cmdCoach rest).words)
      ∧ fld ((cmdCoach rest).words.headD 0) 56 8 = 0xC0
      ∧ fld ((cmdCoach rest).words.getD 1 0) 0 8 = code ∧ fld ((cmdCoach rest).words.getD 1 0) 49 2 = 0
      ∧ cmdMalformed (cmdCoach rest).words = false) :
    HostCommandOk 3 code (cmdCoach rest).words (hostSt rest) :=
  ⟨⟨rfl, by decide, rfl, (by decide : TaskState.ready ≠ .stopped), (by decide : TaskState.ready ≠ .faulted), rfl,
    ⟨cmdCoach rest, h.1⟩, h.2.1⟩, h.2.2⟩

theorem hostSt_held (rest : List DWord)
    (h : (Poppable ((hostSt rest).queue 0) 1000000 (cmdCoach rest)
        ∧ (hostSt rest).coachWords (cmdCoach rest) = (cmdCoach rest).words)
      ∧ fld ((cmdCoach rest).words.headD 0) 56 8 = 0xC0) :
    HostCommand 3 (cmdCoach rest).words (hostSt rest) :=
  ⟨rfl, by decide, rfl, (by decide : TaskState.ready ≠ .stopped), (by decide : TaskState.ready ≠ .faulted), rfl,
    ⟨cmdCoach rest, h.1⟩, h.2⟩

theorem witness_HostCommandsAnswered_two :
    ∀ code ∈ [0x01, 0x50, 0x51, 0x61],
      HostCommandOk 3 code (cmdCoach [BitVec.ofNat 64 code]).words (hostSt [BitVec.ofNat 64 code]) := by
  intro code h
  simp only [List.mem_cons, List.not_mem_nil, or_false] at h
  rcases h with rfl | rfl | rfl | rfl <;> exact hostSt_ok _ _ (by decide)

theorem witness_HostCommandsAnswered_three :
    HostCommandOk 3 0x11 (cmdCoach [0x11, 3]).words (hostSt [0x11, 3])
    ∧ HostCommandOk 3 0x20 (cmdCoach [0x20, 0x21CF]).words (hostSt [0x20, 0x21CF])
    ∧ HostCommandOk 3 0x21 (cmdCoach [0x21, 0x473F]).words (hostSt [0x21, 0x473F])
    ∧ HostCommandOk 3 0x30 (cmdCoach [0x30, 0x103]).words (hostSt [0x30, 0x103])
    ∧ HostCommandOk 3 0x31 (cmdCoach [0x31, 0x8F]).words (hostSt [0x31, 0x8F])
    ∧ HostCommandOk 3 0x32 (cmdCoach [0x32, 159]).words (hostSt [0x32, 159])
    ∧ HostCommandOk 3 0x41 (cmdCoach [0x41, 63]).words (hostSt [0x41, 63])
    ∧ HostCommandOk 3 0x60 (cmdCoach [0x60, 0x5F00000000000000]).words (hostSt [0x60, 0x5F00000000000000]) :=
  ⟨hostSt_ok _ _ (by decide), hostSt_ok _ _ (by decide), hostSt_ok _ _ (by decide), hostSt_ok _ _ (by decide),
    hostSt_ok _ _ (by decide), hostSt_ok _ _ (by decide), hostSt_ok _ _ (by decide), hostSt_ok _ _ (by decide)⟩

theorem witness_HostCommandsAnswered_long :
    HostCommandOk 3 0x40 (cmdCoach [0x40, 63, 0]).words (hostSt [0x40, 63, 0])
    ∧ HostCommandOk 3 0x62 (cmdCoach [0x62, 1, 2, 3, 4]).words (hostSt [0x62, 1, 2, 3, 4])
    ∧ HostCommandOk 3 0x10 (cmdCoach [0x10, 1, 0, 0, 0, 1000, 0x1F]).words (hostSt [0x10, 1, 0, 0, 0, 1000, 0x1F]) :=
  ⟨hostSt_ok _ _ (by decide), hostSt_ok _ _ (by decide), hostSt_ok _ _ (by decide)⟩

/-- Commands turned away: a stale one, one that the image does not implement, one with no row, one with a bit too many. -/
theorem witness_HostCommandPort_turned_away :
    (HostCommand 3 (cmdCoach [0x0002000000000001]).words (hostSt [0x0002000000000001])
      ∧ fld ((cmdCoach [0x0002000000000001]).words.getD 1 0) 49 2 ≠ 0)
    ∧ HostCommand 3 (cmdCoach [0]).words (hostSt [0])
    ∧ (HostCommand 3 (cmdCoach [0x0008000000000061]).words (hostSt [0x0008000000000061])
      ∧ fld ((cmdCoach [0x0008000000000061]).words.getD 1 0) 51 5 ≠ 0
      ∧ fld ((cmdCoach [0x0008000000000061]).words.getD 1 0) 49 2 = 0)
    ∧ (HostCommand 3 (cmdCoach [0x20, 0xFF]).words (hostSt [0x20, 0xFF])
      ∧ 207 < fld ((cmdCoach [0x20, 0xFF]).words.getD 2 0) 0 8) :=
  ⟨⟨hostSt_held _ (by decide), by decide⟩, hostSt_held _ (by decide),
    ⟨hostSt_held _ (by decide), by decide, by decide⟩, hostSt_held _ (by decide), by decide⟩

theorem witness_HostCommandPort_no_row (sup tb : Bool) (c : Instr) : ¬RowOf 0 3 sup tb c := by
  rintro (h | h | h | h | h | h | h | h | h | h | h | h | h | h | h) <;> exact absurd h.1 (by decide)

/-- A gear change that the door slot accepts: region 0 locked, gear 15 valid, the door ahead. -/
def gearSt : State := { hostSt [0x10, 1, 0, 0, 0, 1000, 0x1F] with
  regions := [(0, { racg := { state := .locked }, regs := ceils })] }

theorem witness_HostCommandsAnswered_gear :
    (let w := (cmdCoach [0x10, 1, 0, 0, 0, 1000, 0x1F]).words
     let s0 := (gearSt.pop 0 true).1
     s0.freeSlot = some 0 ∧ s0.gearValid (fld (w.getD 7 0) 0 4) = true ∧ s0.leadOk (s0.cmdDoor w) = true
      ∧ (s0.updSlot 0 (fun d => { d with
          set := cmdSet w, door := s0.cmdDoor w, target := fld (w.getD 7 0) 0 4,
          resync := bit (w.getD 7 0) 4 })).goOutcome 0 = 0)
    ∧ (let w := (cmdCoach [0x10, 1, 0, 0, 0, 1000, 0x1F]).words
       let s0 := ((hostSt [0x10, 1, 0, 0, 0, 1000, 0x1F]).pop 0 true).1
       (cmdSet w).getLsbD 0 = true ∧ (s0.region 0).racg.state = .off) := by decide

theorem witness_HostCommandsAnswered_gear_conflict (r : Nat)
    (h : (cmdSet (cmdCoach [0x10, 1, 0, 0, 0, 1000, 0x1F]).words).getLsbD r = true) :
    ((gearSt.pop 0 true).1).gearConflict 15 r = false := by
  have hs : cmdSet (cmdCoach [0x10, 1, 0, 0, 0, 1000, 0x1F]).words = 1 := by decide
  rw [hs] at h
  have hr : r = 0 := by simpa [BitVec.getLsbD_one] using h
  subst hr
  decide

theorem witness_HostCommandsAnswered_ends :
    (let s := { run 0 id with doors := { slots := [(3, { state := .cancelled })] } };
      ¬SlotBusy (s.slot 3) ∧ (s.slot 3).state = .cancelled)
    ∧ (let j : CmdJob := { task := 3, code := 0x30, tag := 1, kind := .fence, result := some 10 };
      j.kind = .fence ∧ j.result = some 10 ∧ 10 < 16)
    ∧ (let s := { hostSt [0x10, 1, 0, 0, 0, 1000, 0x1F] with
          doors := { slots := [(0, { state := .armed }), (1, { state := .armed }), (2, { state := .armed }),
            (3, { state := .armed })] } };
      (s.pop 0 true).1.freeSlot = none) := by decide

/-! ## The metrology island and the mailbox -/

/-- The island runs, with a key, powered mailbox, an open interval; besides as given. -/
def isl (f : Island → Island) : State := { field with island := f { field.island with
  time := 1050000000, up := true, mrefOk := true, adcOk := true, xtalOk := true, powerGood := true, hasKey := true,
  lcSeen := 2, interval := some {} } }

/-- An ADC frame: u 1, i 2, FRAME_MARK, its CRC. -/
def frame : DWord := 0x00000100000280C1

theorem witness_IslandStartAndCalendar_supplies :
    (let s := { field with island := { field.island with hasKey := true, lcSeen := 2 } };
      s.island.up = false ∧ s.island.kept = none ∧ s.lc.state ≠ .blank ∧ s.lc.state ≠ .ended
        ∧ s.island.lcSeen = s.lc.state.code ∧ s.island.hasKey = true)
    ∧ (let s := { field with island := { field.island with kept := some { sum := 1 } } };
      s.island.up = false ∧ s.island.kept = some { sum := 1 })
    ∧ ((isl id).island.up = true ∧ (isl id).island.xtalOk ≠ false ∧ (isl id).island.interval = some {})
    ∧ (let s := { field with island := { field.island with time := 525000000 } };
      s.island.up = false ∧ s.island.xtalOk ≠ true ∧ s.island.xtalAt + 525000000 ≤ s.island.time)
    ∧ (let x := { (isl id).island with calSec := 5, calFrac := 7, calAt := 525000000 };
      x.calAt ≤ x.time ∧ x.calSec * 2 ^ 32 + x.calFrac + (x.time - x.calAt) * 2 ^ 32 < 2 ^ 96 ∧ x.calFrac < 2 ^ 32
        ∧ x.discip = false ∧ x.up = true)
    ∧ (field.island.up = false ∧ field.island.xtalOk = false) := by decide

theorem witness_IslandStartAndCalendar_edges :
    ((isl id).island.up = true ∧ (isl id).island.edgeAt = none)
    ∧ (let s := isl (fun x => { x with
        edgeAt := some 525000000, calValid := true, discip := true, todNext := some 7, calSec := 5 });
      s.island.edgeAt.isSome = true ∧ 1000000 ≤ 999900 + 100 ∧ 1000100 ≤ 1000000 + 100 ∧ 999899 + 100 < 1000000
        ∧ s.island.calValid = true ∧ s.island.todNext = some 7 ∧ s.island.discip = true
        ∧ (if s.island.xtalOk = true ∨ s.island.mrefOk = true then 100 else 20000) = 100)
    ∧ (let s := isl (fun x => { x with
        edgeAt := some 525000000, todNext := some 7, tod := { seq := some 1, seconds := 7, run := 2 } });
      s.island.calValid = false ∧ s.island.todNext = some 7 ∧ 2 ≤ s.island.tod.run)
    ∧ (let s := isl (fun x => { x with edgeAt := some 0 });
      s.island.edgeAt = some 0 ∧ 0 + 525 * (1000000 + 100) < s.island.time)
    ∧ (let s := isl (fun x => { x with
        edgeAt := some 1040000000, edgeRun := 1, tod := { seq := some 4, seconds := 7, run := 1 } });
      s.island.todInTime = true ∧ s.island.tod.seq = some (((5 : Byte).toNat + 255) % 256)
        ∧ s.island.tod.seconds + 1 = beNat [0, 0, 0, 0, 0, 8])
    ∧ (let x := { (isl id).island with calAt := 1050000000 }; 7 ≠ x.calTo.nearestSec) := by decide

set_option maxRecDepth 20000 in
theorem witness_IslandSamplesAndRecords_frames :
    ((isl id).island.up = true ∧ (isl id).island.mrefOk = true)
    ∧ crc8 ((dwordBytes frame).reverse.take 7) = fld frame 0 8 ∧ bit frame 15 = true ∧ fld frame 10 5 = 0
    ∧ (crc8 ((dwordBytes (0 : DWord)).reverse.take 7) ≠ fld (0 : DWord) 0 8 ∨ bit (0 : DWord) 15 = false) := by decide

theorem witness_IslandSamplesAndRecords_absences :
    (let s := isl (fun x => { x with missRun := 16, interval := some { cycles := 2500 } });
      s.island.adcOk = true ∧ 16 ≤ s.island.missRun ∧ s.island.countFits 1250 = true ∧ s.island.countFits 5000 = true
        ∧ s.island.mrefOk = true ∧ s.island.interval = some { cycles := 2500 })
    ∧ (let s := isl (fun x => { x with adcOk := false, goodRun := 8, interval := none, adcTold := true });
      s.island.adcOk = false ∧ 8 ≤ s.island.goodRun ∧ s.island.interval = none ∧ s.island.adcTold = true)
    ∧ (let s := isl (fun x => { x with mrefOk := false, interval := none, mrefTold := true });
      s.island.mrefOk = false ∧ s.island.interval = none ∧ s.island.mrefTold = true
        ∧ s.island.mrefAt + 525000000 ≤ s.island.time)
    ∧ (let s := isl (fun x => { x with interval := some { cycles := 599997500 } });
      s.island.interval = some { cycles := 599997500 } ∧ 599997500 ≤ 599997500 ∧ 599997500 ≤ 600001250)
    ∧ (let s := isl (fun x => { x with adcOk := false, mrefOk := false });
      s.island.adcTold = false ∧ s.island.adcAt + 525000000 < s.island.time
        ∧ s.island.mrefTold = false ∧ s.island.mrefAt + 525000000 < s.island.time)
    ∧ (let s := isl (fun x => { x with outbox := [{ seq := 1, words := [1] }] });
      s.island.live = true ∧ s.island.outbox ≠ []) := by decide

/-- A parameter block of version 1 with gains 1 and 2, and its CRC. -/
def block : List Byte :=
  [0x4D, 0x50, 1, 0, 1, 0, 0, 0, 0, 0, 0, 0, 2, 0, 0, 0] ++ List.replicate 12 0 ++ [1, 0, 0, 0] ++ List.replicate 28 0
    ++ [0xBF, 0x9B, 0x80, 0xA9]

theorem witness_IslandParametersAndMailbox_refused :
    (isl id).island.up = true ∧ (isl id).island.countFits 2500 = true ∧ blockFormat ([] : List Byte) = false
    ∧ leNat (block.drop 28 |>.take 4) ≤ (isl (fun x => { x with params := { ver := 1 } })).island.params.ver
    ∧ 0xFFFFFFFF ≤ (isl (fun x => { x with audit := 0xFFFFFFFF })).island.audit
    ∧ (isl (fun x => { x with lcSeen := 4 })).island.lcSeen = 4 := by decide

set_option maxRecDepth 20000 in
theorem witness_IslandParametersAndMailbox_accepted :
    blockFormat block = true ∧ crc32 (block.take 60) = leNat (block.drop 60 |>.take 4)
    ∧ (isl id).island.params.ver < leNat (block.drop 28 |>.take 4) ∧ (isl id).island.lcSeen ≠ 4
    ∧ (isl id).island.audit < 0xFFFFFFFF := by decide

theorem witness_IslandParametersAndMailbox_mailbox :
    (let s := isl (fun x => { x with log := [{ seq := 1, words := [1] }], lcSeen := 4, coachSeq := 1 });
      s.island.up = true ∧ s.island.log = [{ seq := 1, words := [1] }] ∧ s.island.lcSeen = 4 ∧ 1 ≤ s.island.coachSeq)
    ∧ (let s := isl (fun x => { x with log := [{ seq := 1, words := [1] }], replay := some 1, replayEnd := 2 });
      s.island.powerGood = true ∧ s.island.replayAt ≤ s.island.time ∧ s.island.replay = some 1
        ∧ s.island.log.find? (fun c => c.seq == 1) = some { seq := 1, words := [1] })
    ∧ (let s := isl (fun x => { x with wire := [({ seq := 31, words := [1, 2] }, false)] });
      Live s ∧ s.island.wire = [({ seq := 31, words := [1, 2] }, false)])
    ∧ (let s := { isl id with mb := { field.mb with slots := [(31, { full := true, words := [1, 2] })] } };
      (s.mbSlot 31).full = true ∧ (s.mbSlot 31).words ≠ [] ∧ (s.mbSlot 31).words.length ≤ 8
        ∧ (0x808CC : Nat) + 4 = 0x80100 + 0x40 * 31 + 8 * (s.mbSlot 31).words.length
        ∧ s.glob.latches.find? (fun e => e.1 == 0x808CC) = none ∧ (s.mbSlot 30).words = [])
    ∧ (let s := { isl id with glob := { field.glob with latches := [(0x808CC, 7)] } };
      s.glob.latches.find? (fun e => e.1 == 0x808CC) = some (0x808CC, 7))
    ∧ (let s := isl (fun x => { x with mirrorAt := 1050000000 - 512695 });
      s.island.mirrorAt + 512695 ≤ s.island.time ∧ s.island.calFits (7 % 2 ^ 64) (9 % 2 ^ 32) = true)
    ∧ ((isl id).sb.inReset = false ∧ ({ isl id with sb := { inReset := true } } : State).sb.inReset = true) := by decide

/-! ## Cold reset, pins, SMBus, life cycle -/

/-- The life-cycle block as given. -/
def lcSt (f : Lifecycle → Lifecycle) : State := { warm with lc := f { warm.lc with state := .provisioned, uid := 0 } }

theorem witness_ResetPinsAndSmbus_reset :
    (warm.sb.inReset = false ∧ warm.lc.busy = .none)
    ∧ (let s := ({ warm with sb := { inReset := true, resetAt := 475000 } } : State);
      s.sb.inReset = true ∧ s.sb.resetAt + 525000 ≤ s.now)
    ∧ (let s := ({ warm with sb := { inReset := true, resetAt := 475001 } } : State);
      s.now < s.sb.resetAt + 525000)
    ∧ (let s := lcSt (fun l => { l with busy := .moving .field false 0 });
      s.sb.inReset = false ∧ s.lc.busy = .moving .field false 0)
    ∧ (let s := lcSt (fun l => { l with busy := .moving .field false 1000000 }); s.now ≤ 1000000)
    ∧ (let s := { lcSt (fun l => { l with erasePend := true, state := .return_ }) with sb := { inReset := true } };
      s.sb.inReset = true ∧ s.lc.erasePend = true) ∧ State.reset.lc.erasePend = false := by decide

theorem witness_ResetPinsAndSmbus_lines :
    (Live warm ∧ 3 < 4 ∧ warm.ref.tickValid = true ∧ warm.sb.evtLevel.testBit 3 = false
      ∧ warm.hz.feedSrc.testBit 3 = false
      ∧ tget 0 warm.sb.evtAt 3 + max 1 (fld warm.sb.evtCfg 8 8) ≤ warm.now)
    ∧ (let s := { warm with sb := { warm.sb with evtAt := [(3, 1000000)] } };
      s.now < tget 0 s.sb.evtAt 3 + max 1 (fld s.sb.evtCfg 8 8))
    ∧ (let s := { warm with hz := { warm.hz with feedSrc := 8 }, log := { warm.log with evts := [3] } };
      s.hz.feedSrc.testBit 3 = true ∧ s.log.evts = [3])
    ∧ (let s := { warm with sb := { warm.sb with evtLevel := 8 } }; s.sb.evtLevel.testBit 3 = true)
    ∧ cold.ref.tickValid = false := by decide

theorem witness_ResetPinsAndSmbus_reads :
    (0x00000 < 2 ^ 20 ∧ 0x00000 % 4 = 0 ∧ smbReadable 0x00000 = true ∧ pairLow 0x00000 = false ∧ 0x00000 ≠ 0x80018
      ∧ warm.before .smbus 0x00000 = none)
    ∧ (0xFFFFC < 2 ^ 20 ∧ smbReadable 0xFFFFC = false ∧ smbReadable 0x00004 = true ∧ pairLow (0x00004 - 4) = false)
    ∧ (0x01038 % 4 = 0 ∧ smbReadable 0x01038 = true ∧ smbReadable (0x01038 + 4) = true ∧ pairLow 0x01038 = true)
    ∧ (8 < 9) ∧ ¬ (0x20 = 0x20 ∧ 4 = 3) := by decide

theorem witness_ResetPinsAndSmbus_writes :
    (∀ p : Pec, p = .bad → p = .bad) ∧ bit warm.sb.smbCfg 0 = false
    ∧ (let s := { warm with sb := { warm.sb with smbCfg := 1 } }; bit s.sb.smbCfg 0 = true)
    ∧ (0x0407C % 4 = 0 ∧ 0x0407C ≠ 0x04080 ∧ 0x0407C < 0xA0000 ∧ 0xA1000 < 2 ^ 20)
    ∧ (warm.before .smbus 0xA0008 = none ∧ warm.before .smbus 0xA0014 = none)
    ∧ (let s := { warm with log := { warm.log with wrote := [(.seq, 0xA0008, 0)] } };
      s.before .smbus 0xA0008 ≠ none) := by
  exact ⟨fun _ h => h, by decide, by decide, by decide, by decide, by decide⟩

theorem witness_TokensAndTransitions_verify :
    (Live warm ∧ warm.lc.busy = .none ∧ warm.lc.state ≠ .ended)
    ∧ (lcSt (fun l => { l with state := .ended })).lc.state = .ended
    ∧ (let s := lcSt (fun l => { l with busy := .verifying [] 0 0 }); s.lc.busy ≠ .none ∧ s.lc.busy = .verifying [] 0 0
      ∧ s.now ≤ 0 + 2100000)
    ∧ tokFormat [] = false := by decide

/-- A token of kind 2 for the identity 0 and the nonce 0, its reserved bytes 0. -/
def unlockToken : List Byte := [0x31, 0x4C, 0x54, 0x4B, 2, 1, 0, 0] ++ List.replicate 120 0

theorem witness_TokensAndTransitions_checks :
    tokFormat unlockToken = true ∧ tokKind unlockToken = 2
    ∧ (lcSt id).lc.state.kinds.contains 2 = true ∧ LcState.blank.kinds.contains 2 = false
    ∧ tokNat unlockToken 8 8 = (lcSt id).lc.uid.toNat ∧ tokNat unlockToken 16 8 = (0 : DWord).toNat
    ∧ tokNat unlockToken 16 8 ≠ (1 : DWord).toNat := by decide

/-- A token passes where its signature does, a free value. -/
theorem witness_TokensAndTransitions_passes
    (h : ∃ k ∈ (lcSt id).lc.tokenKeys 2, Config.ecdsaVerify k (unlockToken.take 32) (unlockToken.drop 32) = true) :
    TokenPasses (lcSt id).lc unlockToken 0 :=
  ⟨by decide, by decide, by decide, by decide, h, by decide⟩

theorem witness_TokensAndTransitions_transitions :
    (let s := lcSt (fun l => { l with populated := 7 });
      s.lc.busy = .none ∧ s.lc.state = .provisioned ∧ s.lc.hasSlot 2 = true ∧ s.lc.isRevoked 2 = false)
    ∧ (field.lc.state = .field ∧ field.lc.state ≠ .provisioned ∧ 0xFFFF ≠ 0x0ED0)
    ∧ (warm.lc.state ≠ .provisioned ∧ warm.lc.state ≠ .field)
    ∧ (let s := lcSt (fun l => { l with busy := .moving .ended false 0, unlock := some 1 });
      s.lc.busy = .moving .ended false 0 ∧ s.now ≤ 0 + 26250000 ∧ s.log.priv = false)
    ∧ ((isl id).island.up = true ∧ (isl id).island.lcSeen ≠ 4 ∧ field.island.up = false) := by decide

theorem witness_KeyCommandsSealAndUnlock_keys :
    (let s := lcSt id;
      Live s ∧ s.lc.busy = .none ∧ s.lc.hasSlot 4 = false ∧ 4 < 65536 ∧ 5 < 65536 ∧ s.lc.hasSlot 0 = true
        ∧ s.lc.isRevoked 0 = false ∧ 0 ≠ 2 ∧ s.lc.hasSlot 2 = false ∧ s.lc.hasSlot 3 = false)
    ∧ ((lcSt id).lc.minSecVer < 64 ∧ (lcSt id).seqImage = false)
    ∧ (let s := { lcSt id with seq := { (run 0 id).seq with secVer := 5 } };
      s.seqImage = true ∧ s.seq.secVer.toNat < 6 ∧ s.lc.minSecVer < 5)
    ∧ ((lcSt id).lc.unlock = none ∧ (lcSt (fun l => { l with unlock := some 3 })).lc.unlock.isSome = true) := by decide

/-- A point of the curve is one or not, a free value: KEY_INSTALL's two clauses meet it. -/
theorem witness_KeyCommandsSealAndUnlock_point :
    Config.onCurve ((List.range 24).flatMap (fun w => wordBytes (tget 0 (lcSt id).lc.keyBuf w))) = true
    ∨ Config.onCurve ((List.range 24).flatMap (fun w => wordBytes (tget 0 (lcSt id).lc.keyBuf w))) = false :=
  Bool.eq_false_or_eq_true _

theorem witness_KeyCommandsSealAndUnlock_seal :
    ((lcSt id).lc.sealed = false ∧ (lcSt (fun l => { l with sealed := true })).lc.sealed = true
      ∧ ∀ e ∈ (lcSt id).log.wrote, e.1 = .host ∨ lkMask e.2.1 = 0)
    ∧ (let s := { lcSt id with log := { warm.log with wrote := [(.seq, 0x0208C, 3)] } };
      s.lc.sealed = false ∧ s.log.wrote = [(.seq, 0x0208C, 3)])
    ∧ (let s := { field with now := 2 ^ 34 }; s.lc.state = .field ∧ s.lc.sealed = false ∧ 2 ^ 34 ≤ s.now)
    ∧ (let s := { lcSt (fun l => { l with unlock := some 3, unlockDur := 1 }) with now := 2 ^ 30 };
      s.lc.unlock.isSome = true ∧ s.lc.unlockDur ≠ 0 ∧ s.lc.unlockDur * 2 ^ 30 ≤ s.now - s.lc.unlockAt)
    ∧ (lcSt (fun l => { l with unlock := some 3 })).lc.unlockDur = 0 := by decide

/-! ## The window -/

theorem witness_RegisterWritesByPath :
    (Live warm ∧ warm.privOpen = true ∧ field.privOpen = false ∧ (warm.region 207).racg.refLost = false)
    ∧ (16 ≠ 32 ∧ 0x0000E % 4 ≠ 0 ∧ 0x1D000 ≤ 0x1FFFC ∧ 0x1FFFC < 0x20000 ∧ 0xA1000 ≤ 0xFFFFC)
    ∧ (0x40000 ≤ 0x77FFC ∧ 0x77FFC < 0x78000 ∧ 0x90000 ≤ 0x90FFC ∧ 0x90FFC < 0x91000)
    ∧ (0x01000 ≤ 0x07FFC ∧ 0x07FFC < 0x08000 ∧ 0x10000 ≤ 0x1CFFC ∧ 0x1CFFC < 0x1D000 ∧ 0x20000 ≤ 0x274FC
      ∧ 0x274FC < 0x27500 ∧ 0x30000 ≤ 0x30FFC ∧ 0x30FFC < 0x31000) := by decide

theorem witness_RegisterWritesByPath_nothing_later :
    NothingLater .host warm ∧ NothingLater .seq field := ⟨fun _ => rfl, fun _ => rfl⟩

theorem witness_RegisterWritesByPath_order :
    ∀ off ∈ [0x0000C, 0x0100C, 0x02084, 0x03024, 0x08044],
      (let s := { warm with log := { warm.log with wrote := [(.seq, off, 7)] } };
        Live s ∧ s.before .host off = some 7 ∧ off % 4 = 0 ∧ s.mayReach .host off = true ∧ off < 0x40000)
      ∧ rwMask 0x0100C = 0xFFFFFFFF := by decide

theorem witness_MailboxIgnoresEveryWrite : 0x80000 ≤ 0x80000 ∧ 0x80FFC < 0x81000 := by decide

theorem witness_PairReadsAndIgnoredCount :
    (∃ off, off < 0x8000 ∧ off % 4 = 0 ∧ pairLow off = true ∧ smbReadable (off + 4) = true
      ∧ 16 ≠ 32 ∧ ∃ s : State, Live s ∧ s.glob.latches.find? (fun e => e.1 == off + 4) = some (off + 4, 7)) :=
  ⟨0x01038, by decide, by decide, by decide, by decide, by decide,
    { warm with glob := { warm.glob with latches := [(0x0103C, 7)] } }, by decide, by decide⟩

/-! ## The machine -/

theorem witness_StepIsExecOfTheFrontCommand :
    ({ warm with pending := [.smbTimeout, .seal .host] } : State).pending = .smbTimeout :: [.seal .host] := by decide

theorem witness_EmptyQueueIsOneDieTick : cold.pending = [] ∧ warm.pending = [] ∧ warm.ref.tickValid = true
    ∧ cold.ref.tickValid = false ∧ ({ cold with sb := { inReset := true } } : State).sb.inReset = true := by decide

theorem witness_EveryWellFormedCommandCompletes :
    Instr.wellFormed .smbTimeout = true ∧ (Instr.seal .host).wellFormed = true := by decide

theorem witness_ColdResetInForceHoldsEveryOtherCommand :
    ∃ t, Sys2Proof.Machine.exec .smbTimeout { cold with sb := { inReset := true } } = .next t
      ∧ resetRow .smbTimeout = false ∧ islandRow .smbTimeout = false
      ∧ ({ cold with sb := { inReset := true } } : State).sb.inReset = true := ⟨_, rfl, rfl, rfl, rfl⟩

theorem witness_EveryStepKeepsTheMemoriesCanonical :
    State.reset.memoriesWf = true ∧ ∃ t, Sys2Proof.Machine.step State.reset = .next t := ⟨by decide, _, rfl⟩

theorem witness_LifeCycleStateMovesOnlyAsListed_reset : LcSound State.reset :=
  fun _ _ _ h => LcBusy.noConfusion h

theorem witness_LifeCycleStateMovesOnlyAsListed :
    LcSound (lcSt (fun l => { l with busy := .moving .field false 0 }))
    ∧ ∃ t, Sys2Proof.Machine.step (lcSt (fun l => { l with busy := .moving .field false 0 })) = .next t := by
  refine ⟨fun a b c h => ?_, _, rfl⟩
  cases h
  exact Or.inr (Or.inl ⟨rfl, rfl, rfl⟩)

theorem witness_TheKtcNeverReachesTheIsland :
    ∃ t, Sys2Proof.Machine.exec .smbTimeout (isl id) = .next t ∧ islandRow .smbTimeout = false
      ∧ resetRow .smbTimeout = false := ⟨_, rfl, rfl, rfl⟩

end Sys2Proof.Tests
end

section
/-! PROOF. Every command answers a next state, or names a part the KTC does not have (R8, R10; log entry 9). -/

namespace Sys2Proof.Machine

open Sys2Proof

/-- What a command may answer: a next state, which it does where its operands lie in their ranges (`wf`), or the
fault that it names a part the KTC does not have. -/
def CompletesIf (wf : Bool) (r : Res) : Prop :=
  (wf = true → ∃ t, r = .next t) ∧ ((∃ t, r = .next t) ∨ ∃ what i, r = .fault (.noSuchPart what i))

theorem CompletesIf.next {wf : Bool} (t : State) : CompletesIf wf (.next t) := ⟨fun _ => ⟨t, rfl⟩, .inl ⟨t, rfl⟩⟩

/-- An event of a part completes where the part exists. -/
theorem CompletesIf.event {wf : Bool} {what : String} {n i : Nat} {s : State} {b : Bool} {f : State → State}
    (h : wf = true → i < n) : CompletesIf wf (actAt what n i s b f) := by
  by_cases hi : i < n
  · rw [actAt, if_pos hi]
    exact .next _
  · exact ⟨fun hw => absurd (h hw) hi, .inr ⟨what, i, if_neg hi⟩⟩

/-- An event whose only operand with a range is the part it names. -/
theorem CompletesIf.part {what : String} {n i : Nat} {s : State} {b : Bool} {f : State → State} :
    CompletesIf (decide (i < n)) (actAt what n i s b f) := .event of_decide_eq_true

/-- An event with ranges for its other operands too. -/
theorem CompletesIf.partAnd {what : String} {n i : Nat} {s : State} {b w : Bool} {f : State → State} :
    CompletesIf (decide (i < n) && w) (actAt what n i s b f) :=
  .event fun h => of_decide_eq_true (Bool.and_eq_true_iff.1 h).1

/-- An event of a region that comes by a door slot names two parts. -/
theorem CompletesIf.slotAndRegion {k r : Nat} {s : State} {b : Bool} {f : State → State} :
    CompletesIf (decide (k < 4) && decide (r < 208))
      (if k < 4 then actAt "region" 208 r s b f else .fault (.noSuchPart "door slot" k)) := by
  split
  · exact .event fun h => of_decide_eq_true (Bool.and_eq_true_iff.1 h).2
  · rename_i hk
    exact ⟨fun h => absurd (of_decide_eq_true (Bool.and_eq_true_iff.1 h).1) hk, .inr ⟨_, _, rfl⟩⟩

theorem CompletesIf.ite {wf : Bool} {c : Prop} [Decidable c] {a b : Res} (ha : CompletesIf wf a)
    (hb : CompletesIf wf b) : CompletesIf wf (if c then a else b) := by
  split
  · exact ha
  · exact hb

/-- Every command completes, or is an event that names a part the KTC does not have (R8, R10): the events of a part
go through `actAt`, and every other row answers a next state whatever it names (R13). -/
theorem exec_completesIf (c : Instr) (s : State) : CompletesIf c.wellFormed (exec c s) := by
  cases c
  -- Events of the regions' pages.
  case lossOfLock | outputSwitchComplete | ceilLimited | doorTaken | measDone | phaseDone | refLost | holdExit
      | shutterClosed | shutterOpened | droopCrossing | episodeEnd | episodeContinued | thermalConversion
      | probeDone | calExpired | periodicSnapshot | forecast | windowClose =>
    exact .part
  -- Events of the spine, the rails, the clusters, the request channels and the door slots.
  case segSwap | spareTrunkFail | ldwarnDeassert | staggerSlotExpiry | avsFrameEnd | avsSettleDone
      | armingDeadline | cancelResend | cancelLost | settleCheck =>
    exact .part
  -- Events of the couplers, the measurement channels and the queues.
  case couplerWrite | couplerRead | enableComplete | drained | held | holdSlow | swapped | stallLong
      | measCalDone | startEdge | stopEdge | resultComplete | orphan | overflow | streamStamp | streamRecal
      | streamCoachTimeout | coachWritten | heldReadComplete | flushDone =>
    exact .part
  -- Events of the links, the compare slots and the EVT_IN lines.
  case alignWordSend | alignWordReceive | peerLost | slotFired | evtInAssert | evtInDeassert =>
    exact .part
  -- Instructions and host commands, which name a task.
  case add | sub | and | or | xor | shl | shr | sra | mul | slt | sltu | addi | andi | ori | xori | shli | shri
      | srai | lui | slti | beq | bne | blt | bge | bltu | bgeu | jal | jalr | rds | ld | st | xchg | ldk | stk
      | rdt | waitt | waitr | waite | setev | clrev | dwait | bcast | armd | push | pop | tstart | tstop | halt
      | illegalInstruction | cmdStatus | cmdGearChange | cmdGearAbort | cmdRacg | cmdCoupler | cmdFence
      | cmdAdopt | cmdUnfence | cmdMeasArm | cmdMeasDisarm | cmdGtJoin | cmdGtLeave | cmdSnapStamp | cmdSnapAck
      | cmdPartners | cmdMalformed =>
    exact .part
  case lock | rampStep => exact .partAnd
  case armMessage | armAcknowledgement | cancelMessage | cancelAck => exact .slotAndRegion
  -- Ends of a task's wait: what is waited for is looked up first.
  case timedWaitEnd | eventWaitEnd | doorWaitEnd | armdLand | pushGrant =>
    dsimp only [exec, execTimedWaitEnd, execEventWaitEnd, execDoorWaitEnd, execArmdLand, execPushGrant]
    split <;> exact .part
  -- Rows that look up what is in progress: they answer a next state whatever they name.
  case fenceDone | adopted | adoptUndo | postedWrite | verifyDone | transitionCommit | preferredRefWaitExpiry
      | bcastMessage | islandAbsenceTimeout =>
    dsimp only [exec, execFenceDone, execAdopted, execAdoptUndo, execPostedWrite, execVerifyDone,
      execTransitionCommit, execPreferredRefWaitExpiry, execBcastMessage, execIslandAbsenceTimeout]
    split <;> exact .next _
  -- A code or an index that its register does not have is no write.
  case racgReservedCmd | ceilTblWrite | detTrimWrite | cplReservedCmd | measReservedCmd =>
    exact .ite (.next _) (.next _)
  -- Register writes and reads, and the events that name no part, go through `act`.
  all_goals exact .next _

/-- Settles O3: by the rows, each of which goes through `act` or, where it names a part, through `actAt`. -/
theorem everyWellFormedCommandCompletes : Obligations.EveryWellFormedCommandCompletes :=
  fun c s => exec_completesIf c s

end Sys2Proof.Machine
end

section
/-! PROOF. Which parts of the state a command leaves, part by part. -/

namespace Sys2Proof.Machine

open Sys2Proof

theorem Only.iff_parts {ps : List Part} {s t : State} : Only ps s t ↔
    (.pending ∉ ps → t.pending = s.pending) ∧ (.now ∉ ps → t.now = s.now) ∧ (.free ∉ ps → t.freeIdx = s.freeIdx)
    ∧ (.tick ∉ ps → t.tick = s.tick) ∧ (.glob ∉ ps → t.glob = s.glob) ∧ (.ref ∉ ps → t.ref = s.ref)
    ∧ (.regions ∉ ps → t.regions = s.regions) ∧ (.fc ∉ ps → t.fc = s.fc) ∧ (.doors ∉ ps → t.doors = s.doors)
    ∧ (.cpls ∉ ps → t.cpls = s.cpls) ∧ (.meas ∉ ps → t.meas = s.meas) ∧ (.pool ∉ ps → t.pool = s.pool)
    ∧ (.gt ∉ ps → t.gt = s.gt) ∧ (.hz ∉ ps → t.hz = s.hz) ∧ (.seq ∉ ps → t.seq = s.seq)
    ∧ (.cmd ∉ ps → t.cmd = s.cmd) ∧ (.island ∉ ps → t.island = s.island) ∧ (.mb ∉ ps → t.mb = s.mb)
    ∧ (.sb ∉ ps → t.sb = s.sb) ∧ (.lc ∉ ps → t.lc = s.lc) ∧ (.out ∉ ps → t.out = s.out) := by
  refine ⟨fun h => ⟨h _, h _, h _, h _, h _, h _, h _, h _, h _, h _, h _, h _, h _, h _, h _, h _, h _, h _, h _, h _,
    h _⟩, fun h q => ?_⟩
  obtain ⟨h1, h2, h3, h4, h5, h6, h7, h8, h9, h10, h11, h12, h13, h14, h15, h16, h17, h18, h19, h20, h21⟩ := h
  cases q <;> assumption

/-- A change of the record of the die tick alone is a change of no part. -/
theorem Only.of_log (s : State) (l : TickLog) : Only [] s { s with log := l } := by simp [Only.iff_parts]

end Sys2Proof.Machine
end

section
/-! PROOF. Register writes and reads by path (R12 to R16, R36 to R43). -/

namespace Sys2Proof.Machine

open Sys2Proof

/-! ## Classes and reach (R37 to R42) -/

theorem writeClass_eq_s {off : Nat} (h : 0x01000 ≤ off ∧ off < 0x08000 ∨ 0x10000 ≤ off ∧ off < 0x1D000
    ∨ 0x20000 ≤ off ∧ off < 0x27500 ∨ 0x30000 ≤ off ∧ off < 0x31000) : writeClass off = .s := by
  unfold writeClass
  grind

theorem writeClass_eq_p {off : Nat} (h : 0x40000 ≤ off ∧ off < 0x78000) : writeClass off = .p := by
  unfold writeClass
  grind

theorem writeClass_ne_p {off : Nat} (h : off < 0x40000 ∨ 0x78000 ≤ off) : writeClass off ≠ .p := by
  unfold writeClass
  (repeat' split) <;> simp
  omega

theorem writeClass_ne_s {off : Nat} (h : off < 0x01000 ∨ 0x1D000 ≤ off ∧ off < 0x20000 ∨ 0x31000 ≤ off) :
    writeClass off ≠ .s := by
  unfold writeClass
  (repeat' split) <;> simp <;> omega

theorem writeClass_eq_h {off : Nat} (h : off < 0x01000 ∨ 0x38000 ≤ off ∧ off < 0x40000) : writeClass off = .h := by
  unfold writeClass
  grind

theorem State.mayReach_of_h {s : State} {p : Path} {off : Nat} (hp : p = .host ∨ p = .seq)
    (hc : writeClass off = .h) (hl : off < 0x90000) : s.mayReach p off = true := by
  rcases hp with rfl | rfl <;> simp [State.mayReach, hc]
  omega

theorem State.mayReach_of_s {s : State} {p : Path} {off : Nat} (hp : p = .seq ∨ p = .host ∧ s.privOpen = true)
    (hc : writeClass off = .s) : s.mayReach p off = true := by
  rcases hp with rfl | ⟨rfl, ho⟩
  · simp [State.mayReach, hc]
  · simp [State.mayReach, hc, ho]

/-- The sequencer reaches neither the blocks of class P nor the life-cycle block (R38, R42). -/
theorem State.mayReach_seq_shut (s : State) {off : Nat}
    (h : 0x40000 ≤ off ∧ off < 0x78000 ∨ 0x90000 ≤ off ∧ off < 0x91000) : s.mayReach .seq off = false := by
  rcases h with h | h
  · simp [State.mayReach, writeClass_eq_p h]
  · simp (disch := omega) [State.mayReach, writeClass, if_neg, h]

@[simp] theorem State.notePriv_seq (s : State) (off : Nat) : s.notePriv .seq off = s := by simp [State.notePriv]

theorem State.notePriv_of_ne {s : State} {p : Path} {off : Nat} (h : writeClass off ≠ .p) : s.notePriv p off = s := by
  simp [State.notePriv, h]

theorem State.notePriv_of_p {s : State} {off : Nat} (h : writeClass off = .p) :
    s.notePriv .host off = { s with log := { s.log with priv := true } } := by simp [State.notePriv, h]

theorem State.notePriv_only (s : State) (p : Path) (off : Nat) : Only [] s (s.notePriv p off) := by
  unfold State.notePriv
  split
  · exact .of_log _ _
  · exact .refl _ _

@[simp] theorem State.mayReach_notePriv (s : State) (p q : Path) (off off' : Nat) :
    (s.notePriv p off).mayReach q off' = s.mayReach q off' := by
  unfold State.notePriv
  split <;> rfl

@[simp] theorem State.before_notePriv (s : State) (p q : Path) (off off' : Nat) :
    (s.notePriv p off).before q off' = s.before q off' := by
  unfold State.notePriv
  split <;> rfl

theorem State.mayWrite_of_reach {s : State} {p : Path} {off : Nat} (h : s.mayReach p off = true)
    (hb : s.before p off = none) : s.mayWrite p off = true := by simp [State.mayWrite, State.overtaken, h, hb]

/-- A write that a later path's write in this die tick has overtaken leaves the state (R43). -/
theorem State.gate_overtaken {s : State} {p : Path} {off : Nat} {f : State → State} (h : s.mayReach p off = true)
    (ho : s.overtaken p off = true) : s.gate p off f = s := by simp [State.gate, State.mayWrite, h, ho]

/-- A write by the sequencer that may not be made, or by the host outside the blocks of class S, leaves the state. -/
theorem State.gate_refused {s : State} {p : Path} {off : Nat} {f : State → State}
    (hp : p = .seq ∨ p = .host ∧ writeClass off ≠ .s) (h : s.mayWrite p off = false) : s.gate p off f = s := by
  rcases hp with rfl | ⟨rfl, hc⟩
  · simp [State.gate, h]
  · simp [State.gate, h, hc]

/-- A host write to a block of class S that it may not reach is counted (R38). -/
theorem State.gate_counted {s : State} {off : Nat} {f : State → State} (hc : writeClass off = .s)
    (h : s.mayReach .host off = false) : s.gate .host off f = s.countIgnored off := by
  simp [State.gate, State.mayWrite, h, hc]

/-! ## REGISTER_WRITE -/

theorem registerWrite_next {s : State} (hr : Live s) (p : Path) (off : Nat) (v : Word) :
    exec (.registerWrite p off 32 v) s = .next (s.writeReg p off v) := by
  show execRegisterWrite p off 32 v s = _
  exact act_next hr rfl

theorem State.writeReg_aligned {s : State} {p : Path} {off : Nat} (v : Word) (ha : off % 4 = 0) :
    s.writeReg p off v = (s.notePriv p off).gate p off (fun s =>
      let old := s.readReg off
      let s := if off = 0x90004 ∧ bit v 4 = true then s.sealFirst p else s
      (s.writeAt p off (s.ordered p off old v)).noteWrite p off old) := if_pos ha

/-- A write by a path that may make it, with no later path's write before it: the offset's own effect. -/
theorem State.writeReg_open {s : State} {p : Path} {off : Nat} (v : Word) (ha : off % 4 = 0)
    (hr : s.mayReach p off = true) (hb : s.before p off = none) (hs : off ≠ 0x90004) :
    s.writeReg p off v
      = ((s.notePriv p off).writeAt p off v).noteWrite p off ((s.notePriv p off).readReg off) := by
  rw [State.writeReg_aligned v ha, State.gate_open (State.mayWrite_of_reach (by simpa using hr) (by simpa using hb))]
  simp [hs, State.ordered, hb]

theorem State.writeReg_misaligned {s : State} {p : Path} {off : Nat} (v : Word) (hp : p = .host ∨ p = .seq)
    (ha : off % 4 ≠ 0) : s.writeReg p off v = s := by
  unfold State.writeReg
  rcases hp with rfl | rfl <;> exact if_neg ha

/-- A write that may not be made, but for the host's to a block of class S, is noted at most (R38, R452). -/
theorem State.writeReg_refused {s : State} {p : Path} {off : Nat} (v : Word)
    (hp : p = .seq ∨ p = .host ∧ writeClass off ≠ .s) (h : s.mayReach p off = false) :
    s.writeReg p off v = s ∨ s.writeReg p off v = s.notePriv p off := by
  by_cases ha : off % 4 = 0
  · rw [State.writeReg_aligned v ha, State.gate_refused hp (by simp [State.mayWrite, h])]
    exact .inr rfl
  · exact .inl (State.writeReg_misaligned v (hp.symm.imp And.left id) ha)

/-- No block answers at these offsets: the reserved ranges between the blocks, and the mailbox. -/
def Unwritten (off : Nat) : Prop :=
  0x1D000 ≤ off ∧ off < 0x20000 ∨ 0x78000 ≤ off ∧ off < 0x90000 ∨ 0x91000 ≤ off ∧ off < 0xA0000 ∨ 0xA1000 ≤ off

theorem State.writeAt_unwritten {off : Nat} (h : Unwritten off) (s : State) (p : Path) (v : Word) :
    s.writeAt p off v = s := by
  rcases h with h | h | h | h <;> simp (disch := omega) only [State.writeAt, if_neg, if_pos]

theorem State.writeReg_unwritten {s : State} {p : Path} {off : Nat} (v : Word) (hp : p = .host ∨ p = .seq)
    (h : Unwritten off) : Only [] s (s.writeReg p off v) := by
  have hs : writeClass off ≠ .s := writeClass_ne_s (by unfold Unwritten at h; omega)
  have hc : writeClass off ≠ .p := writeClass_ne_p (by unfold Unwritten at h; omega)
  by_cases ha : off % 4 = 0
  · have hseal : off ≠ 0x90004 := by unfold Unwritten at h; omega
    rw [State.writeReg_aligned v ha, State.notePriv_of_ne hc]
    cases hm : s.mayWrite p off with
    | true =>
      rw [State.gate_open hm]
      simp only [hseal, false_and, if_false, State.writeAt_unwritten h]
      exact .of_log _ _
    | false =>
      rw [State.gate_refused (hp.symm.imp id (⟨·, hs⟩)) hm]
      exact .refl _ _
  · rw [State.writeReg_misaligned v hp ha]
    exact .refl _ _

theorem writesWithoutEffect : WritesWithoutEffect := by
  intro off v s hr
  refine ⟨fun p width hw => ?_, fun p hp ha => ?_, fun p hp h => ?_, fun h => ?_, fun ho h1 h2 => ?_,
    fun ho ha h => ?_⟩
  · exact ⟨s, show execRegisterWrite p off width v s = _ from act_idle (.inr (by simpa using hw)), rfl⟩
  · exact ⟨_, registerWrite_next hr .., State.writeReg_misaligned v hp ha⟩
  · exact ⟨_, registerWrite_next hr .., State.writeReg_unwritten v hp h⟩
  · exact ⟨_, registerWrite_next hr .., by simpa using State.writeReg_refused v (.inl rfl) (s.mayReach_seq_shut h)⟩
  · have hc := writeClass_eq_p ⟨h1, h2⟩
    refine ⟨_, registerWrite_next hr .., ?_⟩
    rcases State.writeReg_refused (s := s) (p := .host) (off := off) v (.inr ⟨rfl, by simp [hc]⟩)
      (by simp [State.mayReach, hc, ho]) with h | h <;> rw [h]
    · exact .refl _ _
    · exact s.notePriv_only _ _
  · have hc := writeClass_eq_s h
    refine ⟨_, registerWrite_next hr .., ?_⟩
    rw [State.writeReg_aligned v ha, State.notePriv_of_ne (by simp [hc]),
      State.gate_counted hc (by simp [State.mayReach, hc, ho])]
    rfl

/-! ## Pages (R36) -/

theorem State.writeAt_region (s : State) (p : Path) {r o : Nat} (hr : r < 208) (ho : o < 0x100) (v : Word) :
    s.writeAt p (0x10000 + 0x100 * r + o) v = s.writeRegion p r o v := by
  simp (disch := omega) only [State.writeAt, if_neg, if_pos]
  congr 1 <;> omega

theorem State.writeAt_cpl (s : State) (p : Path) {i o : Nat} (hi : i < 936) (ho : o < 0x20) (v : Word) :
    s.writeAt p (0x20000 + 0x20 * i + o) v = s.writeCpl p i o v := by
  simp (disch := omega) only [State.writeAt, if_neg, if_pos]
  congr 1 <;> omega

theorem State.writeAt_chan (s : State) (p : Path) {c o : Nat} (hc : c < 64) (ho : o < 0x40) (v : Word) :
    s.writeAt p (0x30000 + 0x40 * c + o) v = s.writeChan c o v := by
  simp (disch := omega) only [State.writeAt, if_neg, if_pos]
  congr 1 <;> omega

theorem State.writeAt_queue (s : State) (p : Path) {q o : Nat} (hq : q < 96) (ho : o < 0x40) (v : Word) :
    s.writeAt p (0x38000 + 0x40 * q + o) v = s.writeQueue q o v := by
  simp (disch := omega) only [State.writeAt, if_neg, if_pos]
  congr 1 <;> omega

/-- A word of instruction memory. -/
theorem State.writeAt_imem (s : State) (p : Path) {k : Nat} (hk : k < 0x4000) (v : Word) :
    s.writeAt p (0x60000 + 4 * k) v = { s with seq := { s.seq with imem := mput 0 s.seq.imem k v } } := by
  simp (disch := omega) only [State.writeAt, if_neg, if_pos]
  rw [show (0x60000 + 4 * k - 0x60000) / 4 = k by omega]

/-- Reading another address of a memory after a write, in canonical form or not. -/
theorem tget_tdel_of_ne {α : Type} (d : α) (t : Tbl α) {i j : Nat} (h : j ≠ i) : tget d (tdel t i) j = tget d t j := by
  induction t with
  | nil => rfl
  | cons e t ih =>
    obtain ⟨k, b⟩ := e
    simp only [tdel]
    split
    · next hk => simp [tget, ← hk, h]
    · simp only [tget, ih]

theorem tget_mput_of_ne {α : Type} [DecidableEq α] (d : α) (t : Tbl α) {i j : Nat} (a : α) (h : j ≠ i) :
    tget d (mput d t i a) j = tget d t j := by
  unfold mput
  split
  · exact tget_tdel_of_ne d t h
  · simp [h]

/-- REGISTER_WRITE outside the blocks of class P, by a path that may make it. -/
theorem registerWrite_open {s : State} (hs : Live s) {p : Path} {off : Nat} (v : Word) (ha : off % 4 = 0)
    (hl : off < 0x40000) (hr : s.mayReach p off = true) (hb : s.before p off = none) :
    exec (.registerWrite p off 32 v) s = .next ((s.writeAt p off v).noteWrite p off (s.readReg off)) := by
  rw [registerWrite_next hs, State.writeReg_open v ha hr hb (by omega), State.notePriv_of_ne (writeClass_ne_p (.inl hl))]

theorem State.writeAt_watchLimits (s : State) (p : Path) (v : Word) : s.writeAt p 0x01010 v = { s with ref := { s.ref with
    watchLimits := if s.lc.sealed = true then s.ref.watchLimits else v &&& 0x0FFFFFFF } } := by
  show (if s.lc.sealed = true then s else _) = _
  split <;> rfl

theorem State.writeAt_doorsCfg (s : State) (p : Path) (v : Word) : s.writeAt p 0x0208C v = { s with doors := { s.doors with
    cfg := if s.lc.sealed = true then s.doors.cfg else v &&& 3 } } := by
  show (if s.lc.sealed = true then s else _) = _
  split <;> rfl

theorem Forecast.keep_eq (x : Forecast) (off : Nat) (cur : Word) :
    x.keep off cur = { x with was := (x.keep off cur).was } := by
  unfold Forecast.keep
  split <;> rfl

theorem State.writeAt_tightVal (s : State) (p : Path) (v : Word) : s.writeAt p 0x03024 v
    = { s with fc := { s.fc.keep 0x03024 s.fc.tightVal with tightVal := v &&& 0xFFFF } } := rfl

/-- One entry of a table of parts is updated and the write noted. -/
theorem State.updRegion_noteWrite (s : State) (r : Nat) (f : Region → Region) (p : Path) (off : Nat) (old : Word) :
    Only [.regions] s ((s.updRegion r f).noteWrite p off old)
      ∧ RegionIs r (f (s.region r)) s ((s.updRegion r f).noteWrite p off old) :=
  ⟨by simp [Only.iff_parts], by simp, fun x hx => by simp [hx]⟩

theorem State.updCpl_noteWrite (s : State) (i : Nat) (f : Coupler → Coupler) (p : Path) (off : Nat) (old : Word) :
    Only [.cpls] s ((s.updCpl i f).noteWrite p off old) ∧ CplsBut i s ((s.updCpl i f).noteWrite p off old)
      ∧ ((s.updCpl i f).noteWrite p off old).cpl i = f (s.cpl i) :=
  ⟨by simp [Only.iff_parts], fun x hx => by simp [hx], by simp⟩

theorem State.updChan_noteWrite (s : State) (c : Nat) (f : MeasChan → MeasChan) (p : Path) (off : Nat) (old : Word) :
    Only [.meas] s ((s.updChan c f).noteWrite p off old) ∧ ChansBut c s ((s.updChan c f).noteWrite p off old)
      ∧ ((s.updChan c f).noteWrite p off old).chan c = f (s.chan c) :=
  ⟨by simp [Only.iff_parts], fun x hx => by simp [hx], by simp⟩

theorem State.updQueue_noteWrite (s : State) (q : Nat) (f : Queue → Queue) (p : Path) (off : Nat) (old : Word) :
    Only [.pool] s ((s.updQueue q f).noteWrite p off old) ∧ QueuesBut q s ((s.updQueue q f).noteWrite p off old)
      ∧ ((s.updQueue q f).noteWrite p off old).queue q = f (s.queue q) :=
  ⟨by simp [Only.iff_parts], fun x hx => by simp [hx], by simp⟩

/-- A host write of a word of instruction memory, while privileged windows are open. -/
theorem registerWrite_imem {s : State} (hs : Live s) (ho : s.privOpen = true) {k : Nat} (hk : k < 0x4000) (v : Word)
    (hb : s.before .host (0x60000 + 4 * k) = none) :
    Completes (.registerWrite .host (0x60000 + 4 * k) 32 v) s fun t => Only [.seq] s t
      ∧ (Memory.wf 0 s.seq.imem = true → tget 0 t.seq.imem k = v)
      ∧ ∀ j, j ≠ k → tget 0 t.seq.imem j = tget 0 s.seq.imem j := by
  have hc : writeClass (0x60000 + 4 * k) = .p := writeClass_eq_p (by omega)
  refine ⟨_, registerWrite_next hs .., ?_⟩
  rw [State.writeReg_open v (by omega) (by simp [State.mayReach, hc, ho]) hb (by omega), State.writeAt_imem _ _ hk,
    State.notePriv_of_p hc]
  refine ⟨by simp [Only.iff_parts], fun hwf => ?_, fun j hj => ?_⟩
  · simp only [Memory.wf, Bool.and_eq_true] at hwf
    simp [tget_mput _ _ _ _ _ hwf.1]
  · simp [tget_mput_of_ne _ _ _ hj]

theorem registerWrites : RegisterWrites := by
  intro p v s hs hp hb
  have hopen {off : Nat} (ha : off % 4 = 0) (hl : off < 0x40000) (hr : s.mayReach p off = true) :=
    registerWrite_open hs v ha hl hr (hb off)
  refine ⟨?_, fun ho => ?_, fun q hq => ?_, fun hh ho k hk => ?_⟩
  · exact ⟨_, hopen rfl (by decide) (State.mayReach_of_h hp rfl (by decide)), rfl⟩
  · have hblock {off : Nat} (ha : off % 4 = 0) (hc : writeClass off = .s) (hl : off < 0x40000) :=
      hopen ha hl (State.mayReach_of_s (hp.symm.imp id fun h => ⟨h, ho.resolve_left (by simp [h])⟩) hc)
    refine ⟨?_, ?_, ?_, ?_, ?_, fun r hr hlost => ?_, fun i hi => ?_, fun c hc => ?_⟩
    · exact ⟨_, hblock rfl rfl (by decide), rfl⟩
    · exact ⟨_, hblock rfl rfl (by decide), rfl⟩
    · refine ⟨_, hblock rfl rfl (by decide), ?_⟩
      rw [s.writeAt_watchLimits]
      rfl
    · refine ⟨_, hblock rfl rfl (by decide), ?_⟩
      rw [s.writeAt_doorsCfg]
      rfl
    · refine ⟨_, hblock rfl rfl (by decide), ?_⟩
      rw [s.writeAt_tightVal, Forecast.keep_eq]
      rfl
    · refine ⟨_, hblock (by omega) (writeClass_eq_s (by omega)) (by omega), ?_⟩
      rw [s.writeAt_region p hr (by decide)]
      have hw : s.writeRegion p r 0x0C v
          = s.updRegion r (fun x => { x with regs := { x.regs with eventEn := v &&& 0x3FFF } }) := by
        simp [State.writeRegion, State.writePage, hlost]
      rw [hw]
      exact s.updRegion_noteWrite ..
    · refine ⟨_, hblock (by omega) (writeClass_eq_s (by omega)) (by omega), ?_⟩
      rw [s.writeAt_cpl p hi (by decide)]
      exact s.updCpl_noteWrite ..
    · refine ⟨_, hblock (by omega) (writeClass_eq_s (by omega)) (by omega), ?_⟩
      rw [s.writeAt_chan p hc (by decide)]
      exact s.updChan_noteWrite ..
  · have hc : writeClass (0x38000 + 0x40 * q + 0x0C) = .h := writeClass_eq_h (by omega)
    refine ⟨_, hopen (by omega) (by omega) (State.mayReach_of_h hp hc (by omega)), ?_⟩
    rw [s.writeAt_queue p hq (by decide)]
    exact s.updQueue_noteWrite ..
  · subst hh
    exact registerWrite_imem hs ho hk v (hb _)

/-! ## Reads -/

theorem readLowWordLatch_next {s : State} (hr : Live s) (p : Path) (off : Nat) :
    exec (.readLowWordLatch p off 32) s = .next (State.answer (s.readAccess p off)) := by
  show execReadLowWordLatch p off 32 s = _
  exact act_next hr rfl

theorem State.readAccess_path {s : State} {p : Path} {off : Nat} (hp : p = .host ∨ p = .seq) (ha : off % 4 = 0)
    (hc : off < 0x40000 ∨ 0x78000 ≤ off) : s.readAccess p off = s.readAt p off := by
  rcases hp with rfl | rfl
  · simp [State.readAccess, ha, State.notePriv_of_ne (writeClass_ne_p hc)]
  · simp [State.readAccess, ha]

theorem State.readAccess_misaligned {s : State} {p : Path} {off : Nat} (hp : p = .host ∨ p = .seq)
    (ha : off % 4 ≠ 0) : s.readAccess p off = (s, 0) := by
  rcases hp with rfl | rfl <;> simp [State.readAccess, ha]

/-- A register below the channels' pages that is no half of a pair reads as its path sees it. -/
theorem State.readAt_plain {s : State} {p : Path} {off : Nat} (h : off < 0x30000) (hl : pairLow off = false)
    (hh : pairLow (off - 4) = false) : s.readAt p off = (s, s.pathWord p off) := by
  unfold State.readAt
  rw [if_neg (by omega), if_neg (by omega), if_neg (by omega), if_neg (by simp [hl]), if_neg (by simp [hh])]

theorem pathsInOrder : PathsInOrder := by
  intro off v w s hr hb
  refine ⟨fun ha hm hw hl => ?_, fun h => ?_⟩
  · refine ⟨_, registerWrite_next hr .., ?_⟩
    rw [State.writeReg_aligned v ha, State.notePriv_of_ne (writeClass_ne_p (.inl hl)),
      State.gate_overtaken hw (by simp [State.overtaken, hb, hm])]
  · have hread : s.readAt .host off = (s, s.pathWord .host off) := by
      rcases h with rfl | rfl | rfl | rfl | rfl <;>
        exact State.readAt_plain (by decide) (by decide) (by decide)
    refine ⟨_, readLowWordLatch_next hr .., ?_⟩
    rw [State.readAccess_path (.inl rfl) (by omega) (by omega), hread, State.pathWord, hb]
    rfl

/-- Settles O10: a write's effect is that of its offset where the path may make it, and the paths' order and the
write classes say where it may not. -/
theorem registerWritesByPath : Obligations.RegisterWritesByPath :=
  ⟨registerWrites, pathsInOrder, writesWithoutEffect⟩

end Sys2Proof.Machine
end

section
/-! PROOF. Pairs of 64-bit quantities and the count of ignored writes (R18, R44, R47). -/

namespace Sys2Proof.Machine

open Sys2Proof

/-- The low words of pairs are aligned, and lie apart from the ports of the queues and the channels. -/
theorem pairLow_range {off : Nat} (h : pairLow off = true) : off % 4 = 0 ∧ off ≠ 0x80018
    ∧ (off < 0x27000 ∨ 0x80000 ≤ off) := by
  simp only [pairLow, Bool.or_eq_true, Bool.and_eq_true, beq_iff_eq, decide_eq_true_eq] at h
  omega

/-- The high word of a pair is no low word, nor the register that reads the latched fraction of the calendar. -/
theorem pairLow_high {off : Nat} (h : pairLow off = true) : pairLow (off + 4) = false ∧ off + 4 ≠ 0x80018 := by
  rw [← Bool.not_eq_true]
  simp only [pairLow, Bool.or_eq_true, Bool.and_eq_true, beq_iff_eq, decide_eq_true_eq] at h ⊢
  omega

theorem State.readAt_pairLow {s : State} {p : Path} {off : Nat} (h : pairLow off = true) :
    s.readAt p off = (s.latchHigh off, s.readReg off) := by
  obtain ⟨-, hne, hr⟩ := pairLow_range h
  unfold State.readAt
  rw [if_neg (by omega), if_neg (by omega), if_neg hne, if_pos h]

theorem State.readAt_pairHigh {s : State} {p : Path} {off : Nat} (h : pairLow off = true) :
    s.readAt p (off + 4) = ((s.takeLatch (off + 4)).1.slotReadMark (off + 4), (s.takeLatch (off + 4)).2) := by
  obtain ⟨-, -, hr⟩ := pairLow_range h
  obtain ⟨hl, hne⟩ := pairLow_high h
  unfold State.readAt
  rw [if_neg (by omega), if_neg (by omega), if_neg hne, if_neg (by simp [hl]), if_pos ⟨by omega, h⟩]

/-- A read of a low word touches the latches, and of the mailbox the latched fraction. -/
theorem State.latchHigh_eq (s : State) (off : Nat) : s.latchHigh off = { s with
    glob := { s.glob with latches := tput s.glob.latches (off + 4) (s.readReg (off + 4)) },
    mb := (s.latchHigh off).mb } := by
  unfold State.latchHigh
  dsimp only
  split <;> rfl

theorem State.takeLatch_latched {s : State} {off : Nat} {w : Word}
    (h : s.glob.latches.find? (fun e => e.1 == off) = some (off, w)) :
    s.takeLatch off = ({ s with glob := { s.glob with latches := tdel s.glob.latches off } }, w) := by
  simp [State.takeLatch, h]

theorem State.slotReadMark_only (s : State) (off : Nat) : Only [.mb] s (s.slotReadMark off) := by
  unfold State.slotReadMark State.slotLastRead
  dsimp only
  (repeat' split) <;> simp [Only.iff_parts]

/-- A read of a high word that is latched takes the latch, and may mark a slot of the mailbox as read. -/
theorem read32_latched {s : State} (hr : Live s) {off : Nat} {w : Word} (ha : off % 4 = 0) (hlt : off + 4 < 2 ^ 20)
    (h : pairLow off = true) (hsm : smbReadable (off + 4) = true)
    (hf : s.glob.latches.find? (fun e => e.1 == off + 4) = some (off + 4, w)) :
    Completes (.read32 (off + 4)) s fun t => t.out.readData = some w ∧ Only [.out, .glob, .mb] s t := by
  have hread : s.readAccess .smbus (off + 4) = s.readAt .smbus (off + 4) := if_pos ⟨by omega, hsm⟩
  refine ⟨_, show execRead32 (off + 4) s = _ from act_next hr (decide_eq_true hlt), ?_⟩
  rw [hread, State.readAt_pairHigh h, State.takeLatch_latched hf]
  refine ⟨rfl, ?_⟩
  have hglob : Only [.out, .glob, .mb] s
      { s with glob := { s.glob with latches := tdel s.glob.latches (off + 4) } } := by simp [Only.iff_parts]
  refine (hglob.trans ((State.slotReadMark_only _ (off + 4)).mono (by simp))).trans ?_
  simp [Only.iff_parts]

/-- A read of another width, or misaligned, is of the state as it is and answers 0 (R12). -/
theorem State.readAccess_ignored {s : State} {p : Path} {off width : Nat}
    (h : width ≠ 32 ∨ (p = .host ∨ p = .seq) ∧ off % 4 ≠ 0) :
    (if width = 32 then s.readAccess p off else (s, 0)) = (s, 0) := by
  by_cases hw : width = 32
  · obtain ⟨hp, ha⟩ := h.resolve_left (not_not_intro hw)
    rw [if_pos hw, State.readAccess_misaligned hp ha]
  · rw [if_neg hw]

/-- GLOBAL_CTL is open to the host and the sequencer, and keeps no bit that another path's write could hold. -/
theorem State.mayWrite_globalCtl {s : State} {p : Path} (hp : p = .host ∨ p = .seq) : s.mayWrite p 0x00018 = true := by
  have hreach : s.mayReach p 0x00018 = true := State.mayReach_of_h hp rfl (by decide)
  simp [State.mayWrite, hreach, State.overtaken, show rwMask 0x00018 = 0 from rfl]

theorem pairsAndIgnoredCount : PairsAndIgnoredCount := by
  intro s hr
  refine ⟨fun p off width h => ?_, fun p off hp h => ?_, fun off w ha hlt h hsm hf => ?_, fun p hp => ?_⟩
  · refine ⟨_, show execReadLowWordLatch p off width s = _ from act_next hr rfl, ?_⟩
    rw [State.readAccess_ignored h]
    rfl
  · obtain ⟨ha, -, hc⟩ := pairLow_range h
    refine ⟨_, readLowWordLatch_next hr .., ?_⟩
    rw [State.readAccess_path hp ha (by omega), State.readAt_pairLow h, State.answer, State.latchHigh_eq]
    exact ⟨by simp [Only.iff_parts], rfl, rfl, by simp, fun k hk => by simp [hk]⟩
  · exact read32_latched hr ha hlt h hsm hf
  · exact ⟨_, show execClrIgnored p s = _ from writeAct_next hr (State.mayWrite_globalCtl hp), rfl⟩

/-- Settles O11: the low word's read puts the high word into the latches, from which the next read of it takes it. -/
theorem pairReadsAndIgnoredCount : Obligations.PairReadsAndIgnoredCount := pairsAndIgnoredCount

end Sys2Proof.Machine
end

section
/-! PROOF. A load that passes or fails, and tasks restarted and stopped by the host (R367, R375 to R380, R387). -/

namespace Sys2Proof.Machine

open Sys2Proof

/-! ## Updates of one table (chapters 03 and 13) -/

/-- Of the sequencer, the tasks alone may differ. -/
def TasksOnly (s u : State) : Prop := u = { s with seq := { s.seq with tasks := u.seq.tasks } }

theorem TasksOnly.trans {a b c : State} (h : TasksOnly a b) (k : TasksOnly b c) : TasksOnly a c := by
  unfold TasksOnly at h k ⊢
  rw [k, h]

theorem TasksOnly.only {s u : State} (h : TasksOnly s u) : Only [.seq] s u := by
  rw [h]
  simp [Only.iff_parts]

theorem TasksOnly.wroteNow {s u : State} (h : TasksOnly s u) (off : Nat) : u.wroteNow off = s.wroteNow off := by
  rw [h]
  rfl

theorem TasksOnly.foldl {f : State → Nat → State} (hf : ∀ s t, TasksOnly s (f s t)) (l : List Nat) (s : State) :
    TasksOnly s (l.foldl f s) := by
  induction l generalizing s with
  | nil => rfl
  | cons t l ih => exact (hf s t).trans (ih _)

theorem State.updTask_tasksOnly (s : State) (t : Nat) (f : Task → Task) : TasksOnly s (s.updTask t f) := rfl

theorem State.startTask_tasksOnly (s : State) (t pc : Nat) (g : Tbl Word) : TasksOnly s (s.startTask t pc g) := rfl

@[simp] theorem State.startTask_task (s : State) (t pc n : Nat) (g : Tbl Word) :
    (s.startTask t pc g).task n = if n = t then { s.task t with
      state := .ready, pc := pc % 16384, g := g, readyAt := s.cycleAfter, wokeAt := none, stepped := false,
      stopDue := 0 } else s.task n := by simp [State.startTask]

theorem State.raiseSeq_only (s : State) (b : Word) (t : Nat) : Only [.seq, .pool] s (s.raiseSeq b t) := by
  simp [Only.iff_parts, State.raiseSeq_meas]

@[simp] theorem State.raiseSeq_task (s : State) (b : Word) (t n : Nat) : (s.raiseSeq b t).task n = s.task n := by
  simp [State.task]

/-- Raised bits are set in SEQ_EVENT. -/
theorem State.raiseSeq_bit (s : State) {b : Word} {i : Nat} (t : Nat) (h : bit b i = true) :
    bit (s.raiseSeq b t).seq.event i = true := by
  unfold bit at h ⊢
  simp [h]

/-! ## A load passes (R375, R377) -/

/-- A task is entered as the image `q` says: its TASK_ENTRY, and READY there or STOPPED. -/
def State.enterTask (q : Seq) (s : State) (t : Nat) : State :=
  let e := q.entryOf t
  let s := if s.wroteNow (0x08020 + 4 * t) then s else s.updTask t (fun k => { k with entry := e % 16384 })
  if e = 0xFFFF then s.updTask t (fun k => { k with state := .stopped })
  else s.startTask t e (startRegs (if q.cold then 0 else 1))

/-- The image is taken: the sequencer's registers, before its tasks. -/
def State.takeImage (s : State) : State :=
  { s with seq := { s.seq with
    mode := .image, ready := true, loadRes := 1, verifyAt := none, bring := none,
    imgVer := s.seq.hdr 6, secVer := s.seq.hdr 2 } }

theorem State.takeImage_only (s : State) : Only [.seq, .pool] s s.takeImage := by
  simp [Only.iff_parts, State.takeImage]

/-- Every task is entered as the image `q` says. -/
def State.enterTasks (q : Seq) (s : State) : State := (List.range 4).foldl (State.enterTask q) s

theorem State.loadPass_eq (s : State) : s.loadPass = (s.takeImage.enterTasks s.seq).raiseSeq 4 0 := rfl

theorem State.enterTask_tasksOnly (q : Seq) (s : State) (t : Nat) : TasksOnly s (s.enterTask q t) := by
  unfold State.enterTask
  dsimp only
  (repeat' split) <;> rfl

theorem State.enterTask_of_ne (q : Seq) (s : State) {t n : Nat} (h : n ≠ t) : (s.enterTask q t).task n = s.task n := by
  unfold State.enterTask
  dsimp only
  (repeat' split) <;> simp [h]

/-- Task `n` stands in `u` as the image `q` enters it in `s`. -/
def TaskEntered (q : Seq) (s u : State) (n : Nat) : Prop :=
  (u.task n).entry = (if s.wroteNow (0x08020 + 4 * n) then (s.task n).entry else q.entryOf n % 16384)
  ∧ (q.entryOf n = 0xFFFF → (u.task n).state = .stopped)
  ∧ (q.entryOf n ≠ 0xFFFF → (u.task n).state = .ready ∧ (u.task n).pc = q.entryOf n % 16384
      ∧ (u.task n).reg 1 = (if q.cold then 0 else 1) ∧ ∀ m, 2 ≤ m → (u.task n).reg m = 0)

theorem Task.reg_startRegs {k : Task} {cold : Bool} (h : k.g = startRegs (if cold then 0 else 1)) :
    k.reg 1 = (if cold then 0 else 1) ∧ ∀ m, 2 ≤ m → k.reg m = 0 := by
  cases cold with
  | true => simp [Task.reg, h, startRegs]
  | false =>
    refine ⟨by simp [Task.reg, h, startRegs, tget], fun m hm => ?_⟩
    have : m ≠ 1 := by omega
    simp [Task.reg, h, startRegs, tget, this]

theorem State.enterTask_entered (q : Seq) (s : State) (t : Nat) : TaskEntered q s (s.enterTask q t) t := by
  unfold State.enterTask
  dsimp only
  refine ⟨?_, fun he => ?_, fun he => ?_⟩
  · (repeat' split) <;> simp
  · simp [he]
  · rw [if_neg he]
    exact ⟨by simp, by simp, Task.reg_startRegs (by simp)⟩

theorem State.foldl_enterTask_of_notMem (q : Seq) {l : List Nat} {n : Nat} (h : n ∉ l) (s : State) :
    (l.foldl (State.enterTask q) s).task n = s.task n := by
  induction l generalizing s with
  | nil => rfl
  | cons t l ih =>
    rw [List.mem_cons, not_or] at h
    rw [List.foldl_cons, ih h.2, s.enterTask_of_ne q h.1]

theorem State.foldl_enterTask (q : Seq) {l : List Nat} (hl : l.Nodup) {n : Nat} (h : n ∈ l) (s : State) :
    TaskEntered q s (l.foldl (State.enterTask q) s) n := by
  induction l generalizing s with
  | nil => simp at h
  | cons t l ih =>
    rw [List.nodup_cons] at hl
    rw [List.foldl_cons]
    by_cases hn : n = t
    · subst hn
      unfold TaskEntered
      rw [State.foldl_enterTask_of_notMem q hl.1]
      exact s.enterTask_entered q n
    · have hi := ih hl.2 ((List.mem_cons.1 h).resolve_left hn) (s.enterTask q t)
      unfold TaskEntered at hi
      rwa [s.enterTask_of_ne q hn, (s.enterTask_tasksOnly q t).wroteNow] at hi

theorem State.enterTasks_tasksOnly (q : Seq) (s : State) : TasksOnly s (s.enterTasks q) :=
  TasksOnly.foldl (fun s t => s.enterTask_tasksOnly q t) _ s

theorem State.loadPass_tasks (s : State) {n : Nat} (h : n < 4) : TaskEntered s.seq s s.loadPass n := by
  unfold TaskEntered
  rw [State.loadPass_eq, State.raiseSeq_task]
  exact State.foldl_enterTask s.seq (l := List.range 4) List.nodup_range (List.mem_range.2 h) _

theorem State.loadPass_only (s : State) : Only [.seq, .pool] s s.loadPass :=
  (s.takeImage_only.trans ((State.enterTasks_tasksOnly ..).only.mono (by simp))).trans (State.raiseSeq_only _ _ _)

theorem State.loadPass_told (s : State) : Told s s.loadPass := by
  have hpool : (s.takeImage.enterTasks s.seq).pool = s.pool := by
    rw [State.enterTasks_tasksOnly]
    rfl
  exact (Told.of_pool hpool).trans (State.raiseSeq_told ..)

/-- Beside the image's registers, its tasks and SEQ_EVENT nothing of the sequencer changes. -/
theorem State.loadPass_seq (s : State) : s.loadPass.seq = { s.takeImage.seq with
    tasks := s.loadPass.seq.tasks, event := s.loadPass.seq.event } := by
  rw [s.loadPass_eq, State.raiseSeq_seq, State.enterTasks_tasksOnly]

/-! ## The ROM program in charge (R371, R373, R377) -/

/-- The regions alone may differ. -/
def RegionsOnly (s u : State) : Prop := u = { s with regions := u.regions }

theorem RegionsOnly.trans {a b c : State} (h : RegionsOnly a b) (k : RegionsOnly b c) : RegionsOnly a c := by
  unfold RegionsOnly at h k ⊢
  rw [k, h]

theorem RegionsOnly.foldl {f : State → Nat → State} (hf : ∀ s r, RegionsOnly s (f s r)) (l : List Nat) (s : State) :
    RegionsOnly s (l.foldl f s) := by
  induction l generalizing s with
  | nil => rfl
  | cons r l ih => exact (hf s r).trans (ih _)

theorem State.romMeasure_regionsOnly (s : State) (r code : Nat) :
    RegionsOnly s (s.romWrite r (fun s => s.writeMeasCtl r code true)) := by
  unfold State.romWrite
  split <;> rfl

/-- The ROM program as T0. -/
def State.romTask (s : State) : State :=
  ({ s with seq := { s.seq with mode := .rom, ready := true } } : State).startTask 0 Config.romModeEntry []

theorem State.romTask_seq (s : State) :
    s.romTask.seq = { s.seq with mode := .rom, ready := true, tasks := s.romTask.seq.tasks } := rfl

/-- The ROM program runs as T0; beside it the pages that it measures and its bring-up may differ. -/
def RomStarted (s u : State) : Prop :=
  u = { s.romTask with regions := u.regions, seq := { s.romTask.seq with bring := u.seq.bring } }

theorem RegionsOnly.romStarted {s x : State} (h : RegionsOnly s.romTask x) (b : Option BringUp) :
    RomStarted s { x with seq := { x.seq with bring := b } } := by
  unfold RomStarted
  rw [h]

/-- Starting the ROM program, with the regions that it measures where all are OFF as a list (R373). -/
def State.romStartOver (s : State) (l : List Nat) : State :=
  let s := ({ s with seq := { s.seq with mode := .rom, ready := true } } : State).startTask 0 Config.romModeEntry []
  if s.regions.all (fun e => e.2.racg.state == .off) then
    let s := l.foldl (fun s r => s.romWrite r (fun s => s.writeMeasCtl r (romCode false) true)) s
    { s with seq := { s.seq with bring := some (.regions (l.map (fun r => (r, .measuring false 0 s.now)))) } }
  else s

theorem State.romStart_eq_over (s : State) : s.romStart = s.romStartOver (List.range 208) := by
  unfold State.romStart State.romStartOver
  with_reducible rfl

theorem State.romStartOver_started (s : State) (l : List Nat) : RomStarted s (s.romStartOver l) := by
  unfold State.romStartOver
  dsimp only
  split
  · exact (RegionsOnly.foldl (fun s r => s.romMeasure_regionsOnly r _) l s.romTask).romStarted _
  · rfl

theorem State.romStart_started (s : State) : RomStarted s s.romStart := by
  rw [s.romStart_eq_over]
  exact s.romStartOver_started _

theorem RomStarted.seq_eq {s u : State} (h : RomStarted s u) : u.seq = { s.romTask.seq with bring := u.seq.bring } := by
  rw [h]

/-- With a region that is not OFF the ROM program measures none (R373). -/
theorem State.romStart_regions {s : State} (h : ∃ e ∈ s.regions, e.2.racg.state ≠ .off) :
    s.romStart.regions = s.regions := by
  obtain ⟨e, he, hne⟩ := h
  have hall : ¬ s.regions.all (fun e => e.2.racg.state == .off) = true :=
    fun hall => hne (by simpa using List.all_eq_true.1 hall e he)
  rw [show s.romStart = s.romTask from if_neg hall]
  rfl

theorem State.romStart_inCharge (s : State) : RomInCharge s s.romStart := by
  have h := s.romStart_started
  have htask (n : Nat) : s.romStart.task n = s.romTask.task n := by unfold State.task; rw [h.seq_eq]
  refine ⟨?_, .of_pool (by rw [h]; rfl), by rw [h]; rfl, ?_, ?_, ?_, fun n hn => ?_, State.romStart_regions⟩
  · rw [h]
    simp [Only.iff_parts, State.romTask, State.startTask]
  · simp [htask, State.romTask]
  · simp [htask, State.romTask]
  · simp [htask, State.romTask]
  · rw [htask]
    simp [State.romTask, hn]
    rfl

/-- What the ROM program takes over may have been changed in the sequencer and by a coach before. -/
theorem RomInCharge.of_before {s x u : State} (h : RomInCharge x u) (ho : Only [.seq, .pool] s x) (hp : Told s x)
    (ht : ∀ n, x.task n = s.task n) : RomInCharge s u := by
  obtain ⟨hu, htold, hmode, hstate, hpc, hg, hbut, hreg⟩ := h
  have hregions : x.regions = s.regions := ho .regions (by simp)
  rw [hregions] at hreg
  exact ⟨(ho.mono (by simp)).trans hu, hp.trans htold, hmode, hstate, hpc, hg,
    fun n hn => (hbut n hn).trans (ht n), hreg⟩

/-- The failure's code is noted and both memories are zeroed, before the ROM program starts. -/
def State.voidImage (s : State) (code : Nat) : State :=
  { s with seq := { s.seq with
    imem := [], dmem := [], eccBad := [], eccSoft := [], loadRes := code, verifyAt := none } }

theorem State.loadFail_eq (s : State) (code : Nat) :
    s.loadFail code = ((s.voidImage code).raiseSeq 8 0).romStart := rfl

/-- Beside what is voided, the ROM program's start and SEQ_EVENT change the sequencer. -/
theorem State.loadFail_seq (s : State) (code : Nat) : (s.loadFail code).seq = { (s.voidImage code).seq with
    mode := .rom, ready := true, tasks := (s.loadFail code).seq.tasks, bring := (s.loadFail code).seq.bring,
    event := ((s.voidImage code).raiseSeq 8 0).seq.event } := by
  rw [s.loadFail_eq, (State.romStart_started _).seq_eq, State.romTask_seq, State.raiseSeq_seq]

theorem State.loadFail_inCharge (s : State) (code : Nat) : RomInCharge s (s.loadFail code) := by
  have hvoid : Only [.seq, .pool] s (s.voidImage code) := by simp [Only.iff_parts, State.voidImage]
  have htold : Told s (s.voidImage code) := .of_pool rfl
  rw [s.loadFail_eq]
  exact RomInCharge.of_before (State.romStart_inCharge _) (hvoid.trans (State.raiseSeq_only _ _ _))
    (htold.trans (State.raiseSeq_told ..)) fun n => State.raiseSeq_task ..

/-- A load that fails ends as R377 says, whatever the code. -/
theorem State.loadFail_failed (s : State) (code : Nat) : LoadFailed code s (s.loadFail code) := by
  refine ⟨s.loadFail_inCharge code, ?_, ?_, ?_, ?_, ?_⟩ <;> rw [s.loadFail_seq]
  · rfl
  · rfl
  · rfl
  · exact State.raiseSeq_bit _ 0 rfl
  · rfl

theorem loadVerified : LoadVerified := by
  intro t0 s hs hm hv hlt hle
  have hnext : exec .loadVerifyDone s = .next (if s.imageSigned then s.loadPass else s.loadFail 4) := by
    show execLoadVerifyDone s = _
    exact act_next hs (by simp [hm, hv, hlt, hle])
  refine ⟨fun hg => ⟨_, hnext, ?_⟩, fun hg => ⟨_, hnext, ?_⟩⟩
  · rw [if_pos hg]
    have hevent : bit s.loadPass.seq.event 2 = true := State.raiseSeq_bit _ 0 rfl
    refine ⟨s.loadPass_only, s.loadPass_told, ?_, ?_, hevent, ?_, ?_, ?_, ?_, fun n hn => s.loadPass_tasks hn⟩ <;>
      rw [s.loadPass_seq] <;> rfl
  · rw [if_neg (by simp [hg])]
    exact s.loadFail_failed 4

/-! ## Restart and stop (R367, R380, R387) -/

theorem maskTasks_two_pow {n : Nat} (h : n < 4) : maskTasks (2 ^ n) = [n] :=
  match n, h with
  | 0, _ => rfl
  | 1, _ => rfl
  | 2, _ => rfl
  | 3, _ => rfl

/-- A RESTART starts an idle task of an image at its TASK_ENTRY with G1 2. -/
theorem State.restartTask_idle {s : State} {n : Nat} (h : (s.task n).state.isIdle = true) (hm : s.seq.mode = .image)
    (hb : s.seq.begin_ = none) :
    s.restartTask n = s.startTask n (s.task n).entry (tput (s.task n).g 1 2) := by
  simp [State.restartTask, h, hm, hb]

theorem State.restartTask_running {s : State} {n : Nat} (h : (s.task n).state.isIdle = false) :
    s.restartTask n = { s with log := { s.log with restart := s.log.restart ||| 2 ^ n } } := by
  simp [State.restartTask, h]

theorem State.restartTasks_one (s : State) {n : Nat} (h : n < 4) : s.restartTasks (2 ^ n) = s.restartTask n := by
  rw [State.restartTasks, maskTasks_two_pow h]
  rfl

theorem State.restartsAgain_one {s : State} {n : Nat} (h : n < 4) (hl : s.log.restart = 2 ^ n)
    (hf : (s.task n).state = .faulted) : s.restartsAgain = s.restartTask n := by
  simp [State.restartsAgain, hl, maskTasks_two_pow h, hf]

theorem State.halted_of_waiting {s : State} {n : Nat} {w : Wait} (h : n < 4) (hw : (s.task n).state = .waiting w) :
    s.halted = false := by
  have : (List.range 4).all (fun t => (s.task t).state.isIdle) = false :=
    List.all_eq_false.2 ⟨n, List.mem_range.2 h, by simp [hw, TaskState.isIdle]⟩
  simp only [State.halted, this, Bool.and_false]

/-- STOP of a waiting task waits for the end of its die tick. -/
theorem State.stopTasks_waiting {s : State} {n : Nat} {w : Wait} (h : n < 4) (hm : s.seq.mode = .image)
    (hw : (s.task n).state = .waiting w) :
    s.stopTasks (2 ^ n) = s.updTask n (fun k => { k with stopDue := 3 }) := by
  have hstop : (s.stopTask n).1 = s.updTask n (fun k => { k with stopDue := 3 }) := by simp [State.stopTask, hw]
  have hhalt : (s.updTask n (fun k => { k with stopDue := 3 })).halted = false :=
    State.halted_of_waiting h (w := w) (by simp [hw])
  rw [State.stopTasks, if_neg (by simp [hm]), maskTasks_two_pow h, List.foldl_cons, List.foldl_nil, hstop,
    State.haltEdge, if_neg (by simp [hhalt])]

theorem restartAndStop : RestartAndStop := by
  intro p n s hs hw hn hm hb
  have hrestart : exec (.seqRestart p (2 ^ n)) s = .next (s.restartTask n) := by
    rw [← s.restartTasks_one hn]
    exact writeAct_next (f := fun s => s.restartTasks (2 ^ n)) hs hw
  have hidle {k : TaskState} (h : k = .stopped ∨ k = .faulted) : k.isIdle = true := by
    rcases h with rfl | rfl <;> rfl
  refine ⟨fun h => ⟨_, hrestart, ?_⟩, fun h => ⟨_, hrestart, ?_⟩, fun hl h => ?_, fun w h => ?_⟩
  · rw [State.restartTask_idle (hidle h) hm hb]
    refine ⟨(State.startTask_tasksOnly ..).only, fun k hk => by simp [hk], by simp, by simp, by simp,
      fun m hm => by simp [hm]⟩
  · rw [State.restartTask_running (by rw [h]; rfl)]
    exact ⟨.of_log _ _, rfl⟩
  · rw [State.restartsAgain_one hn hl h, State.restartTask_idle (hidle (.inr h)) hm hb]
    simp
  · refine ⟨_, writeAct_next (f := fun s => s.stopTasks (2 ^ n)) hs hw, ?_⟩
    rw [State.stopTasks_waiting hn hm h]
    exact ⟨(State.updTask_tasksOnly ..).only, fun k hk => by simp [hk], by simp⟩

/-- Settles O52: a load that passes enters the tasks one by one, each from its own word of the header, and one that
fails starts the ROM program. -/
theorem imageStartAndRestart : Obligations.ImageStartAndRestart := ⟨loadVerified, restartAndStop⟩

end Sys2Proof.Machine
end

section
/-! PROOF. More rules for operations on one region (chapter 03): the record of the die tick, what the end of an
operation leaves of the page, and the generator's record as it enters BYPASS or declares lock. -/

namespace Sys2Proof.Machine

open Sys2Proof

/-! ## Work noted in the record of the die tick -/

@[simp] theorem State.mark_work (s : State) (off : Nat) (b : Word) :
    (s.mark off b).log.soon = s.log.soon ∧ (s.mark off b).log.lost = s.log.lost := by
  unfold State.mark
  split <;> simp

/-- A coach formed notes no work of a region. -/
@[simp] theorem State.formAt_work (s : State) (t : DWord) (typ src : Nat) (b : List DWord) :
    (s.formAt t typ src b).log.soon = s.log.soon ∧ (s.formAt t typ src b).log.lost = s.log.lost := by
  unfold State.formAt State.offer State.dropCoach
  dsimp only
  (repeat' split) <;> simp [State.unroute, State.lostNow]

@[simp] theorem State.form_work (s : State) (typ src : Nat) (b : List DWord) :
    (s.form typ src b).log.soon = s.log.soon ∧ (s.form typ src b).log.lost = s.log.lost := s.formAt_work ..

@[simp] theorem State.raiseRegion_work (s : State) (r : Nat) (a b : Word) :
    (s.raiseRegion r a b).log.soon = s.log.soon ∧ (s.raiseRegion r a b).log.lost = s.log.lost := by
  unfold State.raiseRegion
  dsimp only
  split <;> simp

@[simp] theorem State.raiseHz_work (s : State) (b : Word) (r c n l : Nat) :
    (s.raiseHz b r c n l).log.soon = s.log.soon ∧ (s.raiseHz b r c n l).log.lost = s.log.lost := by
  unfold State.raiseHz
  dsimp only
  split <;> simp

@[simp] theorem State.raiseCause_work (s : State) (c r : Nat) :
    (s.raiseCause c r).log.soon = s.log.soon ∧ (s.raiseCause c r).log.lost = s.log.lost := by
  unfold State.raiseCause
  dsimp only
  (repeat' split) <;> simp [State.noteCause]

@[simp] theorem State.regionDone_work (s : State) (r : Nat) (a b : Word) :
    (s.regionDone r a b).log.soon = s.log.soon ∧ (s.regionDone r a b).log.lost = s.log.lost := by
  unfold State.regionDone
  split <;> simp

theorem State.mem_soon (s : State) (r : Nat) : r ∈ (s.soon r).log.soon := by
  unfold State.soon
  split
  · assumption
  · simp

/-! ## The walk counted up to a die tick (R118 to R120) -/

@[simp] theorem Region.walkTo_none {x : Region} (h : x.phase.walk = none) (now : Nat) : x.walkTo now = x := by
  simp [Region.walkTo, h]

/-- Without a walk the selector stands; its position at a TICK multiple of 8 may be noted. -/
theorem Region.phaseTo_none {x : Region} (h : x.phase.walk = none) (now : Nat) (tick : DWord) :
    (x.phaseTo now tick).phase.walk = none ∧ (x.phaseTo now tick).phase.pos = x.phase.pos
    ∧ (x.phaseTo now tick).ledger = x.ledger := by
  unfold Region.phaseTo
  dsimp only
  rw [Region.walkTo_none h]
  split
  · rw [Region.walkTo_none (by simpa using h)]
    exact ⟨h, rfl, rfl⟩
  · rw [Region.walkTo_none h]
    exact ⟨h, rfl, rfl⟩

theorem Region.walkTo_pos_lt {x : Region} (h : x.phase.pos < 64) (now : Nat) : (x.walkTo now).phase.pos < 64 := by
  unfold Region.walkTo
  (repeat' split) <;> first | exact h | exact Nat.mod_lt _ (by decide)

theorem Region.phaseTo_pos_lt {x : Region} (h : x.phase.pos < 64) (now : Nat) (tick : DWord) :
    (x.phaseTo now tick).phase.pos < 64 := by
  unfold Region.phaseTo
  dsimp only
  refine Region.walkTo_pos_lt ?_ _
  split
  · exact Region.walkTo_pos_lt h _
  · exact Region.walkTo_pos_lt h _

/-! ## The page after an operation -/

@[simp] theorem State.regionDone_racg (s : State) (r : Nat) (a b : Word) :
    ((s.regionDone r a b).region r).racg = (s.region r).racg := (s.regionDone_page r a b).1

@[simp] theorem State.regionDone_regs (s : State) (r : Nat) (a b : Word) : ((s.regionDone r a b).region r).regs
    = { (s.region r).regs with event := (s.region r).regs.event ||| a } := (s.regionDone_page r a b).2.2.1

@[simp] theorem State.regionDone_margin (s : State) (r : Nat) (a b : Word) :
    ((s.regionDone r a b).region r).margin = (s.region r).margin := by
  unfold State.regionDone
  split
  · have k := (s.region r).phaseTo_keep s.now s.tick
    simp only [State.raiseRegion_region, if_true, State.updRegion_region]
    rw [k]
  · simp [State.raiseRegion_region]

/-- The end of an operation leaves the selector and the ledger, or where it ends a LIVE window counts the walk up to
now. -/
theorem State.regionDone_phase (s : State) (r : Nat) (a b : Word) :
    ∃ x, (x = s.region r ∨ x = (s.region r).phaseTo s.now s.tick)
      ∧ ((s.regionDone r a b).region r).phase = x.phase ∧ ((s.regionDone r a b).region r).ledger = x.ledger := by
  unfold State.regionDone
  split
  · exact ⟨_, .inr rfl, by simp [State.raiseRegion_region], by simp [State.raiseRegion_region]⟩
  · exact ⟨_, .inl rfl, by simp [State.raiseRegion_region], by simp [State.raiseRegion_region]⟩

@[simp] theorem State.snapshot_racg (s : State) (r c x : Nat) :
    ((s.snapshot r c).region x).racg = (s.region x).racg := (s.snapshot_page r c x).1

@[simp] theorem State.snapshot_regs (s : State) (r c x : Nat) :
    ((s.snapshot r c).region x).regs = (s.region x).regs := (s.snapshot_page r c x).2.1

@[simp] theorem State.stopStretch_racg (s : State) (r c x : Nat) :
    ((s.stopStretch r c).region x).racg = (s.region x).racg := (s.stopStretch_page r c x).1

@[simp] theorem State.stopStretch_regs (s : State) (r c x : Nat) :
    ((s.stopStretch r c).region x).regs = (s.region x).regs := (s.stopStretch_page r c x).2.1

/-- What is left to the next edge touches the ledger's causes alone. -/
@[simp] theorem State.snapshotNext_page (s : State) (r c : Nat) :
    ((s.snapshotNext r c).region r).racg = (s.region r).racg
    ∧ ((s.snapshotNext r c).region r).regs = (s.region r).regs := by
  simp [State.snapshotNext]

@[simp] theorem State.cutRamp_page (s : State) (r : Nat) :
    ((s.cutRamp r).region r).racg = (s.region r).racg ∧ ((s.cutRamp r).region r).regs = (s.region r).regs
    ∧ (s.cutRamp r).now = s.now ∧ (s.cutRamp r).freeIdx = s.freeIdx := by
  simp [State.cutRamp]

@[simp] theorem State.leaveDco_page (s : State) (r : Nat) :
    ((s.leaveDco r).region r).racg = (s.region r).racg ∧ ((s.leaveDco r).region r).regs = (s.region r).regs
    ∧ (s.leaveDco r).now = s.now ∧ (s.leaveDco r).freeIdx = s.freeIdx := by
  simp [State.leaveDco]

@[simp] theorem State.rephase_page (s : State) (r : Nat) :
    ((s.rephase r).region r).racg = (s.region r).racg ∧ ((s.rephase r).region r).regs = (s.region r).regs
    ∧ (s.rephase r).now = s.now := by
  simp [State.rephase, State.region, State.updRegion, State.setRegion]

/-! ## Entry to BYPASS (R94, R103) -/

/-- The generator once its region has entered BYPASS: a switch from the DCO starts, or the one under way completes
the entry. -/
def Racg.inBypass (g : Racg) (now : Nat) : Racg :=
  { g with
    state := .bypass, moving := false, ceilGear := g.gear, ceilWas := 0,
    outSwitch := if g.onDco then some { toDco := false, due := now + 2, enter := true }
      else g.outSwitch.map fun o => { o with enter := true } }

/-- BYPASS_ENTER comes at once where the output is on the die tick. -/
def Racg.bypassBits (g : Racg) : Word := if g.onDco || g.outSwitch.isSome then 0 else evBypassEnter

theorem State.enterBypass_racg (s : State) (r : Nat) :
    ((s.enterBypass r).1.region r).racg = (s.region r).racg.inBypass s.now := by
  unfold State.enterBypass Racg.inBypass
  dsimp only
  split
  · simp [*]
  · split <;> simp [*]

@[simp] theorem State.enterBypass_regs (s : State) (r : Nat) :
    ((s.enterBypass r).1.region r).regs = (s.region r).regs := by
  unfold State.enterBypass
  dsimp only
  split
  · simp
  · split <;> simp

theorem State.enterBypass_bits (s : State) (r : Nat) : (s.enterBypass r).2 = (s.region r).racg.bypassBits := by
  unfold State.enterBypass Racg.bypassBits
  dsimp only
  split
  · simp [*]
  · split <;> simp [*]

theorem Racg.onDco_of_stretches {g : Racg} (h : g.state.stretches = true) : g.onDco = true := by simp [Racg.onDco, h]

theorem Racg.onDco_of_noSwitch {g : Racg} (h : g.state.stretches = false) (ho : g.outSwitch = none) :
    g.onDco = false := by simp [Racg.onDco, h, ho]

end Sys2Proof.Machine
end

section
/-! PROOF. Locks, losses of lock, output switches and CEIL_LIMITED (R93 to R103, R116). -/

namespace Sys2Proof.Machine

open Sys2Proof

/-! ## Acquisitions end (R97, R98) -/

/-- The generator when lock is declared at a DCW: with the shutter closed the output goes to the DCO. -/
def Racg.lockedAt (g : Racg) (now dcw : Nat) : Racg :=
  { g with
    state := if g.shutter then .ready else .locked, dcw := dcw, lockAt := now,
    swapping := g.swapping && g.shutter,
    outSwitch := if g.shutter then g.outSwitch else some { toDco := true, due := now + 2 } }

theorem State.declareLock_racg (s : State) (r d : Nat) :
    ((s.declareLock r d).region r).racg = (s.region r).racg.lockedAt s.now (min d (s.region r).ceil) := by
  have hfresh (x : Nat) : s.fresh.region x = s.region x := rfl
  unfold State.declareLock Racg.lockedAt
  cases h : (s.region r).racg.shutter <;> simp [hfresh, h, Racg.toDcoAt]

theorem State.declareLock_regs (s : State) (r d : Nat) : ((s.declareLock r d).region r).regs
    = { (s.region r).regs with event := (s.region r).regs.event ||| (evLock
        ||| if (!(s.region r).racg.shutter && (s.region r).racg.swapping) = true then evSwapDone else 0) } := by
  have hfresh (x : Nat) : s.fresh.region x = s.region x := rfl
  unfold State.declareLock
  simp [hfresh]

/-- The free phase of a lock is a place of the selector. -/
theorem State.declareLock_pos (s : State) (r d : Nat) : ((s.declareLock r d).region r).phase.pos < 64 := by
  unfold State.declareLock
  dsimp only
  obtain ⟨x, hx, hphase, -⟩ := State.regionDone_phase (State.updRegion _ r _) r _ 0
  rw [hphase]
  have hlt : Config.phaseAtLock s.freeIdx % 64 < 64 := Nat.mod_lt _ (by decide)
  rcases hx with rfl | rfl
  · simpa using hlt
  · exact Region.phaseTo_pos_lt (by simpa using hlt) ..

theorem Racg.lockDue_of {g : Racg} {now : Nat} (hs : g.state = .acquire) (ht : g.acqAt + 4096 ≤ now) :
    g.lockDue now = true := by simp [Racg.lockDue, hs, ht]

theorem State.endAcq_locks {s : State} {r d : Nat} (h : (gen s r).acqClamped r = false) :
    s.endAcq r d = s.declareLock r d := by simp [State.endAcq, h]

theorem State.endAcq_fails {s : State} {r d : Nat} (h : (gen s r).acqClamped r = true) :
    s.endAcq r d = (s.enterBypass r).1.regionDone r (evAcqFail ||| (s.enterBypass r).2) 0 := by
  simp [State.endAcq, h]

/-- An acquisition that has run its time ends, in lock or in failure. -/
theorem lock_next {r : Nat} {s : State} (hs : Live s) (hr : r < 208) (d : Nat) (ha : (gen s r).state = .acquire)
    (ht : (gen s r).acqAt + 4096 ≤ s.now) : exec (.lock r d) s = .next (s.endAcq r d) := by
  show execLock r d s = _
  exact actAt_next hr hs (Racg.lockDue_of ha ht)

/-! ## Loss of lock (R101) -/

theorem Region.loses_iff (s : State) (r : Nat) (c : LolCause) :
    (s.region r).loses s.now c = true ↔ LockIsLost r s c := by
  cases c <;> simp [Region.loses, LockIsLost, and_assoc]

/-- The loss of lock as the model carries it out: it is counted, and the region enters BYPASS. -/
def State.lol (s : State) (r : Nat) : State :=
  let t := s.updRegion r (fun x => { x with regs := { x.regs with lolCount := satAdd 0xFFFF x.regs.lolCount 1 } })
  (t.enterBypass r).1.regionDone r (evLol ||| (t.enterBypass r).2) 0

theorem State.lol_racg (s : State) (r : Nat) : ((s.lol r).region r).racg = (s.region r).racg.inBypass s.now := by
  simp [State.lol, State.enterBypass_racg]

theorem State.lol_regs (s : State) (r : Nat) : ((s.lol r).region r).regs = { (s.region r).regs with
    lolCount := min 0xFFFF ((s.region r).regs.lolCount + 1),
    event := (s.region r).regs.event ||| (evLol ||| (s.region r).racg.bypassBits) } := by
  simp [State.lol, State.enterBypass_bits, satAdd]

theorem State.lol_rframe (s : State) {r : Nat} (h : r < 0x100) : RegionFrame r s (s.lol r) :=
  ((s.updRegion_rframe r _).trans (State.enterBypass_rframe _ h)).trans (State.regionDone_rframe _ h ..)

theorem lossOfLock_next {r : Nat} {s : State} {c : LolCause} (hs : Live s) (hr : r < 208)
    (hst : (gen s r).state = .ready ∨ (gen s r).state = .locked ∨ (gen s r).state = .ramp)
    (hl : (gen s r).refLost = false) (ht : s.tickLost r = false) (h : LockIsLost r s c) :
    exec (.lossOfLock r c) s = .next (s.lol r) := by
  show execLossOfLock r c s = _
  refine actAt_next hr hs ?_
  rcases hst with hst | hst | hst <;> simp [hst, hl, ht, (Region.loses_iff s r c).2 h]

theorem lossOfLock_idle {r : Nat} {s : State} {c : LolCause} (hr : r < 208) (h : ¬LockIsLost r s c) :
    exec (.lossOfLock r c) s = .next s := by
  have hno : (s.region r).loses s.now c = false := by simpa using mt (Region.loses_iff s r c).1 h
  show execLossOfLock r c s = _
  unfold execLossOfLock actAt
  rw [if_pos hr]
  exact act_idle (.inr (by simp [hno]))

/-! ## Output switches (R94, R103, R116) -/

/-- A switch to the die tick completes. -/
theorem outputSwitchComplete_toTick {r : Nat} {s : State} (hs : Live s) (hr : r < 208) {due : Nat} {enter : Bool}
    (ho : (gen s r).outSwitch = some { toDco := false, due := due, enter := enter }) (hd : due ≤ s.now) :
    exec (.outputSwitchComplete r) s = .next
      ((((s.rephase r).updRacg r (fun g => { g with outSwitch := none })).snapshotNext r causeToTick).regionDone r
        (if enter then evBypassEnter else 0) 0) := by
  show execOutputSwitchComplete r s = _
  unfold execOutputSwitchComplete
  rw [actAt_next hr hs (by simp [ho, hd])]
  simp [ho]

/-- A switch to the DCO completes: READY is over, and so is a SWAP. -/
theorem outputSwitchComplete_toDco {r : Nat} {s : State} (hs : Live s) (hr : r < 208) {due : Nat} {enter : Bool}
    (ho : (gen s r).outSwitch = some { toDco := true, due := due, enter := enter }) (hd : due ≤ s.now) :
    exec (.outputSwitchComplete r) s = .next
      (((((s.rephase r).updRacg r (fun g => { g with outSwitch := none })).updRacg r
        (fun g => { (if g.state = .ready then g.leaveReady else g) with swapping := false })).snapshotNext r
          causeFromTick).regionDone r (if (gen s r).swapping then evSwapDone else 0) 0) := by
  show execOutputSwitchComplete r s = _
  unfold execOutputSwitchComplete
  rw [actAt_next hr hs (by simp [ho, hd])]
  simp [ho]

theorem ceilLimited_next {r : Nat} {s : State} (hs : Live s) (hr : r < 208) {since : Nat}
    (hst : (gen s r).state = .locked ∨ (gen s r).state = .ramp) (ht : (s.region r).margin.told = false)
    (hsi : (s.region r).margin.since = some since)
    (hd : since + 8 * max 1 (fld (s.region r).loopNow 16 8) ≤ s.now) :
    exec (.ceilLimited r) s = .next ((s.updRegion r (fun x =>
      { x with margin := { x.margin with told := true } })).regionDone r evCeilLimited 0) := by
  show execCeilLimited r s = _
  refine actAt_next hr hs ?_
  rcases hst with hst | hst <;> simp [Racg.running, hst, ht, hsi, hd]

theorem lockAndOutputSwitches : LockAndOutputSwitches := by
  intro r s hs hr
  have hr' : r < 0x100 := by omega
  refine ⟨fun d ha ht hc => ?_, fun d ha ht hc ho => ?_, fun c hst hl ht h => ?_,
    fun c h => lossOfLock_idle hr h, fun due enter ho hd => ?_, fun due enter ho hd => ?_,
    fun since hst ht hsi hd => ?_⟩
  · refine ⟨_, lock_next hs hr d ha ht, ?_⟩
    rw [State.endAcq_locks hc]
    refine ⟨s.declareLock_rframe hr' d, ?_⟩
    simp only [State.declareLock_racg, State.declareLock_regs]
    exact ⟨rfl, rfl, rfl, rfl, s.declareLock_pos r d, by simp [evLock, evSwapDone]⟩
  · have hdco : (s.region r).racg.onDco = false := Racg.onDco_of_noSwitch (by rw [ha]; rfl) ho
    refine ⟨_, lock_next hs hr d ha ht, ?_⟩
    rw [State.endAcq_fails hc]
    refine ⟨(s.enterBypass_rframe hr').trans (State.regionDone_rframe _ hr' ..), ?_, ?_, ?_⟩
    · simp [s.enterBypass_racg, Racg.inBypass]
    · simp [s.enterBypass_racg, Racg.inBypass]
    · simp [s.enterBypass_bits, Racg.bypassBits, hdco, ho, evAcqFail, evBypassEnter]
  · refine ⟨_, lossOfLock_next hs hr hst hl ht h, s.lol_rframe hr', ?_⟩
    simp only [State.lol_racg, State.lol_regs]
    refine ⟨rfl, rfl, rfl, rfl, trivial, fun hne => ?_, fun hready ho => ?_⟩
    · have hdco : (s.region r).racg.onDco = true :=
        Racg.onDco_of_stretches (by rcases hst.resolve_left hne with hst | hst <;> rw [hst] <;> rfl)
      simp [Racg.inBypass, Racg.bypassBits, hdco, evLol]
    · have hdco : (s.region r).racg.onDco = false := Racg.onDco_of_noSwitch (by rw [hready]; rfl) ho
      simp [Racg.bypassBits, hdco, ho, evLol, evBypassEnter]
  · refine ⟨_, outputSwitchComplete_toTick hs hr ho hd, ?_, ?_, ?_⟩
    · exact (((s.rephase_rframe r).trans (State.updRacg_rframe ..)).trans (State.snapshotNext_rframe ..)).trans
        (State.regionDone_rframe _ hr' ..)
    · simp
    · simp [evBypassEnter]
  · refine ⟨_, outputSwitchComplete_toDco hs hr ho hd, ?_, ?_, ?_, ?_, ?_⟩
    · exact ((((s.rephase_rframe r).trans (State.updRacg_rframe ..)).trans (State.updRacg_rframe ..)).trans
        (State.snapshotNext_rframe ..)).trans (State.regionDone_rframe _ hr' ..)
    · by_cases h : (gen s r).state = .ready <;> simp [h, Racg.leaveReady]
    · simp
    · by_cases h : (gen s r).state = .ready <;> simp [h, Racg.leaveReady]
    · simp [evSwapDone]
  · refine ⟨_, ceilLimited_next hs hr hst ht hsi hd, ?_, ?_, ?_, ?_⟩
    · exact (s.updRegion_rframe r _).trans (State.regionDone_rframe _ hr' ..)
    · simp
    · simp
    · simp [evCeilLimited]

/-! ## The timer of CEIL_LIMITED (R93) -/

theorem ceilingTimer : CeilingTimer := by
  intro x now
  refine ⟨fun hst heq => ?_, fun hno => ?_⟩
  · have hrun : x.racg.running = true := by rcases hst with hst | hst <;> simp [Racg.running, hst]
    simp [Region.noteMargin, hrun, heq]
  · by_cases hrun : x.racg.running = true
    · have hst : x.racg.state = .locked ∨ x.racg.state = .ramp := by simpa [Racg.running] using hrun
      have hne : x.racg.dcw ≠ x.ceil := fun heq => hno ⟨hst, heq⟩
      simp [Region.noteMargin, hrun, hne]
    · simp [Region.noteMargin, hrun]

/-- Settles O18: an acquisition's end, a loss of lock and an output switch each leave the generator in a record of
their own, and the end of the operation raises its bits. -/
theorem racgLocksAndOutputSwitches : Obligations.RacgLocksAndOutputSwitches := ⟨lockAndOutputSwitches, ceilingTimer⟩

end Sys2Proof.Machine
end

section
/-! PROOF. What a region answers to an arm message (R106, R191). -/

namespace Sys2Proof.Machine

open Sys2Proof

theorem setOne_getLsbD {r : Nat} (h : r < 224) : (setOne r).getLsbD r = true := by
  rw [setOne, BitVec.getLsbD_ofNat]
  simp [h, Nat.testBit_two_pow_self]

/-- An update of one region is a change of no part but the regions and its entry in the hazard monitor. -/
theorem State.updRacg_only (s : State) (r : Nat) (f : Racg → Racg) : Only [.regions, .hz] s (s.updRacg r f) := by
  simp [Only.iff_parts]

theorem State.updSlot_only (s : State) (k : Nat) (f : DoorSlot → DoorSlot) : Only [.doors] s (s.updSlot k f) := by
  simp [Only.iff_parts]

@[simp] theorem State.updSlot_region (s : State) (k r : Nat) (f : DoorSlot → DoorSlot) :
    (s.updSlot k f).region r = s.region r := rfl

@[simp] theorem State.updRacg_slot (s : State) (r k : Nat) (f : Racg → Racg) : (s.updRacg r f).slot k = s.slot k :=
  State.slot_congr (by simp) k

/-- The end of an operation changes its region, and coaches are formed. -/
theorem State.regionDone_only (s : State) {r : Nat} (h : r < 0x100) (a b : Word) :
    Only [.regions, .hz, .pool] s (s.regionDone r a b) := by
  unfold State.regionDone
  split <;> simp [Only.iff_parts, State.raiseRegion_meas _ h]

@[simp] theorem State.regionDone_slot (s : State) (r k : Nat) (a b : Word) :
    (s.regionDone r a b).slot k = s.slot k := by
  unfold State.regionDone
  split <;> simp [State.slot_congr (s := s)]

/-- The message has come: it is on the spine no more. -/
def State.armHeard (s : State) (k r : Nat) : State :=
  s.updSlot k (fun d => { d with armOut := d.armOut &&& ~~~setOne r })

theorem State.armHeard_out (s : State) (k : Nat) {r : Nat} (h : r < 224) :
    ((s.armHeard k r).slot k).armOut.getLsbD r = false := by
  simp [State.armHeard, setOne_getLsbD h]

theorem State.armable_iff (s : State) (r g : Nat) : s.armable r g = true ↔
    ((gen s r).state = .ready ∨ (gen s r).state = .locked ∨ (gen s r).state = .bypass)
      ∧ (gen s r).armed = false ∧ (s.region r).ceilField (gen s r).dcoSel g ≠ 0 := by
  simp [State.armable, or_assoc, and_assoc]

/-- The generator armed for the door of slot `k`. -/
def Racg.armFor (g : Racg) (k : Nat) (d : DoorSlot) : Racg :=
  { g with armed := true, armGear := d.target, armDoor := d.door, armSlot := k, armFlag := d.flagged }

/-- Region `r` acknowledges to the slot: the step of its N, and whether it is in BYPASS, are noted. -/
def DoorSlot.ackBy (e : DoorSlot) (r now step : Nat) (byp : Bool) : DoorSlot :=
  { e with
    ackOut := e.ackOut ||| setOne r, ackAt := tput e.ackAt r now,
    bypassed := if byp then e.bypassed ||| setOne r else e.bypassed, maxN := max e.maxN step }

/-- The region acknowledges the message of slot `k`. -/
def State.armTaken (s : State) (k r : Nat) : State :=
  let t := (s.armHeard k r).updRacg r (·.armFor k (s.slot k))
  t.updSlot k
    (·.ackBy r t.now (t.gearStep (s.region r).racg.gear (s.slot k).target) ((s.region r).racg.state = .bypass))

/-- The region refuses it. -/
def State.armTurnedAway (s : State) (k r : Nat) : State := (s.armHeard k r).regionDone r evArmRefused 0

theorem armMessage_next {k r : Nat} {s : State} (hs : Live s) (hk : k < 4) (hr : r < 208)
    (ho : (s.slot k).armOut.getLsbD r = true) (ht : (s.slot k).goAt + 2 ≤ s.now) (hl : (gen s r).refLost = false) :
    exec (.armMessage k r) s
      = .next (if s.armable r (s.slot k).target then s.armTaken k r else s.armTurnedAway k r) := by
  show execArmMessage k r s = _
  unfold execArmMessage
  rw [if_pos hk, actAt_next hr hs (by simp [ho, ht])]
  dsimp only
  rw [if_neg (by simp [hl])]
  simp only [State.armTaken, DoorSlot.ackBy, decide_eq_true_eq]
  rfl

theorem State.armHeard_only (s : State) (k r : Nat) : Only [.doors] s (s.armHeard k r) := s.updSlot_only _ _

theorem State.armTaken_frame (s : State) (k r : Nat) : Only [.regions, .doors, .hz, .pool] s (s.armTaken k r)
    ∧ Told s (s.armTaken k r) ∧ RegionsBut r s (s.armTaken k r) ∧ SlotsBut k s (s.armTaken k r) := by
  refine ⟨?_, .of_pool (by simp [State.armTaken, State.armHeard]), fun x hx => ?_, fun x hx => ?_⟩
  · exact (((s.armHeard_only k r).mono (by simp)).trans ((State.updRacg_only _ _ _).mono (by simp))).trans
      ((State.updSlot_only _ _ _).mono (by simp))
  · simp [State.armTaken, State.armHeard, hx]
  · simp [State.armTaken, State.armHeard, hx]

theorem State.armTurnedAway_frame (s : State) (k : Nat) {r : Nat} (h : r < 0x100) :
    Only [.regions, .doors, .hz, .pool] s (s.armTurnedAway k r)
    ∧ Told s (s.armTurnedAway k r) ∧ RegionsBut r s (s.armTurnedAway k r) ∧ SlotsBut k s (s.armTurnedAway k r) := by
  obtain ⟨-, htold, hregions, -, -⟩ := (s.armHeard k r).regionDone_rframe h evArmRefused 0
  refine ⟨?_, (Told.of_pool rfl).trans htold, hregions, fun x hx => ?_⟩
  · exact ((s.armHeard_only k r).mono (by simp)).trans ((State.regionDone_only _ h _ _).mono (by simp))
  · simp [State.armTurnedAway, State.armHeard, hx]

theorem State.armTaken_page (s : State) (k r : Nat) :
    ((s.armTaken k r).region r).racg = (s.region r).racg.armFor k (s.slot k)
    ∧ ((s.armTaken k r).region r).regs = (s.region r).regs := by simp [State.armTaken, State.armHeard]

theorem State.armTurnedAway_page (s : State) (k r : Nat) :
    ((s.armTurnedAway k r).region r).racg = (s.region r).racg
    ∧ ((s.armTurnedAway k r).region r).regs.event = (s.region r).regs.event ||| evArmRefused := by
  simp [State.armTurnedAway, State.armHeard]

theorem armingAcknowledgedOrRefused : ArmingAcknowledgedOrRefused := by
  intro k r s hs hk hr ho ht hl
  refine ⟨_, armMessage_next hs hk hr ho ht hl, ?_⟩
  have hr' : r < 224 := by omega
  rw [← s.armable_iff r (s.slot k).target]
  split
  · rename_i h
    obtain ⟨honly, htold, hregions, hslots⟩ := s.armTaken_frame k r
    refine ⟨honly, htold, hregions, hslots, ?_, fun _ => ?_, fun hn => absurd h hn⟩
    · simp [State.armTaken, DoorSlot.ackBy, s.armHeard_out k hr']
    · obtain ⟨hgen, hregs⟩ := s.armTaken_page k r
      exact ⟨hgen, by simp [State.armTaken, DoorSlot.ackBy, setOne_getLsbD hr'], by rw [hregs]⟩
  · rename_i h
    obtain ⟨honly, htold, hregions, hslots⟩ := s.armTurnedAway_frame k (r := r) (by omega)
    refine ⟨honly, htold, hregions, hslots, ?_, fun hy => absurd hy h, fun _ => ?_⟩
    · simp [State.armTurnedAway, s.armHeard_out k hr']
    · obtain ⟨hgen, hevent⟩ := s.armTurnedAway_page k r
      exact ⟨hgen, by simp [State.armTurnedAway, State.armHeard], hevent⟩

/-- Settles O19: the region answers by `armable`, and either is armed and acknowledges or sets ARM_REFUSED. -/
theorem armAnsweredByTheRegion : Obligations.ArmAnsweredByTheRegion := armingAcknowledgedOrRefused

end Sys2Proof.Machine
end

section
/-! PROOF. Doors and ramps of a region (R90, R106 to R109, R148). -/

namespace Sys2Proof.Machine

open Sys2Proof

/-! ## Operations that take no free value -/

@[simp] theorem State.regionDone_freeIdx (s : State) (r : Nat) (a b : Word) :
    (s.regionDone r a b).freeIdx = s.freeIdx := by
  unfold State.regionDone
  split <;> simp

/-- An operation on one region that takes no free value. -/
theorem RegionFrame.only {r : Nat} {s t : State} (h : RegionFrame r s t) (hf : t.freeIdx = s.freeIdx) :
    Only [.regions, .hz, .pool] s t := by
  obtain ⟨honly, -⟩ := h
  intro p hp
  by_cases hfree : p = .free
  · rw [hfree]
    exact hf
  · exact honly p (by simp_all)

/-- What a door leaves alone: every other region and every other slot. -/
def DoorFrame (k r : Nat) (s t : State) : Prop :=
  Only [.regions, .hz, .pool, .doors, .ref] s t ∧ Told s t ∧ RegionsBut r s t ∧ SlotsBut k s t

theorem DoorFrame.trans {k r : Nat} {a b c : State} (h : DoorFrame k r a b) (h' : DoorFrame k r b c) :
    DoorFrame k r a c := by
  obtain ⟨honly, htold, hregions, hslots⟩ := h
  obtain ⟨honly', htold', hregions', hslots'⟩ := h'
  exact ⟨honly.trans honly', htold.trans htold', fun x hx => (hregions' x hx).trans (hregions x hx),
    fun x hx => (hslots' x hx).trans (hslots x hx)⟩

theorem RegionFrame.door {r : Nat} {s t : State} (h : RegionFrame r s t) (hf : t.freeIdx = s.freeIdx) (k : Nat) :
    DoorFrame k r s t := by
  have honly := h.only hf
  obtain ⟨-, htold, hregions, -, -⟩ := h
  exact ⟨honly.mono (by simp), htold, hregions, fun x _ => State.slot_congr (honly .doors (by simp)) x⟩

theorem State.openSlot_door (s : State) (k r : Nat) : DoorFrame k r s (s.openSlot k) := by
  unfold State.openSlot
  dsimp only
  split
  · refine ⟨by simp [Only.iff_parts], .of_pool rfl, fun _ _ => rfl, fun x hx => ?_⟩
    simp [hx]
  · exact (RegionFrame.refl r s).door rfl k

theorem State.noteTaken_door (s : State) (k r : Nat) : DoorFrame k r s (s.noteTaken k r) := by
  have h : DoorFrame k r s (s.updSlot k fun d => { d with taken := d.taken ||| setOne r }) := by
    refine ⟨by simp [Only.iff_parts], .of_pool rfl, fun _ _ => rfl, fun x hx => ?_⟩
    simp [hx]
  unfold State.noteTaken
  dsimp only
  split
  · exact h.trans ⟨by simp [Only.iff_parts], .of_pool rfl, fun _ _ => rfl, fun _ _ => rfl⟩
  · exact h

@[simp] theorem State.openSlot_region (s : State) (k r : Nat) : (s.openSlot k).region r = s.region r := by
  unfold State.openSlot
  dsimp only
  split <;> rfl

@[simp] theorem State.openSlot_gearN (s : State) (k g : Nat) : (s.openSlot k).gearN g = s.gearN g := by
  unfold State.openSlot
  dsimp only
  split <;> rfl

@[simp] theorem State.noteTaken_region (s : State) (k r x : Nat) : (s.noteTaken k r).region x = s.region x := by
  unfold State.noteTaken
  dsimp only
  split <;> rfl

@[simp] theorem State.updRacg_gearN (s : State) (r g : Nat) (f : Racg → Racg) :
    (s.updRacg r f).gearN g = s.gearN g := by simp [State.gearN]

/-! ## The door (R107) -/

/-- The generator whose door has come: it is armed no more. -/
def Racg.disarmed (g : Racg) (now : Nat) : Racg := { g with armed := false, doorAt := some now }

/-- The region is disarmed and its slot enters OPEN. -/
def State.disarm (s : State) (r : Nat) : State :=
  (s.updRacg r (·.disarmed s.now)).openSlot (gen s r).armSlot

/-- The generator with its target gear, from `nOld` to `nNew` under the ceiling `ceil`. -/
def Racg.atGear (g : Racg) (nOld nNew ceil : Nat) : Racg :=
  if g.state = .bypass then { g with gear := g.armGear, ceilGear := g.armGear }
  else if nNew = nOld then { g with gear := g.armGear, ceilGear := g.armGear, ceilWas := ceil }
  else { g with
    gear := g.armGear, ceilGear := if nNew < nOld then g.gear else g.armGear,
    ceilWas := if nNew < nOld then g.ceilWas else ceil,
    ratioTo := 32 * nNew, moving := true, rampDoor := g.armDoor, rampSteps := 0,
    state := if g.state = .locked then .ramp else g.state }

theorem Racg.atGear_bypass {g : Racg} {nOld nNew ceil : Nat} (h : g.state = .bypass) :
    g.atGear nOld nNew ceil = { g with gear := g.armGear, ceilGear := g.armGear } := if_pos h

theorem Racg.atGear_sameN {g : Racg} {nOld nNew ceil : Nat} (h : g.state ≠ .bypass) (hn : nOld = nNew) :
    g.atGear nOld nNew ceil = { g with gear := g.armGear, ceilGear := g.armGear, ceilWas := ceil } := by
  rw [Racg.atGear, if_neg h, if_pos hn.symm]

theorem Racg.atGear_ramp {g : Racg} {nOld nNew ceil : Nat} (h : g.state ≠ .bypass) (hn : nOld ≠ nNew) :
    g.atGear nOld nNew ceil = { g with
      gear := g.armGear, ceilGear := if nNew < nOld then g.gear else g.armGear,
      ceilWas := if nNew < nOld then g.ceilWas else ceil,
      ratioTo := 32 * nNew, moving := true, rampDoor := g.armDoor, rampSteps := 0,
      state := if g.state = .locked then .ramp else g.state } := by
  rw [Racg.atGear, if_neg h, if_neg hn.symm]

/-- In each of the three the gear is the target, and the door and the shutter stand. -/
theorem Racg.atGear_keeps (g : Racg) (nOld nNew ceil : Nat) : (g.atGear nOld nNew ceil).gear = g.armGear
    ∧ (g.atGear nOld nNew ceil).armed = g.armed ∧ (g.atGear nOld nNew ceil).shutter = g.shutter := by
  unfold Racg.atGear
  (repeat' split) <;> exact ⟨rfl, rfl, rfl⟩

/-- The target is taken; a change of gear voids the calibration, a resync door brings a walk. -/
def State.regear (s : State) (r : Nat) (change resync : Bool) : State :=
  let s := s.takeGear r
  let s := if change then s.updRegion r Region.voidCal else s
  if resync then s.updRegion r (·.resyncDoor s.now) else s

/-- The rest of a door that is taken: its snapshot, the slot told, DOOR_TAKEN. -/
def State.doorDone (s : State) (k r : Nat) (det : Word) : State :=
  ((s.snapshot r causeDoor).noteTaken k r).regionDone r evDoorTaken det

/-- A door of OFF, ACQUIRE and HOLD is dropped. -/
theorem State.takeDoor_dropped {s : State} {r : Nat}
    (h : (gen s r).state = .off ∨ (gen s r).state = .acquire ∨ (gen s r).state = .hold) :
    s.takeDoor r = s.disarm r := by
  rcases h with h | h | h <;> simp [State.takeDoor, h, State.disarm, Racg.disarmed]

/-- In every other state the generator takes its target. -/
theorem State.takeDoor_taken {s : State} {r : Nat}
    (h : ¬((gen s r).state = .off ∨ (gen s r).state = .acquire ∨ (gen s r).state = .hold)) :
    ∃ resync det, s.takeDoor r = ((s.disarm r).regear r ((gen s r).gear ≠ (gen s r).armGear) resync).doorDone
      (gen s r).armSlot r det := by
  refine ⟨(gen s r).armFlag && bit (s.region r).regs.phaseCtl 9 && phaseSupported r,
    if (gen s r).gear ≠ (gen s r).armGear then (s.region r).voidBit else 0, ?_⟩
  unfold State.takeDoor State.regear State.doorDone
  cases hst : (s.region r).racg.state <;> simp [hst] at h ⊢ <;> rfl

theorem State.disarm_door (s : State) (r : Nat) : DoorFrame (gen s r).armSlot r s (s.disarm r) :=
  ((State.updRacg_rframe ..).door (by simp) _).trans (State.openSlot_door ..)

theorem State.disarm_page (s : State) (r : Nat) : ((s.disarm r).region r).racg = (gen s r).disarmed s.now
    ∧ ((s.disarm r).region r).regs = (s.region r).regs
    ∧ ∀ g, (s.disarm r).gearN g = s.gearN g := by
  simp [State.disarm]

theorem State.takeGear_page (s : State) (r : Nat) : ((s.takeGear r).region r).racg
      = (gen s r).atGear (s.gearN (gen s r).gear) (s.gearN (gen s r).armGear) (s.region r).ceil
    ∧ ((s.takeGear r).region r).regs = (s.region r).regs := by
  unfold State.takeGear Racg.atGear
  cases h : (s.region r).racg.state <;> simp [h]

theorem Region.resyncDoor_page (x : Region) (now : Nat) : (x.resyncDoor now).racg = x.racg
    ∧ (x.resyncDoor now).regs = x.regs ∧ (x.resyncDoor now).cal = x.cal := by
  unfold Region.resyncDoor
  split <;> exact ⟨rfl, rfl, rfl⟩

theorem State.regear_page (s : State) (r : Nat) (change resync : Bool) :
    ((s.regear r change resync).region r).racg = ((s.takeGear r).region r).racg
    ∧ ((s.regear r change resync).region r).regs = ((s.takeGear r).region r).regs
    ∧ (change = true → ((s.regear r change resync).region r).cal.valid = false) := by
  unfold State.regear
  cases change <;> cases resync <;> simp [Region.resyncDoor_page, Region.voidCal]

theorem State.regear_door (s : State) (k r : Nat) (change resync : Bool) :
    DoorFrame k r s (s.regear r change resync) := by
  have htake : DoorFrame k r s (s.takeGear r) := (s.takeGear_rframe r).door (by simp [State.takeGear]) k
  have hupd (c : Bool) (t : State) (f : Region → Region) : DoorFrame k r t (if c then t.updRegion r f else t) := by
    split
    · exact (t.updRegion_rframe r f).door (by simp) k
    · exact (RegionFrame.refl r t).door rfl k
  exact (htake.trans (hupd change _ _)).trans (hupd resync _ _)

theorem State.doorDone_page (s : State) (k r : Nat) (det : Word) :
    ((s.doorDone k r det).region r).racg = (s.region r).racg
    ∧ ((s.doorDone k r det).region r).regs.event = (s.region r).regs.event ||| evDoorTaken
    ∧ ((s.doorDone k r det).region r).cal.valid = (s.region r).cal.valid := by
  obtain ⟨-, -, -, hvalid, -⟩ := ((s.snapshot r causeDoor).noteTaken k r).regionDone_page r evDoorTaken det
  obtain ⟨-, -, hsnap, -⟩ := s.snapshot_page r causeDoor r
  refine ⟨by simp [State.doorDone], by simp [State.doorDone], ?_⟩
  rw [State.doorDone, hvalid, State.noteTaken_region, hsnap]

theorem State.doorDone_door (s : State) (k : Nat) {r : Nat} (h : r < 0x100) (det : Word) :
    DoorFrame k r s (s.doorDone k r det) :=
  (((s.snapshot_rframe r _).door (by simp) k).trans (State.noteTaken_door ..)).trans
    ((State.regionDone_rframe _ h ..).door (by simp) k)

theorem State.takeDoor_door (s : State) {r : Nat} (h : r < 0x100) : DoorFrame (gen s r).armSlot r s (s.takeDoor r) := by
  by_cases hd : (gen s r).state = .off ∨ (gen s r).state = .acquire ∨ (gen s r).state = .hold
  · rw [State.takeDoor_dropped hd]
    exact s.disarm_door r
  · obtain ⟨resync, det, ht⟩ := State.takeDoor_taken hd
    rw [ht]
    exact ((s.disarm_door r).trans (State.regear_door ..)).trans (State.doorDone_door _ _ h _)

/-- The page once the generator has taken its target. -/
theorem State.takeDoor_page {s : State} {r : Nat}
    (h : ¬((gen s r).state = .off ∨ (gen s r).state = .acquire ∨ (gen s r).state = .hold)) :
    (∃ ceil, ((s.takeDoor r).region r).racg
      = ((gen s r).disarmed s.now).atGear (s.gearN (gen s r).gear) (s.gearN (gen s r).armGear) ceil)
    ∧ ((s.takeDoor r).region r).regs.event = (s.region r).regs.event ||| evDoorTaken
    ∧ ((gen s r).gear ≠ (gen s r).armGear → ((s.takeDoor r).region r).cal.valid = false) := by
  obtain ⟨resync, det, ht⟩ := State.takeDoor_taken h
  obtain ⟨hracg, hevent, hvalid⟩ := State.doorDone_page
    ((s.disarm r).regear r ((gen s r).gear ≠ (gen s r).armGear) resync) (gen s r).armSlot r det
  obtain ⟨hgracg, hgregs, hgvalid⟩ := (s.disarm r).regear_page r ((gen s r).gear ≠ (gen s r).armGear) resync
  obtain ⟨htracg, htregs⟩ := (s.disarm r).takeGear_page r
  obtain ⟨hdracg, hdregs, hdn⟩ := s.disarm_page r
  rw [ht]
  refine ⟨⟨((s.disarm r).region r).ceil, ?_⟩, ?_, fun hne => ?_⟩
  · rw [hracg, hgracg, htracg, hdn, hdn, gen, hdracg]
    rfl
  · rw [hevent, hgregs, htregs, hdregs]
  · rw [hvalid, hgvalid (by simpa using hne)]

/-- However it goes, the door has left the generator, and the shutter is as it was. -/
theorem State.takeDoor_armed (s : State) (r : Nat) : ((s.takeDoor r).region r).racg.armed = false
    ∧ ((s.takeDoor r).region r).racg.shutter = (gen s r).shutter := by
  by_cases h : (gen s r).state = .off ∨ (gen s r).state = .acquire ∨ (gen s r).state = .hold
  · rw [State.takeDoor_dropped h, (s.disarm_page r).1]
    exact ⟨rfl, rfl⟩
  · obtain ⟨⟨ceil, hracg⟩, -⟩ := State.takeDoor_page h
    rw [hracg]
    exact (Racg.atGear_keeps ..).2

theorem doorTaken_next {r : Nat} {s : State} (hs : Live s) (hr : r < 208) (ha : (gen s r).armed = true)
    (hl : (gen s r).refLost = false) (hd : (gen s r).armDoor.toNat ≤ s.tick.toNat) :
    exec (.doorTaken r) s = .next (s.takeDoor r) := by
  show execDoorTaken r s = _
  exact actAt_next hr hs (by simp [State.doorDue, ha, hl, State.tk, hd])

/-! ## The ramp (R90, R108, R109) -/

/-- The generator after a step of its ramp, under the ceiling `ceil`. -/
def Racg.ramped (g : Racg) (dcw ceil : Nat) : Racg :=
  { g with
    ratio := if g.ratio < g.ratioTo then g.ratio + 1 else g.ratio - 1,
    rampSteps := g.rampSteps + 1, dcw := min dcw ceil }

/-- The generator at the end of its ramp. -/
def Racg.rampEnded (g : Racg) (ceil : Nat) : Racg :=
  { g with
    moving := false, ceilGear := g.gear, ceilWas := ceil,
    state := if g.state = .ramp then .locked else g.state }

/-- The ramp ends: a walk that a resync door made due begins with the next die tick. -/
def State.endRamp (s : State) (r ceil : Nat) : State :=
  let s := (s.updRacg r (·.rampEnded ceil)).soon r
  let s := s.updRegion r (fun x => { x with phase := { x.phase with
    walk := if x.phase.due then some (x.phase.walk.getD { since := s.now + 1 }) else x.phase.walk,
    due := false } })
  (s.snapshot r causeRampEnd).regionDone r evRampDone 0

theorem State.endRamp_page (s : State) (r ceil : Nat) :
    ((s.endRamp r ceil).region r).racg = (gen s r).rampEnded ceil
    ∧ ((s.endRamp r ceil).region r).regs.event = (s.region r).regs.event ||| evRampDone := by
  simp [State.endRamp]

theorem State.endRamp_rframe (s : State) {r : Nat} (h : r < 0x100) (ceil : Nat) :
    RegionFrame r s (s.endRamp r ceil) :=
  ((((State.updRacg_rframe ..).trans (State.soon_rframe ..)).trans (State.updRegion_rframe ..)).trans
    (State.snapshot_rframe ..)).trans (State.regionDone_rframe _ h ..)

theorem rampStep_next {r : Nat} {s : State} (hs : Live s) (hr : r < 208) (dcw : Nat) (hm : (gen s r).moving = true)
    (hst : (gen s r).state = .ramp ∨ (gen s r).state = .ready)
    (hd : (gen s r).rampDoor.toNat + 8 * ((gen s r).rampSteps + 1) ≤ s.tick.toNat) :
    exec (.rampStep r dcw) s = .next
      (if ((gen s r).ramped dcw (s.region r).ceil).ratio = (gen s r).ratioTo then
        (s.updRacg r (·.ramped dcw (s.region r).ceil)).endRamp r (s.region r).ceil
      else s.updRacg r (·.ramped dcw (s.region r).ceil)) := by
  have hgen : gen (s.updRacg r (·.ramped dcw (s.region r).ceil)) r = (gen s r).ramped dcw (s.region r).ceil := by
    simp [gen]
  show execRampStep r dcw s = _
  unfold execRampStep
  rw [actAt_next hr hs (by simpa [hm, State.tk, hd] using hst)]
  show Host.Outcome.next (if (gen (s.updRacg r (·.ramped dcw (s.region r).ceil)) r).ratio
    = (gen (s.updRacg r (·.ramped dcw (s.region r).ceil)) r).ratioTo then _ else _) = _
  rw [hgen]
  rfl

end Sys2Proof.Machine
end

section
/-! PROOF. The ceiling table, and the ceiling in force from the next die tick (R91, R92). -/

namespace Sys2Proof.Machine

open Sys2Proof

/-! ## A write of CEIL_TBL -/

theorem fld_and {n : Nat} (v m : BitVec n) (lo len : Nat) : fld (v &&& m) lo len = fld v lo len &&& fld m lo len := by
  refine Nat.eq_of_testBit_eq fun i => ?_
  simp only [fld, BitVec.toNat_and, Nat.testBit_and, Nat.testBit_mod_two_pow, Nat.testBit_div_two_pow]
  cases decide (i < len) <;> simp

/-- A mask that holds a whole field leaves it. -/
theorem fld_and_mask {n : Nat} (v : BitVec n) {m : BitVec n} {lo len : Nat} (h : fld m lo len = 2 ^ len - 1) :
    fld (v &&& m) lo len = fld v lo len := by
  rw [fld_and, h, Nat.and_two_pow_sub_one_eq_mod, fld, Nat.mod_mod]

theorem Region.keep_page (x : Region) (off : Nat) (cur : Word) : (x.keep off cur).racg = x.racg
    ∧ (x.keep off cur).ledger = x.ledger ∧ (x.keep off cur).regs.ceilTbl = x.regs.ceilTbl := by
  unfold Region.keep
  split <;> exact ⟨rfl, rfl, rfl⟩

theorem State.writeCeil_page (s : State) (r g : Nat) (v : Word) :
    ((s.writeCeil r g v).region r).racg = (s.region r).racg
    ∧ ((s.writeCeil r g v).region r).ledger = (s.region r).ledger
    ∧ ((s.writeCeil r g v).region r).regs.ceilTbl = tput (s.region r).regs.ceilTbl g (v &&& 0x3FFF3FFF) := by
  simp [State.writeCeil, Region.keep_page]

/-- Both fields of the entry written are those of the word. -/
theorem Region.ceilField_written {x : Region} {t : Tbl Word} {g : Nat} {v : Word}
    (h : x.regs.ceilTbl = tput t g (v &&& 0x3FFF3FFF)) :
    x.ceilField false g = fld v 0 14 ∧ x.ceilField true g = fld v 16 14 := by
  simp only [Region.ceilField, h, tget_tput, if_true, ceilOf, Bool.false_eq_true, if_false]
  exact ⟨fld_and_mask v (by decide), fld_and_mask v (by decide)⟩

theorem State.writeCeil_only (s : State) (r g : Nat) (v : Word) : Only [.regions] s (s.writeCeil r g v) := by
  simp [Only.iff_parts, State.writeCeil]

theorem ceilTblWrite_next {p : Path} {r g : Nat} {s : State} (hs : Live s) (hr : r < 208) (hg : g < 16) (v : Word)
    (hw : s.mayWrite p (regionPage r + (0x40 + 4 * g)) = true)
    (hb : s.before p (regionPage r + (0x40 + 4 * g)) = none) (hl : (gen s r).refLost = false) :
    exec (.ceilTblWrite p r g v) s = .next ((s.writeCeil r g v).noteWrite p (regionPage r + (0x40 + 4 * g))
      (tget 0 (s.region r).regs.ceilTbl g)) := by
  show execCeilTblWrite p r g v s = _
  unfold execCeilTblWrite
  rw [if_pos hg]
  exact regionWriteRw_next (by simpa [isRegion] using hr) hs hw hb hl

/-- A write noted in the record of the die tick changes no part. -/
theorem State.noteWrite_only (s : State) (p : Path) (off : Nat) (old : Word) : Only [] s (s.noteWrite p off old) :=
  Only.of_log _ _

/-! ## The ceiling in force (R92) -/

/-- With no word kept and no gear just left, the ceiling in force is that of CEIL_TBL. -/
theorem Region.ceil_eq_field {x : Region} (hw : x.regs.was = []) (hc : x.racg.ceilWas = 0) :
    x.ceil = x.ceilField x.racg.dcoSel x.racg.ceilGear := by
  simp [Region.ceil, Region.asOf, hw, hc, Region.ceilField]

/-- Taking a DCW, and noting the margin, leave the page, the state and the ceiling. -/
theorem Region.reclamp_page (x : Region) (now : Nat) : (x.reclamp now).regs = x.regs
    ∧ (x.reclamp now).racg = { x.racg with
      dcw := if x.racg.state.dcoRuns = true ∧ x.ceil < x.racg.dcw then x.ceil else x.racg.dcw } := by
  unfold Region.reclamp
  split
  · simp [Region.putDcw, Region.noteMargin]
  · simp [Region.noteMargin]

/-- The page as a die tick finds it: what was written in the last one is in force. -/
def Region.inForce (x : Region) : Region :=
  { x with
    racg := { x.racg with ceilWas := 0 },
    regs := { x.regs with was := [], heldPage := if x.racg.refLost then x.regs.heldPage else none },
    thermal := { x.thermal with guard := false } }

/-- The ceiling of an acquisition is noted (R98). -/
def Region.noteCeil (x : Region) (now : Nat) : Region :=
  if x.racg.state = .acquire then { x with racg := { x.racg with acqCeil := (now, x.ceil) :: x.racg.acqCeil } } else x

theorem State.regionTick_quiet {s : State} {r : Nat} (hg : (s.region r).thermal.guard = false)
    (hd : (s.region r).ledger.due = 0) :
    s.regionTick r = s.updRegion r (fun x => (x.inForce.noteCeil s.now).reclamp s.now) := by
  simp only [State.regionTick, hg, hd, if_true, Bool.false_eq_true, if_false]
  rfl

theorem Region.noteCeil_page (x : Region) (now : Nat) : (x.noteCeil now).regs = x.regs
    ∧ (x.noteCeil now).racg = { x.racg with acqCeil := (x.noteCeil now).racg.acqCeil } := by
  unfold Region.noteCeil
  split <;> exact ⟨rfl, rfl⟩

/-- The page once the die tick has begun. -/
theorem Region.tick_page (x : Region) (now : Nat) : ((x.inForce.noteCeil now).reclamp now).regs = x.inForce.regs
    ∧ ((x.inForce.noteCeil now).reclamp now).racg = { x.racg with
      ceilWas := 0, acqCeil := (x.inForce.noteCeil now).racg.acqCeil,
      dcw := if x.racg.state.dcoRuns = true ∧ x.ceilField x.racg.dcoSel x.racg.ceilGear < x.racg.dcw then
        x.ceilField x.racg.dcoSel x.racg.ceilGear else x.racg.dcw } := by
  obtain ⟨hregs, hracg⟩ := x.inForce.noteCeil_page now
  obtain ⟨hregs', hracg'⟩ := (x.inForce.noteCeil now).reclamp_page now
  have hceil : (x.inForce.noteCeil now).ceil = x.ceilField x.racg.dcoSel x.racg.ceilGear := by
    rw [Region.ceil_eq_field (by rw [hregs]; rfl) (by rw [hracg]; rfl), hracg, Region.ceilField, hregs]
    rfl
  refine ⟨hregs'.trans hregs, ?_⟩
  rw [hracg', hceil, hracg]
  rfl

theorem ceilingFromTheNextTick : CeilingFromTheNextTick := by
  intro r s hg hd
  obtain ⟨hregs, hracg⟩ := (s.region r).tick_page s.now
  rw [State.regionTick_quiet hg hd]
  have hpage : (s.updRegion r fun x => (x.inForce.noteCeil s.now).reclamp s.now).region r
      = ((s.region r).inForce.noteCeil s.now).reclamp s.now := by simp
  refine ⟨?_, ?_, ?_, fun x hx => by simp [hx]⟩
  · rw [hpage, Region.ceil_eq_field (by rw [hregs]; rfl) (by rw [hracg]), hracg, Region.ceilField, hregs]
    rfl
  · rw [gen, hpage, hracg]
  · rw [gen, hpage, hracg]

/-! ## Doors, ramps and the ceiling table together -/

/-- At a door BYPASS takes the gear alone. -/
theorem State.takeDoor_bypass {s : State} {r : Nat} (h : (gen s r).state = .bypass) :
    (gen (s.takeDoor r) r).state = .bypass ∧ (gen (s.takeDoor r) r).ratio = (gen s r).ratio
    ∧ (gen (s.takeDoor r) r).moving = (gen s r).moving := by
  obtain ⟨⟨ceil, hgen⟩, -⟩ := State.takeDoor_page (s := s) (r := r) (by simp [h])
  rw [gen, hgen, Racg.atGear_bypass (by exact h)]
  exact ⟨h, rfl, rfl⟩

/-- A door between gears of one N changes no frequency. -/
theorem State.takeDoor_sameN {s : State} {r : Nat} (h : (gen s r).state = .ready ∨ (gen s r).state = .locked)
    (hn : s.gearN (gen s r).gear = s.gearN (gen s r).armGear) :
    (gen (s.takeDoor r) r).state = (gen s r).state ∧ (gen (s.takeDoor r) r).ratio = (gen s r).ratio
    ∧ (gen (s.takeDoor r) r).moving = (gen s r).moving ∧ (gen (s.takeDoor r) r).ceilGear = (gen s r).armGear := by
  obtain ⟨⟨ceil, hgen⟩, -⟩ := State.takeDoor_page (s := s) (r := r) (by grind)
  rw [gen, hgen, Racg.atGear_sameN (by simp only [Racg.disarmed]; grind) hn]
  exact ⟨rfl, rfl, rfl, rfl⟩

/-- A door that changes N starts the ramp; the higher of the two ceilings stays in force. -/
theorem State.takeDoor_ramp {s : State} {r : Nat} (h : (gen s r).state = .ready ∨ (gen s r).state = .locked)
    (hn : s.gearN (gen s r).gear ≠ s.gearN (gen s r).armGear) :
    (gen (s.takeDoor r) r).state = (if (gen s r).state = .locked then .ramp else .ready)
    ∧ (gen (s.takeDoor r) r).moving = true ∧ (gen (s.takeDoor r) r).ratio = (gen s r).ratio
    ∧ (gen (s.takeDoor r) r).ratioTo = 32 * s.gearN (gen s r).armGear
    ∧ (gen (s.takeDoor r) r).rampDoor = (gen s r).armDoor ∧ (gen (s.takeDoor r) r).rampSteps = 0
    ∧ (gen (s.takeDoor r) r).ceilGear = (if s.gearN (gen s r).armGear < s.gearN (gen s r).gear then (gen s r).gear
        else (gen s r).armGear) := by
  obtain ⟨⟨ceil, hgen⟩, -⟩ := State.takeDoor_page (s := s) (r := r) (by grind)
  rw [gen, hgen, Racg.atGear_ramp (by simp only [Racg.disarmed]; grind) hn]
  refine ⟨?_, rfl, rfl, rfl, rfl, rfl, rfl⟩
  rcases h with h | h <;> simp [Racg.disarmed, h]

theorem doorsAndRamps : DoorsAndRamps := by
  intro r s hs hr
  have hr' : r < 0x100 := by omega
  refine ⟨fun ha hl hd => ?_, fun dcw hm hst hd => ?_, fun p g v hg hw hb hl => ?_⟩
  · obtain ⟨honly, htold, hregions, hslots⟩ := s.takeDoor_door hr'
    obtain ⟨harmed, hshutter⟩ := s.takeDoor_armed r
    refine ⟨_, doorTaken_next hs hr ha hl hd, honly, htold, hregions, hslots, harmed, hshutter, fun h => ?_,
      fun h => ?_, fun h => ?_, fun h hn => ?_, fun h hn => ?_⟩
    · obtain ⟨hgen, hregs, -⟩ := s.disarm_page r
      rw [State.takeDoor_dropped h, gen, hgen, hregs]
      exact ⟨rfl, rfl, rfl⟩
    · obtain ⟨⟨ceil, hgen⟩, hevent, hvalid⟩ := State.takeDoor_page (s := s) (r := r) (by grind)
      exact ⟨by rw [gen, hgen, (Racg.atGear_keeps ..).1]; rfl, hevent, hvalid⟩
    · exact State.takeDoor_bypass h
    · exact State.takeDoor_sameN h hn
    · exact State.takeDoor_ramp h hn
  · refine ⟨_, rampStep_next hs hr dcw hm hst hd, ?_⟩
    have hstep : gen (s.updRacg r (·.ramped dcw (s.region r).ceil)) r = (gen s r).ramped dcw (s.region r).ceil := by
      simp [gen]
    split
    · rename_i hend
      obtain ⟨hgen, hevent⟩ := (s.updRacg r (·.ramped dcw (s.region r).ceil)).endRamp_page r (s.region r).ceil
      rw [hstep] at hgen
      refine ⟨(State.updRacg_rframe ..).trans (State.endRamp_rframe _ hr' _), ?_⟩
      rw [gen, hgen]
      refine ⟨rfl, rfl, rfl, rfl, fun _ => ⟨rfl, ?_, rfl, ?_⟩, fun hne => absurd hend hne⟩
      · rcases hst with h | h <;> simp [Racg.rampEnded, Racg.ramped, h]
      · rw [hevent]
        simp [evRampDone]
    · rename_i hgo
      refine ⟨State.updRacg_rframe .., ?_⟩
      rw [hstep]
      exact ⟨rfl, rfl, rfl, rfl, fun heq => absurd heq hgo, fun _ => ⟨hm, rfl, by simp⟩⟩
  · obtain ⟨hgen, hledger, htbl⟩ := s.writeCeil_page r g v
    refine ⟨_, ceilTblWrite_next hs hr hg v hw hb hl, ?_⟩
    simp only [gen, State.noteWrite_reads]
    obtain ⟨hfalse, htrue⟩ := Region.ceilField_written htbl
    refine ⟨(s.writeCeil_only r g v).trans ((State.noteWrite_only _ _ _ _).mono (by simp)), fun x hx => ?_,
      fun h hh => ?_, hfalse, htrue, hgen, hledger, State.mem_soon _ r⟩
    · simp [State.writeCeil, hx]
    · rw [htbl, tget_tput, if_neg hh]

end Sys2Proof.Machine
end

section
/-! PROOF. The die tick lost at a region's tap, and its return (R94, R122, R123, R316). -/

namespace Sys2Proof.Machine

open Sys2Proof

/-! ## What a loss leaves alone -/

/-- What the loss of the die tick at the tap of region `r` leaves alone: every other region, in the generators and in
the hazard monitor. -/
def TapFrame (r : Nat) (s t : State) : Prop :=
  Only [.regions, .hz, .pool] s t ∧ Told s t ∧ RegionsBut r s t ∧ HzrsBut r s t

theorem TapFrame.trans {r : Nat} {a b c : State} (h : TapFrame r a b) (k : TapFrame r b c) : TapFrame r a c := by
  obtain ⟨honly, htold, hregions, hhzrs⟩ := h
  obtain ⟨honly', htold', hregions', hhzrs'⟩ := k
  exact ⟨honly.trans honly', htold.trans htold', fun x hx => (hregions' x hx).trans (hregions x hx),
    fun x hx => (hhzrs' x hx).trans (hhzrs x hx)⟩

theorem RegionFrame.tap {r : Nat} {s t : State} (h : RegionFrame r s t) (hf : t.freeIdx = s.freeIdx) :
    TapFrame r s t := by
  have honly := h.only hf
  obtain ⟨-, htold, hregions, hhzrs, -⟩ := h
  exact ⟨honly, htold, hregions, hhzrs⟩

/-- The hazard monitor's own registers change, and coaches are formed: no region's entry does. -/
theorem TapFrame.of_hz {r : Nat} {s t : State} (h : Only [.hz, .pool] s t) (htold : Told s t)
    (hz : t.hz.regions = s.hz.regions) : TapFrame r s t :=
  ⟨h.mono (by simp), htold, fun x _ => State.region_congr (h .regions (by simp)) x, fun x _ => by simp [State.hzr, hz]⟩

theorem State.raiseHz_tap (s : State) (x : Nat) (b : Word) (r c n l : Nat) : TapFrame x s (s.raiseHz b r c n l) :=
  .of_hz (by simp [Only.iff_parts]) (s.raiseHz_told ..) (by simp)

theorem State.raiseCause_tap (s : State) (x c r : Nat) : TapFrame x s (s.raiseCause c r) :=
  .of_hz (by simp [Only.iff_parts, -State.raiseCause_hz]) (s.raiseCause_told ..) (by rw [State.raiseCause_hz])

theorem State.updHzr_tap (s : State) (r : Nat) (f : HzRegion → HzRegion) : TapFrame r s (s.updHzr r f) :=
  (s.updHzr_rframe r f).tap (by simp)

/-! ## The hazard monitor's entry through an entry to BYPASS -/

theorem State.pieceCoaches_hz (s : State) (r : Nat) (t : DWord) (l : List (Nat × Nat × Nat × Nat)) :
    (s.pieceCoaches r t l).hz = s.hz ∧ (s.pieceCoaches r t l).freeIdx = s.freeIdx := by
  unfold State.pieceCoaches
  induction l generalizing s with
  | nil => exact ⟨rfl, rfl⟩
  | cons p l ih =>
    obtain ⟨hhz, hfree⟩ := ih (s.episodeCoach r t 65536 p.1 p.2.1 p.2.2.1 p.2.2.2 endContinued)
    exact ⟨hhz.trans (by simp [State.episodeCoach]), hfree.trans (by simp [State.episodeCoach])⟩

@[simp] theorem State.stopStretch_hz (s : State) (r c : Nat) :
    (s.stopStretch r c).hz = s.hz ∧ (s.stopStretch r c).freeIdx = s.freeIdx := by
  unfold State.stopStretch State.endEpisode
  split
  · simp
  · dsimp only
    split
    · simp
    · simp [State.episodeCoach, State.pieceCoaches_hz]

@[simp] theorem State.updRacg_fenced (s : State) (r x : Nat) (f : Racg → Racg) :
    ((s.updRacg r f).hzr x).fenced = (s.hzr x).fenced := by
  unfold State.updRacg
  dsimp only
  split
  · by_cases h : x = r <;> simp [h, State.hzr_congr (s := s)]
  · simp [State.hzr_congr (s := s)]

/-- An entry to BYPASS takes no free value and leaves FENCED. -/
theorem State.enterBypass_keeps (s : State) (r x : Nat) : (s.enterBypass r).1.freeIdx = s.freeIdx
    ∧ ((s.enterBypass r).1.hzr x).fenced = (s.hzr x).fenced := by
  have hcut : (((s.stopStretch r endBypass).cutRamp r).hzr x).fenced = (s.hzr x).fenced := by
    rw [State.hzr_congr (s := s) (by simp [State.cutRamp])]
  have hleave (t : State) : ((t.leaveDco r).hzr x).fenced = (t.hzr x).fenced := rfl
  have hsnap (t : State) (c : Nat) : ((t.snapshotNext r c).hzr x).fenced = (t.hzr x).fenced := by
    rw [State.hzr_congr (s := t) (by simp)]
  unfold State.enterBypass
  dsimp only
  split
  · simp [hcut, hleave]
  · split <;> simp [hcut, hsnap]

/-! ## The loss (R122) -/

/-- The generator that has lost its die tick. -/
def Racg.tapLost (g : Racg) (now : Nat) (last : DWord) : Racg :=
  { g with armed := false, refLost := true, lostAt := now, lostTick := last }

/-- Where a state goes with its die tick (R94). -/
def RacgState.afterLoss : RacgState → RacgState
  | .locked => .hold
  | .ramp => .hold
  | .acquire => .bypass
  | .ready => .bypass
  | .off => .off
  | .bypass => .bypass
  | .hold => .hold

/-- The generator found in state `st` goes there. -/
def State.leaveTap (s : State) (r : Nat) (st : RacgState) : State × Word :=
  match st with
  | .locked | .ramp => ((s.cutRamp r).updRacg r (fun g => { g with state := .hold, moving := false }), 0)
  | .acquire | .ready => s.enterBypass r
  | .off | .bypass | .hold => (s, 0)

/-- A core region that is not fenced asks for it (R316). -/
def State.askFence (s : State) (r : Nat) : State :=
  let s := s.updHzr r (fun h => { h with refLost := true })
  if isCore r ∧ (s.hzr r).fenced = false ∧ (s.hzr r).fenceReq = false then s.requestFence r true
  else s.updHzr r (fun h => { h with byRef := h.byRef || (h.fenceReq && isCore r) })

/-- The region is noted as one that lost the die tick in this one. -/
def State.noteLost (s : State) (r : Nat) : State := { s with log := { s.log with lost := r :: s.log.lost } }

/-- The tap of region `r` has lost the die tick, whose TICK there stands at `last`. -/
def State.loseTap (s : State) (r : Nat) (last : DWord) : State :=
  let t := (s.updRacg r (·.tapLost s.now last)).leaveTap r (gen s r).state
  (((t.1.regionDone r (evRefLost ||| t.2) 0).noteLost r).askFence r).raiseCause 3 r

theorem refLost_next {r : Nat} {s : State} (hs : Live s) (hr : r < 208) (hl : (gen s r).refLost = false)
    (hd : bit s.ref.segFailed (r / 8) = true) (ht : tget 0 s.ref.deadAt (r / 8) + 1 ≤ s.now) :
    ∃ last, exec (.refLost r) s = .next (s.loseTap r last) := by
  refine ⟨s.tick - BitVec.ofNat 64 (s.now + 1 - tget 0 s.ref.deadAt (r / 8)), ?_⟩
  show execRefLost r s = _
  unfold execRefLost State.loseTap State.leaveTap
  rw [actAt_next hr hs (by simp [hl, State.tickLost, hd, ht])]
  dsimp only [gen]
  cases (s.region r).racg.state <;> rfl

theorem State.leaveTap_tap (s : State) {r : Nat} (h : r < 0x100) (st : RacgState) :
    TapFrame r s (s.leaveTap r st).1 := by
  cases st with
  | locked | ramp => exact ((s.cutRamp_rframe r).trans (State.updRacg_rframe ..)).tap (by simp)
  | acquire | ready => exact (s.enterBypass_rframe h).tap (s.enterBypass_keeps r r).1
  | off | bypass | hold => exact (RegionFrame.refl r s).tap rfl

/-- The generator's state is the one after the loss; its gear, shutter and tap are as they were. -/
theorem State.leaveTap_racg {s : State} {r : Nat} {st : RacgState} (h : (gen s r).state = st) :
    (gen (s.leaveTap r st).1 r).state = st.afterLoss
    ∧ (gen (s.leaveTap r st).1 r).refLost = (gen s r).refLost ∧ (gen (s.leaveTap r st).1 r).armed = (gen s r).armed
    ∧ (gen (s.leaveTap r st).1 r).shutter = (gen s r).shutter ∧ (gen (s.leaveTap r st).1 r).gear = (gen s r).gear
    ∧ (gen (s.leaveTap r st).1 r).lostAt = (gen s r).lostAt := by
  cases st with
  | locked | ramp => simp [State.leaveTap, gen, RacgState.afterLoss]
  | acquire | ready => simp [State.leaveTap, gen, State.enterBypass_racg, Racg.inBypass, RacgState.afterLoss]
  | off | bypass | hold => exact ⟨h, rfl, rfl, rfl, rfl, rfl⟩

theorem State.leaveTap_fenced (s : State) (r : Nat) (st : RacgState) (x : Nat) :
    ((s.leaveTap r st).1.hzr x).fenced = (s.hzr x).fenced := by
  cases st with
  | locked | ramp => exact (State.updRacg_fenced ..).trans rfl
  | acquire | ready => exact (s.enterBypass_keeps r x).2
  | off | bypass | hold => rfl

theorem State.requestFence_tap (s : State) (r : Nat) (b : Bool) : TapFrame r s (s.requestFence r b) := by
  have h : TapFrame r s
      ((s.updHzr r (fun h => { h with fenceReq := true, byRef := h.byRef || b })).raiseHz 2 r 0 0 0) :=
    (s.updHzr_tap r _).trans (State.raiseHz_tap ..)
  unfold State.requestFence
  dsimp only
  split
  · exact h.trans (State.raiseCause_tap ..)
  · exact h

theorem State.requestFence_asked (s : State) (r : Nat) (b : Bool) : ((s.requestFence r b).hzr r).fenceReq = true := by
  have hraise (t : State) (e : Word) : (t.raiseHz e r 0 0 0).hzr r = t.hzr r := by simp [State.hzr]
  have hcause (t : State) (c : Nat) : (t.raiseCause c r).hzr r = t.hzr r := by rw [State.hzr, State.raiseCause_hz]; rfl
  unfold State.requestFence
  dsimp only
  split <;> simp [hraise, hcause]

theorem State.requestFence_page (s : State) (r : Nat) (b : Bool) : (s.requestFence r b).regions = s.regions
    ∧ (s.requestFence r b).log.lost = s.log.lost := by
  unfold State.requestFence
  dsimp only
  split <;> simp

theorem State.askFence_tap (s : State) (r : Nat) : TapFrame r s (s.askFence r) := by
  unfold State.askFence
  dsimp only
  split
  · exact (s.updHzr_tap r _).trans (State.requestFence_tap ..)
  · exact (s.updHzr_tap r _).trans (State.updHzr_tap ..)

theorem State.askFence_page (s : State) (r : Nat) : (s.askFence r).regions = s.regions
    ∧ (s.askFence r).log.lost = s.log.lost := by
  unfold State.askFence
  dsimp only
  split
  · simp [State.requestFence_page]
  · simp

theorem State.askFence_asked {s : State} {r : Nat} (h : r < 160) (hf : (s.hzr r).fenced = false) :
    ((s.askFence r).hzr r).fenceReq = true := by
  unfold State.askFence
  dsimp only
  split
  · exact State.requestFence_asked ..
  · rename_i hno
    have hasked : (s.hzr r).fenceReq = true := by simpa [isCore, h, hf] using hno
    simp [hasked]

/-- Behind the loss, the page is that of the generator that has left its tap, with REF_LOST. -/
theorem State.loseTap_page (s : State) (r : Nat) (last : DWord) :
    let t := (s.updRacg r (·.tapLost s.now last)).leaveTap r (gen s r).state
    gen (s.loseTap r last) r = gen t.1 r
    ∧ ((s.loseTap r last).region r).regs.event = (t.1.region r).regs.event ||| (evRefLost ||| t.2)
    ∧ r ∈ (s.loseTap r last).log.lost := by
  intro t
  have hreg : (s.loseTap r last).region r = (t.1.regionDone r (evRefLost ||| t.2) 0).region r := by
    rw [State.loseTap, State.region_congr (State.raiseCause_frame ..).2.2.2.2.2.2.1,
      State.region_congr (State.askFence_page ..).1]
    rfl
  refine ⟨by rw [gen, hreg, State.regionDone_racg], by rw [hreg, State.regionDone_regs], ?_⟩
  rw [State.loseTap, (State.raiseCause_work ..).2, (State.askFence_page ..).2]
  exact List.mem_cons_self

/-- The generator that has lost its die tick at the tap, in the state to which the loss took it. -/
theorem State.loseTap_racg (s : State) (r : Nat) (last : DWord) :
    (gen (s.loseTap r last) r).state = (gen s r).state.afterLoss
    ∧ (gen (s.loseTap r last) r).refLost = true ∧ (gen (s.loseTap r last) r).armed = false
    ∧ (gen (s.loseTap r last) r).shutter = (gen s r).shutter ∧ (gen (s.loseTap r last) r).gear = (gen s r).gear
    ∧ (gen (s.loseTap r last) r).lostAt = s.now := by
  have htap : gen (s.updRacg r (·.tapLost s.now last)) r = (gen s r).tapLost s.now last := by simp [gen]
  have h := State.leaveTap_racg (s := s.updRacg r (·.tapLost s.now last)) (r := r) (st := (gen s r).state)
    (by rw [htap]; rfl)
  rw [htap] at h
  rw [(s.loseTap_page r last).1]
  exact h

theorem State.loseTap_tap (s : State) {r : Nat} (h : r < 0x100) (last : DWord) : TapFrame r s (s.loseTap r last) := by
  have hracg : TapFrame r s (s.updRacg r (·.tapLost s.now last)) := (State.updRacg_rframe ..).tap (by simp)
  have hnote (t : State) : TapFrame r t (t.noteLost r) := (RegionFrame.of_log t r _).tap rfl
  exact ((((hracg.trans (State.leaveTap_tap _ h _)).trans ((State.regionDone_rframe _ h ..).tap (by simp))).trans
    (hnote _)).trans (State.askFence_tap ..)).trans (State.raiseCause_tap ..)

@[simp] theorem State.regionDone_hz (s : State) (r : Nat) (a b : Word) : (s.regionDone r a b).hz = s.hz := by
  unfold State.regionDone
  split <;> simp

/-- A core region that is not fenced asks to be. -/
theorem State.loseTap_asked {s : State} {r : Nat} (h : r < 160) (hf : (s.hzr r).fenced = false) (last : DWord) :
    ((s.loseTap r last).hzr r).fenceReq = true := by
  have hdone (t : State) (a : Word) : (((t.regionDone r a 0).noteLost r).hzr r).fenced = (t.hzr r).fenced :=
    congrArg HzRegion.fenced (State.hzr_congr (State.regionDone_hz t r a 0) r)
  rw [State.loseTap, State.hzr, State.raiseCause_hz]
  refine State.askFence_asked h ?_
  rw [hdone, State.leaveTap_fenced, State.updRacg_fenced, hf]

/-! ## The die tick is back (R123) -/

/-- REF_LOST falls; reads follow the page again from the next die tick. -/
def State.tapBack (s : State) (r : Nat) : State := (s.updRacg r (fun g => { g with refLost := false })).soon r

theorem State.tapBack_page (s : State) (r : Nat) :
    ((s.tapBack r).region r).racg = { (s.region r).racg with refLost := false }
    ∧ ((s.tapBack r).region r).regs = (s.region r).regs := by simp [State.tapBack]

theorem State.tapBack_rframe (s : State) (r : Nat) : RegionFrame r s (s.tapBack r) :=
  (s.updRacg_rframe r _).trans (State.soon_rframe ..)

theorem holdExit_next_hold {r : Nat} {s : State} (hs : Live s) (hr : r < 208) (hl : (gen s r).refLost = true)
    (hst : (gen s r).state = .hold) (ht : (gen s r).lostAt + 64 ≤ s.now) :
    exec (.holdExit r) s = .next (((s.enterBypass r).1.tapBack r).regionDone r (s.enterBypass r).2 0) := by
  show execHoldExit r s = _
  unfold execHoldExit
  rw [actAt_next hr hs (by simp [hl, hst, ht])]
  simp [hst, State.tapBack]

theorem holdExit_next {r : Nat} {s : State} (hs : Live s) (hr : r < 208) (hl : (gen s r).refLost = true)
    (hst : (gen s r).state ≠ .hold) (ht : (gen s r).lostAt + 1 ≤ s.now) :
    exec (.holdExit r) s = .next ((s.tapBack r).regionDone r 0 0) := by
  show execHoldExit r s = _
  unfold execHoldExit
  rw [actAt_next hr hs (by simp [hl, hst, ht])]
  simp [hst, State.tapBack]

/-! ## Writes and reads of the page meanwhile (R123) -/

/-- While the die tick is lost no command but STOP and CLOSE is carried out. -/
theorem racgWrite_lost {r : Nat} {s : State} {p : Path} (hl : (gen s r).refLost = true)
    (hw : s.mayWrite p (regionPage r + 0x04) = true) {code : Nat} (h : code ≠ 2 ∧ code ≠ 8) (gear : Nat) :
    racgWrite s p r code gear = .next s := by
  have hcmd : s.racgCommand r code (gear % 16) = s := if_pos ⟨hl, h⟩
  simp [racgWrite, act, State.gate_open hw, hcmd]

/-- The region's page is held as it is. -/
def State.holdPage (s : State) (r : Nat) : State :=
  s.updRegion r (fun x => { x with regs := { x.regs with heldPage := some (s.pageWords r) } })

/-- A page held stays held while others are, and each region of the list holds its own. -/
theorem State.foldl_holdPage (l : List Nat) (r : Nat) (s : State)
    (h : r ∈ l ∨ (s.region r).regs.heldPage.isSome = true) :
    ((l.foldl State.holdPage s).region r).regs.heldPage.isSome = true := by
  induction l generalizing s with
  | nil => simpa using h
  | cons a l ih =>
    refine ih _ ?_
    by_cases ha : r = a
    · exact .inr (by simp [State.holdPage, ha])
    · exact h.imp (fun h => (List.mem_cons.1 h).resolve_left ha) fun h => by simpa [State.holdPage, ha] using h

theorem dieTickLostAtATap : DieTickLostAtATap := by
  refine ⟨fun r s hs hr => ⟨fun hl hd ht => ?_, fun hl hst ht => ?_, fun hl hst ht => ?_, fun p c hl hw hc => ?_⟩,
    fun r s h => State.foldl_holdPage _ r s (.inl h), fun r s hg hl hd => ?_⟩
  · have hr' : r < 0x100 := by omega
    obtain ⟨last, hnext⟩ := refLost_next hs hr hl hd ht
    obtain ⟨honly, htold, hregions, hhzrs⟩ := s.loseTap_tap hr' last
    obtain ⟨-, hevent, hlost⟩ := s.loseTap_page r last
    obtain ⟨hstate, href, harmed, hshutter, hgear, hat⟩ := s.loseTap_racg r last
    refine ⟨_, hnext, honly, htold, hregions, hhzrs, href, harmed, hshutter, hgear, hat, ?_, ?_, hlost,
      fun hc hf => State.loseTap_asked hc hf last⟩
    · rw [hstate]
      cases (gen s r).state <;> rfl
    · rw [hevent]
      simp [bit, evRefLost, oneBit]
  · have hr' : r < 0x100 := by omega
    have hdco : (s.region r).racg.onDco = true := Racg.onDco_of_stretches (by rw [hst]; rfl)
    refine ⟨_, holdExit_next_hold hs hr hl hst ht, ?_, ?_⟩
    · exact ((s.enterBypass_rframe hr').trans (State.tapBack_rframe ..)).trans (State.regionDone_rframe _ hr' ..)
    · rw [gen, State.regionDone_racg, (State.tapBack_page ..).1, State.enterBypass_racg]
      simp [Racg.inBypass, hdco]
  · obtain ⟨hgen, hregs⟩ := s.tapBack_page r
    refine ⟨_, holdExit_next hs hr hl hst ht, ?_, ?_, ?_, ?_⟩
    · exact (s.tapBack_rframe r).trans (State.regionDone_rframe _ (by omega) ..)
    · rw [gen, State.regionDone_racg, hgen]
    · simp [hregs]
    · rw [(State.regionDone_work ..).1]
      exact State.mem_soon ..
  · rcases hc with rfl | rfl | rfl | rfl | ⟨gear, rfl⟩ | ⟨gear, rfl⟩ <;>
      exact racgWrite_lost hl hw (by decide) _
  · rw [State.regionTick_quiet hg hd, State.updRegion_region, if_pos rfl, ((s.region r).tick_page s.now).1]
    simp [Region.inForce, hl]

/-- Settles O20: the door disarms the generator before it takes its target; the ceiling in force is the table's from
the next die tick; and a lost die tick takes each state where R94 says. -/
theorem doorsRampsAndLostDieTicks : Obligations.DoorsRampsAndLostDieTicks :=
  ⟨doorsAndRamps, ceilingFromTheNextTick, dieTickLostAtATap⟩

end Sys2Proof.Machine
end

section
/-! PROOF. The walk of the phase selector, the measurement of the idle DCO, the margin and the shutter (R111 to R120,
R126, R151). -/

namespace Sys2Proof.Machine

open Sys2Proof

/-! ## The walk (R119, R120) -/

theorem Region.walkRuns_iff (x : Region) : x.walkRuns = true ↔
    (x.racg.state = .locked ∨ x.racg.state = .ready) ∧ x.racg.moving = false ∧ x.droop.sNow = 0 := by
  simp [Region.walkRuns, and_assoc]

theorem walkSteps : WalkSteps := by
  intro x w now n hw hsince hn
  refine ⟨fun hst hm hs => ?_, fun hno => ?_⟩
  · have hrun := x.walkRuns_iff.2 ⟨hst, hm, hs⟩
    simp only [Region.walkTo, hw, if_neg (Nat.not_le.2 hsince), hrun, if_true, ← hn]
    refine ⟨trivial, ?_, trivial, trivial⟩
    by_cases hgiven : x.racg.shutter = true ∧ x.racg.state = .locked <;> simp [hgiven]
  · have hstand : x.walkRuns = false := Bool.eq_false_iff.2 fun h => hno (x.walkRuns_iff.1 h)
    simp [Region.walkTo, hw, Nat.not_le.2 hsince, hstand]

/-! ## The measurement of the idle DCO (R114, R115) -/

theorem State.writeMeasCtl_region (s : State) (r code : Nat) : (s.writeMeasCtl r code true).region r
    = { s.region r with regs := { (s.region r).regs with
        measCode := code % 16384,
        measRun := (match (s.region r).regs.measRun with
          | some x => some x
          | none => some (code % 16384, s.now)),
        measValid := (s.region r).regs.measValid && (s.region r).regs.measRun.isSome } } := by
  cases h : (s.region r).regs.measRun <;> simp [State.writeMeasCtl, h]

theorem dcoMeasStart_next {p : Path} {r : Nat} {s : State} (hs : Live s) (hr : r < 208) (code : Nat)
    (hw : s.mayWrite p (regionPage r + 0x28) = true) (hl : (gen s r).refLost = false) :
    exec (.dcoMeasStart p r code) s = .next (s.writeMeasCtl r code true) := by
  show execDcoMeasStart p r code s = _
  exact regionWrite_next (by simpa [isRegion] using hr) hs hw hl

/-- The count of a measurement is taken. -/
def State.measTaken (s : State) (r count : Nat) : State :=
  s.updRegion r (fun x => { x with regs := { x.regs with
    measRun := none, measCount := count % 2 ^ 20, measValid := true } })

theorem measDone_next {r : Nat} {s : State} (hs : Live s) (hr : r < 208) (count : Nat) {code start : Nat}
    (hm : (s.region r).regs.measRun = some (code, start)) (ht : start + 4096 ≤ s.now) :
    exec (.measDone r count) s = .next ((s.measTaken r count).regionDone r evMeasDone 0) := by
  show execMeasDone r count s = _
  exact actAt_next hr hs (by simp [hm, ht])

/-! ## Phase stepping (R117 to R120) -/

theorem phaseCtlWrite_next {p : Path} {r : Nat} {s : State} (hs : Live s) (hr : r < 208) (v : Word)
    (hw : s.mayWrite p (regionPage r + 0x20) = true) (hb : s.before p (regionPage r + 0x20) = none)
    (hl : (gen s r).refLost = false) : exec (.phaseCtlWrite p r v) s
      = .next ((s.writePhaseCtl r v).noteWrite p (regionPage r + 0x20) (s.region r).regs.phaseCtl) := by
  show execPhaseCtlWrite p r v s = _
  exact regionWriteRw_next (by simpa [isRegion] using hr) hs hw hb hl

/-- A region without a selector keeps its page. -/
theorem State.writePhaseCtl_none (s : State) {r : Nat} (h : 204 ≤ r) (v : Word) : s.writePhaseCtl r v = s :=
  if_neg (by simpa [phaseSupported] using h)

/-- A page whose walk towards the written target goes on or begins. -/
def Region.walkToward (x : Region) (now : Nat) (tick : DWord) (v : Word) : Region :=
  let x := x.phaseTo now tick
  { x with
    regs := { x.regs with phaseCtl := v &&& 0x33F },
    phase := { x.phase with walk := some (x.phase.walk.getD { since := now }) } }

theorem State.writePhaseCtl_some (s : State) {r : Nat} (h : r < 204) (v : Word) :
    s.writePhaseCtl r v = s.updRegion r (·.walkToward s.now s.tick v) :=
  if_pos (by simpa [phaseSupported] using h)

/-- What of the page the walk counted up to now leaves (R119). -/
@[simp] theorem Region.phaseTo_page (x : Region) (now : Nat) (tick : DWord) : (x.phaseTo now tick).racg = x.racg
    ∧ (x.phaseTo now tick).regs = x.regs ∧ (x.phaseTo now tick).droop = x.droop := by
  rw [x.phaseTo_keep now tick]
  exact ⟨rfl, rfl, rfl⟩

theorem Region.walkToward_page (x : Region) (now : Nat) (tick : DWord) (v : Word) :
    (x.walkToward now tick v).racg = x.racg
    ∧ (x.walkToward now tick v).regs = { x.regs with phaseCtl := v &&& 0x33F }
    ∧ (x.walkToward now tick v).phase.pos = (x.phaseTo now tick).phase.pos
    ∧ (x.phase.walk = none → (x.walkToward now tick v).phase.walk = some { since := now })
    ∧ (x.walkToward now tick v).phase.walk.isSome = true := by
  refine ⟨by simp [Region.walkToward], by simp [Region.walkToward], rfl, fun h => ?_, rfl⟩
  simp [Region.walkToward, (Region.phaseTo_none h now tick).1]

theorem State.writePhaseCtl_only (s : State) (r : Nat) (v : Word) : Only [.regions] s (s.writePhaseCtl r v)
    ∧ RegionsBut r s (s.writePhaseCtl r v) := by
  unfold State.writePhaseCtl
  split
  · exact ⟨by simp [Only.iff_parts], fun x hx => by simp [hx]⟩
  · exact ⟨.refl _ s, fun _ _ => rfl⟩

/-- The walk is over: the selector stands at its target. -/
def Region.walkEnded (x : Region) : Region := { x with phase := { x.phase with walk := none } }

theorem phaseDone_next {r : Nat} {s : State} (hs : Live s) (hr : r < 208)
    (hw : ((s.region r).phaseTo s.now s.tick).walking s.now = true)
    (hst : (gen s r).state = .locked ∨ (gen s r).state = .ready)
    (hleft : ((s.region r).phaseTo s.now s.tick).walkLeft = 0) : exec (.phaseDone r) s = .next
      ((s.setRegion r ((s.region r).phaseTo s.now s.tick).walkEnded).regionDone r evPhaseDone 0) := by
  show execPhaseDone r s = _
  refine actAt_next hr hs ?_
  rcases hst with hst | hst <;> simp [hw, hleft, RacgState.measValid, hst]

/-- With no step left the selector stands at PHASE_TARGET. -/
theorem Region.pos_of_walkLeft {x : Region} (h : x.walkLeft = 0) : x.phase.pos % 64 = fld x.regs.phaseCtl 0 6 := by
  have hlt : fld x.regs.phaseCtl 0 6 < 64 := Nat.mod_lt _ (by decide)
  unfold Region.walkLeft at h
  omega

/-- A walk that is over is still over at the end of the operation, wherever a LIVE window ends with it. -/
theorem State.regionDone_still {s : State} {r : Nat} (h : (s.region r).phase.walk = none) (a b : Word) :
    ((s.regionDone r a b).region r).phase.walk = none
    ∧ ((s.regionDone r a b).region r).phase.pos = (s.region r).phase.pos
    ∧ ((s.regionDone r a b).region r).ledger = (s.region r).ledger := by
  obtain ⟨x, hx, hphase, hledger⟩ := s.regionDone_phase r a b
  rw [hphase, hledger]
  rcases hx with rfl | rfl
  · exact ⟨h, rfl, rfl⟩
  · exact Region.phaseTo_none h ..

/-! ## The shutter (R111, R112, R151) -/

/-- The generator with its shutter closed: READY ends with the output on its way to the DCO. -/
def Racg.shut (g : Racg) (now : Nat) : Racg :=
  let g := { g with shutter := false, shutterTo := none }
  if g.state = .ready then g.leaveReady.toDcoAt now else g

/-- The period in progress completes in full. -/
def State.periodEnds (s : State) (r : Nat) : State :=
  s.updRegion r (fun x => { x with ledger := x.ledger.finishPeriod s.now })

/-- The generator is shut, with a snapshot at the next edge. -/
def State.shutGen (s : State) (r : Nat) : State :=
  ((s.periodEnds r).updRacg r (·.shut s.now)).snapshotNext r causeClose

theorem State.shutNow_eq (s : State) (r : Nat) : s.shutNow r = ((s.shutGen r).closeWindows r).regionDone r 0 0 := rfl

/-- The forecast block alone may differ. -/
def FcOnly (s t : State) : Prop := t = { s with fc := t.fc }

theorem FcOnly.trans {a b c : State} (h : FcOnly a b) (k : FcOnly b c) : FcOnly a c := by
  unfold FcOnly at h k ⊢
  rw [k, h]

theorem State.railSettle_fcOnly (s : State) (n : Nat) : FcOnly s (s.railSettle n) := rfl

theorem State.railsSettle_fcOnly (s : State) : FcOnly s s.railsSettle :=
  (((s.railSettle_fcOnly 0).trans (State.railSettle_fcOnly _ 1)).trans (State.railSettle_fcOnly _ 2)).trans
    (State.railSettle_fcOnly _ 3)

theorem State.closeWindows_fcOnly (s : State) (r : Nat) : FcOnly s (s.closeWindows r) := by
  unfold State.closeWindows State.setWindows
  split
  · rfl
  · exact FcOnly.trans (b := { s with fc := _ }) rfl (State.railsSettle_fcOnly _)

theorem State.closeWindows_only (s : State) (r : Nat) : Only [.fc] s (s.closeWindows r) := by
  rw [s.closeWindows_fcOnly r]
  simp [Only.iff_parts]

@[simp] theorem State.closeWindows_region (s : State) (r x : Nat) : (s.closeWindows r).region x = s.region x := by
  rw [s.closeWindows_fcOnly r]
  rfl

theorem State.shutGen_racg (s : State) (r : Nat) : ((s.shutGen r).region r).racg = (s.region r).racg.shut s.now := by
  simp [State.shutGen, State.periodEnds]

theorem State.shutGen_rframe (s : State) (r : Nat) : RegionFrame r s (s.shutGen r) :=
  ((State.updRegion_rframe ..).trans (State.updRacg_rframe ..)).trans (State.snapshotNext_rframe ..)

theorem State.shutNow_racg (s : State) (r : Nat) : gen (s.shutNow r) r = (s.region r).racg.shut s.now := by
  rw [gen, s.shutNow_eq, State.regionDone_racg, State.closeWindows_region, s.shutGen_racg]

theorem State.shutNow_frame (s : State) {r : Nat} (h : r < 0x100) :
    Only [.regions, .hz, .pool, .fc] s (s.shutNow r) ∧ Told s (s.shutNow r) ∧ RegionsBut r s (s.shutNow r) := by
  have hgen := s.shutGen_rframe r
  have hgenonly : Only [.regions, .hz, .pool] s (s.shutGen r) := hgen.only (by simp [State.shutGen, State.periodEnds])
  have hfc := (s.shutGen r).closeWindows_only r
  have hdone := ((s.shutGen r).closeWindows r).regionDone_rframe h 0 0
  have hdoneonly := hdone.only (State.regionDone_freeIdx ..)
  obtain ⟨-, htold, hregions, -⟩ := hgen
  obtain ⟨-, htold', hregions', -⟩ := hdone
  rw [s.shutNow_eq]
  refine ⟨((hgenonly.mono (by simp)).trans (hfc.mono (by simp))).trans (hdoneonly.mono (by simp)),
    (htold.trans (.of_pool (hfc .pool (by simp)))).trans htold', fun x hx => ?_⟩
  rw [hregions' x hx, State.closeWindows_region, hregions x hx]

theorem shutterClosed_next {r : Nat} {s : State} (hs : Live s) (hr : r < 208)
    (h : (gen s r).shutterTo = some false) : exec (.shutterClosed r) s = .next (s.shutNow r) := by
  show execShutterClosed r s = _
  exact actAt_next hr hs (by simp [h])

/-- The shutter opens on a new clock, with a snapshot at the next edge. -/
def State.openShutter (s : State) (r : Nat) : State :=
  ((s.rephase r).updRacg r (fun g => { g with shutter := true, shutterTo := none })).snapshotNext r causeOpen

theorem shutterOpened_next {r : Nat} {s : State} (hs : Live s) (hr : r < 208)
    (h : (gen s r).shutterTo = some true) :
    exec (.shutterOpened r) s = .next ((s.openShutter r).regionDone r 0 0) := by
  show execShutterOpened r s = _
  exact actAt_next hr hs (by simp [h])

theorem State.openShutter_rframe (s : State) (r : Nat) : RegionFrame r s (s.openShutter r) :=
  ((s.rephase_rframe r).trans (State.updRacg_rframe ..)).trans (State.snapshotNext_rframe ..)

theorem State.openShutter_racg (s : State) (r : Nat) : ((s.openShutter r).region r).racg
    = { (s.region r).racg with shutter := true, shutterTo := none } := by simp [State.openShutter]

/-! ## The margin (R126) -/

theorem clrMargin_next {p : Path} {r : Nat} {s : State} (hs : Live s) (hr : r < 208)
    (hw : s.mayWrite p (regionPage r + 0x18) = true) (hl : (gen s r).refLost = false) :
    exec (.clrMargin p r) s = .next (s.clearMargin r) := by
  show execClrMargin p r s = _
  exact regionWrite_next (by simpa [isRegion] using hr) hs hw hl

theorem measurePhaseShutter : MeasurePhaseShutter := by
  intro r s hs hr
  have hr' : r < 0x100 := by omega
  refine ⟨fun p code hw hl => ?_, fun count code start hm ht => ?_, fun p v hw hb hl => ?_,
    fun hw hst hleft => ?_, fun h => ?_, fun h => ?_, fun p hw hl => ?_⟩
  · refine ⟨_, dcoMeasStart_next hs hr code hw hl, ?_, fun x hx => ?_, s.writeMeasCtl_region r code⟩
    · simp [Only.iff_parts, State.writeMeasCtl]
    · simp [State.writeMeasCtl, hx]
  · refine ⟨_, measDone_next hs hr count hm ht, ?_, ?_, ?_⟩
    · exact (s.updRegion_rframe r _).trans (State.regionDone_rframe _ hr' ..)
    · simp [State.measTaken]
    · simp [State.measTaken, evMeasDone]
  · obtain ⟨honly, hregions⟩ := s.writePhaseCtl_only r v
    refine ⟨_, phaseCtlWrite_next hs hr v hw hb hl, ?_⟩
    simp only [gen, RegionsBut, State.noteWrite_reads]
    refine ⟨honly.trans ((State.noteWrite_only _ _ _ _).mono (by simp)), hregions, ?_, fun h => ?_, fun h => ?_⟩
    · by_cases h : r < 204
      · simp [s.writePhaseCtl_some h, Region.walkToward_page]
      · rw [s.writePhaseCtl_none (by omega)]
    · rw [s.writePhaseCtl_none h]
    · rw [s.writePhaseCtl_some h, State.updRegion_region, if_pos rfl]
      exact ((s.region r).walkToward_page s.now s.tick v).2
  · have hpage : (s.setRegion r ((s.region r).phaseTo s.now s.tick).walkEnded).region r
        = ((s.region r).phaseTo s.now s.tick).walkEnded := by simp
    obtain ⟨hwalk, hpos, hledger⟩ := State.regionDone_still
      (s := s.setRegion r ((s.region r).phaseTo s.now s.tick).walkEnded) (r := r) (by rw [hpage]; rfl) evPhaseDone 0
    refine ⟨_, phaseDone_next hs hr hw hst hleft, ?_, ?_, hwalk, ?_, ?_, ?_⟩
    · exact (s.setRegion_rframe r _).trans (State.regionDone_rframe _ hr' ..)
    · simp [Region.walkEnded]
    · rw [hpos, hpage]
      exact (Region.pos_of_walkLeft hleft).trans (by simp)
    · simp [Region.walkEnded, evPhaseDone]
    · rw [hledger, hpage]
      rfl
  · obtain ⟨honly, htold, hregions⟩ := s.shutNow_frame hr'
    refine ⟨_, shutterClosed_next hs hr h, honly, htold, hregions, ?_⟩
    rw [s.shutNow_racg]
    by_cases hready : (gen s r).state = .ready <;> simp [Racg.shut, hready, Racg.leaveReady, Racg.toDcoAt]
  · refine ⟨_, shutterOpened_next hs hr h, ?_, ?_⟩
    · exact (s.openShutter_rframe r).trans (State.regionDone_rframe _ hr' ..)
    · rw [gen, State.regionDone_racg, s.openShutter_racg]
  · refine ⟨_, clrMargin_next hs hr hw hl, ?_, fun x hx => ?_, ?_⟩
    · simp [Only.iff_parts, State.clearMargin]
    · simp [State.clearMargin, hx]
    · simp [State.clearMargin]

/-- Settles O21: a walk moves while its state lets it, and the shutter's two edges each leave the generator in a
record of their own. -/
theorem regionMeasurementPhaseAndShutter : Obligations.RegionMeasurementPhaseAndShutter :=
  ⟨walkSteps, measurePhaseShutter⟩

end Sys2Proof.Machine
end

section
/-! PROOF. The ends of a coupler's drains, holds and swaps, and the edges of its two sides (R203 to R221). -/

namespace Sys2Proof.Machine

open Sys2Proof

/-! ## What an operation on one coupler leaves alone -/

/-- No other coupler changes, no part but those listed, and the record pool by coaches at most. -/
def CplOnly (ps : List Part) (i : Nat) (s t : State) : Prop := Only ps s t ∧ Told s t ∧ CplsBut i s t

theorem CplOnly.trans {ps qs rs : List Part} {i : Nat} {a b c : State} (h : CplOnly ps i a b) (k : CplOnly qs i b c)
    (hps : ps ⊆ rs) (hqs : qs ⊆ rs) : CplOnly rs i a c := by
  obtain ⟨honly, htold, hcpls⟩ := h
  obtain ⟨konly, ktold, kcpls⟩ := k
  exact ⟨(honly.mono fun _ hp => hps hp).trans (konly.mono fun _ hp => hqs hp), htold.trans ktold,
    fun x hx => (kcpls x hx).trans (hcpls x hx)⟩

theorem CplOnly.frame {i : Nat} {s t : State} (h : CplOnly [.cpls] i s t) : CplFrame i s t := by
  obtain ⟨honly, htold, hcpls⟩ := h
  exact ⟨honly.mono (by simp), htold, hcpls⟩

theorem State.setCpl_cplOnly (s : State) (i : Nat) (c : Coupler) : CplOnly [.cpls] i s (s.setCpl i c) :=
  ⟨by simp [Only.iff_parts], .of_pool rfl, fun x hx => by simp [hx]⟩

theorem State.updCpl_cplOnly (s : State) (i : Nat) (f : Coupler → Coupler) : CplOnly [.cpls] i s (s.updCpl i f) :=
  s.setCpl_cplOnly i _

theorem State.raiseCpl_cframe (s : State) (i : Nat) (b : Word) : CplFrame i s (s.raiseCpl i b) :=
  ⟨by simp [Only.iff_parts], s.raiseCpl_told i b, fun x hx => by simp [State.raiseCpl_cpl, hx]⟩

/-- A coupler that changes and tells of it. -/
theorem State.updCpl_raise (s : State) (i : Nat) (f : Coupler → Coupler) (b : Word) :
    CplFrame i s ((s.updCpl i f).raiseCpl i b) ∧ ((s.updCpl i f).raiseCpl i b).cpl i
      = { f (s.cpl i) with event := (f (s.cpl i)).event ||| b } :=
  ⟨(s.updCpl_cplOnly i f).trans (State.raiseCpl_cframe _ i b) (by simp) (by simp), by simp [State.raiseCpl_cpl]⟩

/-! ## Ends (R215 to R221) -/

/-- A function's spare lane has a page of its own (R36). -/
theorem cplSpare_ne {i : Nat} (h : i < 832) : cplSpare i ≠ i := by
  unfold cplSpare
  omega

theorem State.drainReady_iff (s : State) (i : Nat) : s.drainReady i = true ↔
    ((s.cpl i).state = .draining ∧ (s.cpl i).drainAt + 2 ≤ s.now)
      ∧ (s.sideClosed i false = true ∧ s.sideClosed i true = true
        ∨ (s.cpl i).moded = true ∧ (s.cpl i).modedAt + 2 ≤ s.now ∨ (s.cpl i).drainAt + 9 ≤ s.now) := by
  simp [State.drainReady, or_assoc]

/-- A swap ends: the function's page and its spare lane's change together (R221). -/
def State.swapEnd (s : State) (i : Nat) (f g : Coupler → Coupler) : State :=
  ((s.updCpl i f).updCpl (cplSpare i) g).raiseCpl i evSwapped

theorem State.swapEnd_page {i : Nat} (s : State) (hi : i < 832) (f g : Coupler → Coupler) :
    Only [.cpls, .pool] s (s.swapEnd i f g) ∧ Told s (s.swapEnd i f g)
      ∧ (s.swapEnd i f g).cpl i = { f (s.cpl i) with event := (f (s.cpl i)).event ||| evSwapped }
      ∧ (s.swapEnd i f g).cpl (cplSpare i) = g (s.cpl (cplSpare i))
      ∧ ∀ j, j ≠ i → j ≠ cplSpare i → (s.swapEnd i f g).cpl j = s.cpl j := by
  have hne := cplSpare_ne hi
  refine ⟨by simp [State.swapEnd, Only.iff_parts], (Told.of_pool rfl).trans (State.raiseCpl_told ..), ?_, ?_,
    fun j hj hl => ?_⟩
  · simp [State.swapEnd, State.raiseCpl_cpl, hne.symm]
  · simp [State.swapEnd, State.raiseCpl_cpl, hne]
  · simp [State.swapEnd, State.raiseCpl_cpl, hj, hl]

theorem swapped_next {i at_ : Nat} {taken : Bool} {s : State} (hs : Live s) (hi : i < 832)
    (h : (s.cpl i).swapAt = some (at_, taken)) : exec (.swapped i) s = .next (s.swapEnd i
      (fun c => { c with swapAt := none, onSpare := taken })
      (fun l => if taken then { l with standsFor := some i } else { l with standsFor := none, reserved := none })) := by
  show execSwapped i s = _
  rw [execSwapped, actAt_next hi hs (by simp [h])]
  cases taken <;> simp [h, State.swapEnd]

theorem clrStats_next {p : Path} {i : Nat} {s : State} (hs : Live s) (hi : i < 832)
    (hw : s.mayWrite p (cplPage i + 0x1C) = true) : exec (.clrStats p i) s = .next (s.updCpl i (fun c => { c with
      peak := 0, stallTk := 0, stallFrom := s.now, discards := 0, parErrs := 0, ptrErrs := 0 })) := by
  show execClrStats p i s = _
  rw [execClrStats, act_next hs (by simp; omega), State.gate_open hw, State.clearStats, if_pos hi]

/-- Each end comes once the state is the one its rule names, and is told by one event bit. -/
theorem couplersReachTheirEnds : CouplersReachTheirEnds := by
  intro i s hs hi
  refine ⟨fun h => ?_, fun hst hat hend => ?_, fun hst he hh => ?_, fun hst hsl hat => ?_, fun at_ h => ?_,
    fun at_ h => ?_, fun hp hd hl hat => ?_, fun p hw => ?_⟩
  · exact ⟨_, actAt_next hi hs h, (s.updCpl_cplOnly i _).frame, by simp⟩
  · obtain ⟨hframe, hpage⟩ := s.updCpl_raise i _ evDrained
    exact ⟨_, actAt_next hi hs ((s.drainReady_iff i).2 ⟨⟨hst, hat⟩, hend⟩), hframe, hpage⟩
  · obtain ⟨hframe, hpage⟩ := s.updCpl_raise i _ evHeld
    exact ⟨_, actAt_next hi hs (by simpa [hst, he, Coupler.held] using hh), hframe, hpage⟩
  · obtain ⟨hframe, hpage⟩ := s.updCpl_raise i _ evHoldSlow
    exact ⟨_, actAt_next hi hs (by simp [hst, hsl, hat]), hframe, hpage⟩
  · exact ⟨_, swapped_next hs hi h, s.swapEnd_page hi ..⟩
  · exact ⟨_, swapped_next hs hi h, s.swapEnd_page hi ..⟩
  · obtain ⟨hframe, hpage⟩ := s.updCpl_raise i _ evStallLong
    exact ⟨_, actAt_next hi hs (by simp [hp, hd, hl, hat]), hframe, hpage⟩
  · exact ⟨_, clrStats_next hs hi hw, (s.updCpl_cplOnly i _).frame, by simp⟩

/-! ## An edge of a side (R208, R211, R213) -/

theorem Coupler.flagEdge_of_none {c : Coupler} (h : c.flight = none) (now : Nat) : c.flagEdge now = c := by
  simp [Coupler.flagEdge, h]

/-- A coupler at an edge of its write side, and at one of its read side: the other pointer is sampled and checked. -/
def Coupler.atWriteEdge (c : Coupler) (late bad : Bool) : Coupler :=
  ({ c with wr := c.wr.edge c.sync late } : Coupler).check bad
def Coupler.atReadEdge (c : Coupler) (late bad : Bool) : Coupler :=
  ({ c with rd := c.rd.edge c.sync late } : Coupler).check bad

/-- What a pointer check changes: its own mark and its own count. -/
theorem Coupler.check_eq (c : Coupler) (bad : Bool) : c.check bad = { c with
    ptrBad := bad, ptrErrs := if bad then satAdd 0xFF c.ptrErrs 1 else c.ptrErrs } := by
  cases bad <;> rfl

/-- The coupler after an edge, and PTR_ERR told where its check failed (R213). -/
def State.putEdge (s : State) (i : Nat) (c : Coupler) (bad : Bool) : State :=
  if bad then (s.setCpl i c).raiseCpl i evPtrErr else s.setCpl i c

theorem State.putEdge_cframe (s : State) (i : Nat) (c : Coupler) (bad : Bool) : CplFrame i s (s.putEdge i c bad) := by
  cases bad
  · exact (s.setCpl_cplOnly i c).frame
  · exact (s.setCpl_cplOnly i c).trans (State.raiseCpl_cframe _ i evPtrErr) (by simp) (by simp)

theorem State.putEdge_page (s : State) (i : Nat) (c : Coupler) (bad : Bool) :
    (s.putEdge i c bad).cpl i = { c with event := if bad then c.event ||| evPtrErr else c.event } := by
  cases bad <;> simp [State.putEdge, State.raiseCpl_cpl]

/-! ## Writes (R205, R213, R215, R216, R219) -/

theorem couplerWrite_offers {i : Nat} {req late bad : Bool} {lanes e : List DWord} {s : State} (hs : Live s)
    (hi : i < 832) (hr : s.sideRuns i (Config.cplDir i) = true) (hf : (s.cpl i).flight = none)
    (hreq : req = true ∨ (s.cpl i).wrPend.isSome = true) (he : e = (s.cpl i).wrPend.getD (cplPayload i lanes))
    {c : Coupler} (hc : c = (s.cpl i).atWriteEdge late bad) :
    exec (.couplerWrite i req lanes late bad) s
      = .next (s.putEdge i (c.offer s.now (c.liveWrites (Config.cplDir i)) e) bad) := by
  show execCouplerWrite i req lanes late bad s = _
  rw [execCouplerWrite, actAt_next hi hs hr]
  subst hc he
  cases hp : (s.cpl i).wrPend with
  | none =>
    obtain rfl : req = true := by simpa [hp] using hreq
    simp [State.updCpl, State.putEdge, Coupler.atWriteEdge, Coupler.check_eq, Coupler.liveWrites,
      Coupler.flagEdge_of_none, hf, hp]
  | some d =>
    simp [State.updCpl, State.putEdge, Coupler.atWriteEdge, Coupler.check_eq, Coupler.liveWrites,
      Coupler.flagEdge_of_none, hf, hp]

theorem couplerWrite_idle {i : Nat} {late bad : Bool} {lanes : List DWord} {s : State} (hs : Live s)
    (hi : i < 832) (hr : s.sideRuns i (Config.cplDir i) = true) (hf : (s.cpl i).flight = none)
    (hp : (s.cpl i).wrPend = none) : exec (.couplerWrite i false lanes late bad) s
      = .next (s.putEdge i ((s.cpl i).atWriteEdge late bad) bad) := by
  show execCouplerWrite i false lanes late bad s = _
  rw [execCouplerWrite, actAt_next hi hs hr]
  simp [State.updCpl, State.putEdge, Coupler.atWriteEdge, Coupler.check_eq, Coupler.flagEdge_of_none, hf, hp]

/-- An entry offered is taken, where nothing at the write side holds it back. -/
theorem Coupler.offer_taken {i : Nat} {c : Coupler} (hpass : PassesWrites i c) (hh : c.hold = false)
    (hu : c.unread < 16) (hb : c.ptrBad = false) (now : Nat) (e : List DWord) :
    c.offer now (c.liveWrites (Config.cplDir i)) e = (c.endPend now).push e := by
  rcases hpass with h | h | ⟨h, hlive, hm⟩ <;> simp [Coupler.offer, *]

/-- It stays pending where the queue may not take it, or in HELD. -/
theorem Coupler.offer_pended {i : Nat} {c : Coupler}
    (h : PassesWrites i c ∧ (c.hold = true ∨ 16 ≤ c.unread ∨ c.ptrBad = true) ∨ c.state = .held)
    (now : Nat) (e : List DWord) : c.offer now (c.liveWrites (Config.cplDir i)) e = c.pend now e := by
  rcases h with ⟨hpass, hback⟩ | h
  · have hno : ¬(c.hold = false ∧ c.unread < 16 ∧ c.ptrBad = false) := by
      rintro ⟨hh, hu, hb⟩
      simp [hh, hb] at hback
      omega
    rcases hpass with h | h | ⟨h, hlive, hm⟩ <;> simp only [Coupler.offer, h, if_neg hno]
    simp [hlive, hm]
  · simp [Coupler.offer, h]

/-- It completes and is discarded where the coupler is at rest, or a drain's mode is in force at this side. -/
theorem Coupler.offer_discarded {i : Nat} {c : Coupler} (h : c.state = .disabled ∨ c.state = .drained
      ∨ c.state = .draining ∧ c.liveWrites (Config.cplDir i) = true ∧ c.moded = true)
    (now : Nat) (e : List DWord) :
    c.offer now (c.liveWrites (Config.cplDir i)) e = (c.endPend now).discard 1 := by
  rcases h with h | h | ⟨h, hlive, hm⟩ <;> simp [Coupler.offer, *]

/-- The three ends of an offer. -/
theorem Coupler.offer_cases (c : Coupler) (now : Nat) (writes : Bool) (e : List DWord) :
    c.offer now writes e = (c.endPend now).push e ∨ c.offer now writes e = c.pend now e
      ∨ c.offer now writes e = (c.endPend now).discard 1 := by
  unfold Coupler.offer
  (repeat' split) <;> simp

theorem Coupler.pend_keeps (c : Coupler) (now : Nat) (e : List DWord) : (c.pend now e).state = c.state
    ∧ (c.pend now e).entries = c.entries ∧ (c.pend now e).discards = c.discards
    ∧ (c.pend now e).ptrErrs = c.ptrErrs ∧ (c.pend now e).event = c.event := by
  unfold Coupler.pend
  split <;> simp

/-- A write that stands pending already keeps its place. -/
theorem Coupler.pend_wrPend (c : Coupler) (now : Nat) (e : List DWord) :
    (c.pend now e).wrPend = some (c.wrPend.getD e) := by
  cases h : c.wrPend <;> simp [Coupler.pend, h]

/-- No write moves a coupler out of its state or tells anything of itself. -/
theorem Coupler.offer_keeps (c : Coupler) (now : Nat) (writes : Bool) (e : List DWord) :
    (c.offer now writes e).state = c.state ∧ (c.offer now writes e).event = c.event := by
  obtain ⟨hstate, -, -, -, hevent⟩ := c.pend_keeps now e
  rcases c.offer_cases now writes e with h | h | h <;> rw [h]
  · exact ⟨rfl, rfl⟩
  · exact ⟨hstate, hevent⟩
  · exact ⟨rfl, rfl⟩

/-- The entry that stands at an edge meets the coupler as that edge leaves it, and has one of the three ends. -/
theorem couplersTakeWritesInOrder : CouplersTakeWritesInOrder := by
  intro i s hs hi hr hf
  refine ⟨fun req lanes late e hreq he => ⟨_, couplerWrite_offers hs hi hr hf hreq he rfl, s.putEdge_cframe .., ?_⟩,
    fun lanes late hp => ⟨_, couplerWrite_idle hs hi hr hf hp, s.putEdge_cframe .., by rw [s.putEdge_page]; rfl⟩,
    fun lanes late hpass => ⟨_, couplerWrite_offers hs hi hr hf (.inl rfl) rfl rfl, s.putEdge_cframe .., ?_⟩⟩
  · have hstands : (s.cpl i).wrPend.getD e = e := by
      subst he
      cases (s.cpl i).wrPend <;> rfl
    let c := (s.cpl i).atWriteEdge late false
    have hpend := (c.pend_wrPend s.now e).trans (congrArg some hstands)
    obtain ⟨-, hentries, hdisc, -, -⟩ := c.pend_keeps s.now e
    obtain ⟨hstate, hevent⟩ := c.offer_keeps s.now (c.liveWrites (Config.cplDir i)) e
    rw [s.putEdge_page]
    refine ⟨hstate, hevent, fun hpass hh hu => ?_, fun hpass hback => ?_, fun hheld => ?_, fun hrest => ?_⟩
    · rw [Coupler.offer_taken (c := c) hpass hh hu rfl]
      exact ⟨rfl, rfl, rfl, rfl⟩
    · rw [Coupler.offer_pended (c := c) (.inl ⟨hpass, hback.imp_right .inl⟩)]
      exact ⟨hentries, hpend, hdisc⟩
    · rw [Coupler.offer_pended (c := c) (.inr hheld)]
      exact ⟨hentries, hpend, hdisc⟩
    · rw [Coupler.offer_discarded (c := c) hrest]
      exact ⟨rfl, rfl, rfl⟩
  · let c := (s.cpl i).atWriteEdge late true
    obtain ⟨-, hentries, -, herrs, hevent⟩ := c.pend_keeps s.now ((s.cpl i).wrPend.getD (cplPayload i lanes))
    rw [s.putEdge_page, Coupler.offer_pended (c := c) (.inl ⟨hpass, .inr (.inr rfl)⟩)]
    exact ⟨hentries, by simp [Coupler.pend_wrPend], herrs, congrArg (· ||| evPtrErr) hevent⟩

/-! ## Reads (R204, R206, R213, R216, R219) -/

/-- A read answers the entry, the lanes of it that are poisoned, and EMPTY (R204, R206, R207). -/
def State.answerRead (s : State) (r : List DWord × List Nat × Bool) : State :=
  { s with out := { s.out with cplRead := some r } }

@[simp] theorem State.answerRead_cpl (s : State) (r : List DWord × List Nat × Bool) (i : Nat) :
    (s.answerRead r).cpl i = s.cpl i := rfl

/-- A read takes the oldest entry, and tells of the lanes with bad parity (R204, R207). -/
def State.takeEntry (s : State) (i : Nat) (bad : List Nat) : State :=
  ((s.updCpl i (fun c => { c.pull with parErrs := satAdd 0xFF c.parErrs bad.length })).answerRead
    ((s.cpl i).entries.headD [], bad, false)).raiseCpl i (if bad = [] then 0 else evParErr)

/-- A read takes nothing and answers the idle word with EMPTY (R206). -/
def State.readEmpty (s : State) (i : Nat) : State :=
  s.answerRead (List.replicate (cplLaneCount i) idleWord, [], true)

/-- Raising no bit does nothing. -/
theorem State.raiseCpl_ite (s : State) (i : Nat) (b : Word) (p : Prop) [Decidable p] :
    s.raiseCpl i (if p then 0 else b) = if p then s else s.raiseCpl i b := by
  split
  · exact if_pos rfl
  · rfl

/-- A read-side edge, and what a read that stands at it gets. -/
theorem couplerRead_next {i : Nat} {req late bad : Bool} {badLanes : List Nat} {s u : State} (hs : Live s)
    (hi : i < 832) (hr : s.sideRuns i (!Config.cplDir i) = true) (hf : (s.cpl i).flight = none)
    (hu : u = s.putEdge i ((s.cpl i).atReadEdge late bad) bad) :
    exec (.couplerRead i req late badLanes bad) s = .next (if req = false then u
      else if (u.cpl i).delivers (!(s.cpl i).liveWrites (Config.cplDir i)) = true ∧ (u.cpl i).visible = true
          ∧ bad = false
        then u.takeEntry i (badLanes.filter (fun k => decide (k < cplLaneCount i))).eraseDups
        else u.readEmpty i) := by
  subst hu
  show execCouplerRead i req late badLanes bad s = _
  rw [execCouplerRead, actAt_next hi hs hr]
  have hflag (x : CplSide) : ({ s.cpl i with rd := x } : Coupler).flagEdge s.now = { s.cpl i with rd := x } :=
    Coupler.flagEdge_of_none (c := { s.cpl i with rd := x }) hf _
  simp only [State.updCpl, hflag, ite_self, State.takeEntry, State.raiseCpl_ite]
  rfl

/-- The read side delivers in the states in which it passes entries (R216, R219). -/
theorem Coupler.delivers_iff {i : Nat} {c : Coupler} :
    c.delivers (!c.liveWrites (Config.cplDir i)) = true ↔ PassesReads i c := by
  cases h : c.state <;> simp [Coupler.delivers, PassesReads, h]

/-- What is visible at a read-side edge is what the sample of that edge shows (R204, R211). -/
theorem Coupler.visible_iff {c : Coupler} {late bad : Bool} :
    (c.atReadEdge late bad).visible = true ↔ VisibleAt c late := by
  simp only [Coupler.visible, Coupler.atReadEdge, Coupler.check_eq, decide_eq_true_eq]
  exact Iff.rfl

theorem couplerRead_idle {i : Nat} {late bad : Bool} {badLanes : List Nat} {s : State} (hs : Live s) (hi : i < 832)
    (hr : s.sideRuns i (!Config.cplDir i) = true) (hf : (s.cpl i).flight = none) :
    exec (.couplerRead i false late badLanes bad) s
      = .next (s.putEdge i ((s.cpl i).atReadEdge late bad) bad) :=
  couplerRead_next hs hi hr hf rfl

theorem couplerRead_takes {i : Nat} {late : Bool} {badLanes bad : List Nat} {s : State} (hs : Live s) (hi : i < 832)
    (hr : s.sideRuns i (!Config.cplDir i) = true) (hf : (s.cpl i).flight = none) (hpass : PassesReads i (s.cpl i))
    (hvis : VisibleAt (s.cpl i) late)
    (hbad : bad = (badLanes.filter (fun k => decide (k < cplLaneCount i))).eraseDups) :
    exec (.couplerRead i true late badLanes false) s
      = .next ((s.putEdge i ((s.cpl i).atReadEdge late false) false).takeEntry i bad) := by
  let c := (s.cpl i).atReadEdge late false
  have hpage : (s.putEdge i c false).cpl i = c := s.putEdge_page i c false
  have hd : c.delivers (!c.liveWrites (Config.cplDir i)) = true := Coupler.delivers_iff.2 hpass
  have hv : c.visible = true := Coupler.visible_iff.2 hvis
  rw [couplerRead_next hs hi hr hf rfl, if_neg (by simp), hpage, if_pos ⟨hd, hv, rfl⟩, hbad]

theorem couplerRead_empty {i : Nat} {late bad : Bool} {badLanes : List Nat} {s : State} (hs : Live s) (hi : i < 832)
    (hr : s.sideRuns i (!Config.cplDir i) = true) (hf : (s.cpl i).flight = none)
    (hno : (¬PassesReads i (s.cpl i) ∨ ¬VisibleAt (s.cpl i) late) ∨ bad = true) :
    exec (.couplerRead i true late badLanes bad) s
      = .next ((s.putEdge i ((s.cpl i).atReadEdge late bad) bad).readEmpty i) := by
  rw [couplerRead_next hs hi hr hf rfl, if_neg (by simp), if_neg]
  rintro ⟨hd, hv, rfl⟩
  rw [show (s.putEdge i ((s.cpl i).atReadEdge late false) false).cpl i = _ from State.putEdge_page ..] at hd hv
  rcases hno with (h | h) | h
  · exact h (Coupler.delivers_iff.1 hd)
  · exact h (Coupler.visible_iff.1 hv)
  · cases h

theorem State.answerRead_cplOnly (s : State) (i : Nat) (r : List DWord × List Nat × Bool) :
    CplOnly [.out] i s (s.answerRead r) :=
  ⟨by simp [Only.iff_parts, State.answerRead], .of_pool rfl, fun _ _ => rfl⟩

theorem State.takeEntry_cplOnly (s : State) (i : Nat) (bad : List Nat) :
    CplOnly [.cpls, .pool, .out] i s (s.takeEntry i bad) := by
  have htake := (s.updCpl_cplOnly i (fun c => { c.pull with parErrs := satAdd 0xFF c.parErrs bad.length })).trans
    (State.answerRead_cplOnly _ i ((s.cpl i).entries.headD [], bad, false)) (rs := [.cpls, .out]) (by simp) (by simp)
  exact htake.trans (State.raiseCpl_cframe ..) (by simp) (by simp)

theorem State.takeEntry_out (s : State) (i : Nat) (bad : List Nat) : (s.takeEntry i bad).out
    = { s.out with cplRead := some ((s.cpl i).entries.headD [], bad, false) } := by
  simp [State.takeEntry, State.answerRead]

theorem State.takeEntry_page (s : State) (i : Nat) (bad : List Nat) : (s.takeEntry i bad).cpl i
    = { (s.cpl i).pull with
        parErrs := satAdd 0xFF (s.cpl i).parErrs bad.length
        event := (s.cpl i).event ||| (if bad = [] then 0 else evParErr) } := by
  simp [State.takeEntry, State.raiseCpl_cpl, Coupler.pull]

/-- A read is answered from the coupler as its edge leaves it: the oldest entry or the idle word. -/
theorem couplersGiveReadsInOrder : CouplersGiveReadsInOrder := by
  intro i s hs hi hr hf
  refine ⟨fun e rest late badLanes bad he hpass hvis hbad => ⟨_, couplerRead_takes hs hi hr hf hpass hvis hbad, ?_⟩,
    fun late badLanes hno => ⟨_, couplerRead_empty hs hi hr hf (.inl hno), ?_⟩,
    fun late badLanes => ⟨_, couplerRead_idle hs hi hr hf, ?_⟩,
    fun late badLanes => ⟨_, couplerRead_empty hs hi hr hf (.inr rfl), ?_⟩⟩
  · obtain ⟨honly, htold, hcpls⟩ := CplOnly.trans (s.putEdge_cframe i ((s.cpl i).atReadEdge late false) false)
      (State.takeEntry_cplOnly _ i bad) (by simp) (fun _ hp => hp)
    refine ⟨honly, htold, hcpls, ?_⟩
    rw [State.takeEntry_page, State.takeEntry_out, State.putEdge_page]
    exact ⟨congrArg List.tail he, rfl, rfl, congrArg (fun l => { s.out with cplRead := some (l, bad, false) })
      (congrArg (List.headD · []) he), rfl, rfl⟩
  · obtain ⟨honly, -, hcpls⟩ := (s.setCpl_cplOnly i ((s.cpl i).atReadEdge late false)).trans
      (State.answerRead_cplOnly _ i (List.replicate (cplLaneCount i) idleWord, [], true)) (rs := [.cpls, .out])
      (by simp) (by simp)
    refine ⟨honly, hcpls, ?_, rfl⟩
    rw [State.readEmpty, State.answerRead_cpl, State.putEdge_page]
    rfl
  · obtain ⟨honly, -, hcpls⟩ := s.setCpl_cplOnly i ((s.cpl i).atReadEdge late false)
    refine ⟨honly, hcpls, ?_⟩
    rw [State.putEdge_page]
    rfl
  · obtain ⟨honly, htold, hcpls⟩ := CplOnly.trans (s.putEdge_cframe i ((s.cpl i).atReadEdge late true) true)
      (State.answerRead_cplOnly _ i (List.replicate (cplLaneCount i) idleWord, [], true)) (rs := [.cpls, .pool, .out])
      (by simp) (by simp)
    refine ⟨honly, htold, hcpls, ?_⟩
    rw [State.readEmpty, State.answerRead_cpl, State.putEdge_page]
    exact ⟨rfl, rfl, rfl, rfl, by simp [State.answerRead, State.putEdge, idleWord]⟩

/-! ## Pointers and flags (R208, R211, R218, R219) -/

theorem ungray_gray (n : BitVec 5) : ungray (gray n) = n := by
  revert n
  decide

/-- The codes of successive places differ in one bit, as do those of the last place and the first (R208). -/
theorem grayStep_oneBit (n : BitVec 5) : ∃ i, i < 5 ∧ grayStep n = n ^^^ BitVec.ofNat 5 (2 ^ i) := by
  revert n
  decide

/-- A step of the other side's pointer is seen once the edges of the stages have come (R211). -/
theorem CplSide.edge_through {x : CplSide} {sync t : Nat} {late : Bool} (hd : x.due = [t])
    (h : t + sync + 1 + b2n late ≤ x.edges + 1) :
    (x.edge sync late).sees = grayStep x.sees ∧ (x.edge sync late).due = [] := by
  simp [CplSide.edge, hd, h]

theorem CplSide.edge_waits {x : CplSide} {sync t : Nat} {late : Bool} (hd : x.due = [t])
    (h : x.edges + 1 < t + sync + 1 + b2n late) :
    (x.edge sync late).sees = x.sees ∧ (x.edge sync late).due = [t] := by
  simp [CplSide.edge, hd, Nat.not_le.2 h]

/-- A flag that has come through is applied as the state says (R218, R219). -/
theorem Coupler.flagEdge_applied {c : Coupler} {now t : Nat} (hf : c.flight = some t) (ht : t < now)
    (h : c.sync < c.crossed + 1 ∨ t + 7 ≤ now) : c.flagEdge now = { c with
      flight := none
      moded := if c.state = .draining then true else c.moded
      modedAt := if c.state = .draining then now else c.modedAt
      hold := if c.state = .draining then c.hold else decide (c.state = .holding) } := by
  simp only [Coupler.flagEdge, hf, if_neg (Nat.not_le.2 ht), if_pos h]
  cases hs : c.state <;> simp

theorem Coupler.flagEdge_crosses {c : Coupler} {now t : Nat} (hf : c.flight = some t) (ht : t < now)
    (hc : c.crossed + 1 ≤ c.sync) (hn : now < t + 7) : c.flagEdge now = { c with crossed := c.crossed + 1 } := by
  have hno : ¬(c.sync < c.crossed + 1 ∨ t + 7 ≤ now) := by omega
  simp only [Coupler.flagEdge, hf, if_neg (Nat.not_le.2 ht), if_neg hno]

theorem couplersCrossByPointers : CouplersCrossByPointers := by
  refine ⟨fun n => ⟨ungray_gray n, grayStep_oneBit n⟩,
    fun x sync t late hd => ⟨CplSide.edge_through hd, CplSide.edge_waits hd⟩,
    fun c now t hf ht => ⟨fun h => ?_, Coupler.flagEdge_crosses hf ht⟩,
    fun i req late ptrBad lanes badLanes s hi => ⟨fun h => ?_, fun h => ?_⟩⟩
  · rw [Coupler.flagEdge_applied hf ht h]
    refine ⟨fun hst => ?_, fun hst => ?_, fun hst => ?_, rfl⟩ <;> simp [hst]
  · exact (if_pos hi).trans (act_idle (.inr h))
  · exact (if_pos hi).trans (act_idle (.inr h))

/-- Settles O32: a coupler's ends by its own page, an entry by the three ends of an offer, a read by what its edge
sees, and both pointers by one step of the Gray code. -/
theorem couplerStatesAndEntries : Obligations.CouplerStatesAndEntries :=
  ⟨couplersReachTheirEnds, couplersTakeWritesInOrder, couplersGiveReadsInOrder, couplersCrossByPointers⟩

end Sys2Proof.Machine
end
